-- ==== Sys2Proof/Word.lean ====
section
/-! DEFINITION. The words of the AX416: bytes, 16-bit and 32-bit quantities, and the bounded numbers of stations,
points, categories, outputs and table entries. -/

namespace Sys2Proof

/-- One byte of the line or of the local port (R182). -/
abbrev Byte := BitVec 8

/-- A 16-bit quantity: a digest (R25, R178), a line counter (R110). -/
abbrev Word16 := BitVec 16

/-- A 32-bit quantity: a line count, a raise stamp, the silence mark (R21, R24, R82). -/
abbrev Word32 := BitVec 32

/-- A station number, 0 to 15 (00_scope.md, Conventions). -/
abbrev StationId := Fin 16

/-- A point number within a station, 0 to 15. -/
abbrev PointId := Fin 16

/-- An alarm category, 0 to 7. -/
abbrev CategoryId := Fin 8

/-- An output, OUT0 to OUT7. -/
abbrev OutputId := Fin 8

/-- An index of the system event table, 0 to 255 (R1). -/
abbrev EntryIndex := Fin 256

end Sys2Proof
end

