-- ==== Sys2Proof/Config.lean ====
section
/-! DEFINITION. The free values: what the manual leaves open. Each is a constant with no body, so no proof can see its
value, and a claim that holds, holds whatever it is. -/

namespace Sys2Proof

/-- The four line-count bytes that STATUS READ clocks out while the line count is invalid: R163 and R186 give the
count and its validity, and no value for the count while it is invalid. Applied to the model's own counter
`State.freeCount`, so that two reads are not bound to agree (log entry 4). -/
opaque Config.invalidCountBytes : Nat → Word32

/-- The four last-heard bytes that ROSTER READ clocks out while the last-heard count is unknown: R186 gives the mark
for unknown and no value for the count beside it. Applied to `State.freeCount` (log entry 5). -/
opaque Config.unknownHeardBytes : Nat → Word32

/-- Which of the four reasons of R49 is found for an entry that is HELD with no acknowledger: none of the five cases
of R49 matches it. R4 rules such an entry out, a foreign segment can still carry one. Applied to the entry's index and
to the claimed occurrence (log entry 6). -/
opaque Config.heldUnackedReason : EntryIndex → Byte → Fin 4

end Sys2Proof
end

