-- ==== Sys2Proof/Syntax.lean ====
section
/-! DEFINITION. The commands of the AX416: one constructor of `Instr` for each row of spec/opcode_table.json, with the
operands the spec gives it. A row is a command of the local port, or an event on the line, at a pin or at a timer. -/

namespace Sys2Proof

/-- The two levels of the alarm line (R90): a 0 bit is dominant, a 1 bit recessive. -/
inductive LineLevel where
  | dominant
  | recessive
  deriving DecidableEq, Repr

/-- One byte as a receiver assembles it: the lead bit it sampled, the eight data bits, the tail bit (R92, R99). -/
structure RxByte where
  lead : LineLevel
  data : Byte
  tail : LineLevel
  deriving DecidableEq, Repr

/-- A frame as a receiver assembled it up to the veto slot (R95, R99). -/
structure RxFrame where
  bytes : List RxByte
  deriving DecidableEq, Repr

/-- Payload of a PRESENCE notice (R183): the bytes as carried, whatever values they hold (R184). -/
structure PresencePayload where
  state         : Byte
  profileDigest : Word16
  tableDigest   : Word16
  lineCount     : Word32
  roster        : Vector Byte 8
  deriving DecidableEq, Repr

/-- Payload of a POINT notice (R183): byte 3 holds the reminder count in bits 0-3 and the condition in bit 7. -/
structure PointPayload where
  point      : Byte
  category   : Byte
  occurrence : Byte
  status     : Byte
  deriving DecidableEq, Repr

/-- Payload of a CLAIM notice (R183). -/
structure ClaimPayload where
  origin     : Byte
  point      : Byte
  occurrence : Byte
  deriving DecidableEq, Repr

/-- Payload of a LOST notice (R183): byte 0 holds the target in bits 0-3 and the unknown marker in bit 7. -/
structure LostPayload where
  target    : Byte
  lastHeard : Word32
  deriving DecidableEq, Repr

/-- Payload of a JOIN notice (R183). -/
structure JoinPayload where
  mode          : Byte
  profileDigest : Word16
  deriving DecidableEq, Repr

/-- The 5-byte entry form (R185): index, status bits, occurrence, category byte, acknowledger byte. -/
structure EntryForm where
  index        : Byte
  status       : Byte
  occurrence   : Byte
  category     : Byte
  acknowledger : Byte
  deriving DecidableEq, Repr

/-- Payload of a SNAPSHOT segment (R183): line count, first and last index, and the entries carried. -/
structure SnapshotPayload where
  lineCount : Word32
  first     : Byte
  last      : Byte
  entries   : List EntryForm
  deriving DecidableEq, Repr

/-- The content of a frame, by kind (R95, R183). -/
inductive Notice where
  | presence (p : PresencePayload)
  | point (p : PointPayload)
  | claim (p : ClaimPayload)
  | lost (p : LostPayload)
  | purge (origin : Byte)
  | leave (cause : Byte)
  | join (p : JoinPayload)
  | snapshot (p : SnapshotPayload)
  deriving DecidableEq, Repr

/-- The two flashers of the Output Unit (R79). -/
inductive FlasherId where
  | fast
  | slow
  deriving DecidableEq, Repr

/-- The commands, one constructor per row of spec/opcode_table.json, in the table's order. -/
inductive Instr where
  /-- HARDWARE_RESET (R124, R175): a RESETN pulse or power-on; `ids` are the levels of ID0 (bit 0) to ID3 (bit 3). -/
  | hardwareReset (ids : BitVec 4)
  /-- STATUS_READ (R163). -/
  | statusRead
  /-- ENTRY_READ (R164): the index byte. -/
  | entryRead (index : Byte)
  /-- ENTRY_SCAN (R164): the start index and the set of phases, bit n naming the phase of code n. -/
  | entryScan (start phases : Byte)
  /-- ROSTER_READ (R164): the station byte. -/
  | rosterRead (station : Byte)
  /-- NOTIFY_READ (R171): the command is taken. -/
  | notifyRead
  /-- NOTIFY_READ_COMPLETE (R171): the last of its 8 response bytes has been clocked out. -/
  | notifyReadComplete
  /-- COUNTERS_READ (R165). -/
  | countersRead
  /-- COUNTERS_CLEAR (R165). -/
  | countersClear
  /-- ACKNOWLEDGE (R46): the entry index. -/
  | acknowledge (index : Byte)
  /-- PURGE (R166): the origin byte. -/
  | purge (origin : Byte)
  /-- SILENCE (R82). -/
  | silence
  /-- SOFT_POINT (R34): the point byte and the level byte. -/
  | softPoint (point level : Byte)
  /-- PROFILE_LOAD (R177, R187): the 26 argument bytes. -/
  | profileLoad (image : Vector Byte 26)
  /-- SETUP_LOAD (R180, R187): the 130 argument bytes. -/
  | setupLoad (image : Vector Byte 130)
  /-- START (R181). -/
  | start
  /-- LEAVE (R125). -/
  | leave
  /-- UNKNOWN_COMMAND (R160): a command byte that LP does not know. -/
  | unknownCommand (code : Byte)
  /-- COMMAND_DISCARDED (R161): CSN rises before the command is taken. -/
  | commandDiscarded
  /-- QUALIFY_TIMER_EXPIRY (R31): the point's qualify timer has reached 0. -/
  | qualifyTimerExpiry (point : PointId)
  /-- RELEASE_TIMER_EXPIRY (R32): the point's release timer has reached 0. -/
  | releaseTimerExpiry (point : PointId)
  /-- REMINDER_EXPIRY (R41): the point's reminder timer expires. -/
  | reminderExpiry (point : PointId)
  /-- LINE_IDLE (R93): LC has seen eleven recessive bit-times outside any frame. -/
  | lineIdle
  /-- ATTEMPT_START (R116). -/
  | attemptStart
  /-- ARBITRATION_LOST (R97): a recessive bit of the arbitration field reads back dominant. -/
  | arbitrationLost
  /-- SENDER_FAULT (R105): a read-back differs; `bitTimesToSlot` bit-times lie between it and the veto slot. -/
  | senderFault (bitTimesToSlot : Nat)
  /-- FRAME_ABANDONED (R100). -/
  | frameAbandoned
  /-- PRESENCE_ACCEPTED (R135). -/
  | presenceAccepted (sender : StationId) (payload : PresencePayload)
  /-- POINT_ACCEPTED (R9). -/
  | pointAccepted (sender : StationId) (payload : PointPayload)
  /-- CLAIM_ACCEPTED (R49). -/
  | claimAccepted (sender : StationId) (payload : ClaimPayload)
  /-- LOST_ACCEPTED (R140). -/
  | lostAccepted (sender : StationId) (payload : LostPayload)
  /-- PURGE_ACCEPTED (R18): the origin byte. -/
  | purgeAccepted (sender : StationId) (origin : Byte)
  /-- LEAVE_ACCEPTED (R132): the cause byte. -/
  | leaveAccepted (sender : StationId) (cause : Byte)
  /-- JOIN_ACCEPTED (R131). -/
  | joinAccepted (sender : StationId) (payload : JoinPayload)
  /-- SNAPSHOT_ACCEPTED (R153). -/
  | snapshotAccepted (sender : StationId) (payload : SnapshotPayload)
  /-- FRAME_VETOED (R102): the veto slot was dominant; `received` is the frame as this receiver assembled it. -/
  | frameVetoed (received : RxFrame)
  /-- FRAME_DISCARDED_DAMAGED (R102): a damaged frame whose veto slot was recessive. -/
  | frameDiscardedDamaged (received : RxFrame)
  /-- PRESENCE_TIMER_EXPIRY (R133). -/
  | presenceTimerExpiry
  /-- PROMOTION_TIMER_EXPIRY (R115). -/
  | promotionTimerExpiry
  /-- SILENCE_TIMER_EXPIRY (R137): the record whose silence timer expires. -/
  | silenceTimerExpiry (station : StationId)
  /-- MUTE_TIMER_EXPIRY (R127). -/
  | muteTimerExpiry
  /-- WINDOW_TIMER_EXPIRY (R143). -/
  | windowTimerExpiry
  /-- ATTEMPT_TIMER_EXPIRY (R148). -/
  | attemptTimerExpiry
  /-- PULSE_TIMER_EXPIRY (R85): the output whose pulse timer reaches 0. -/
  | pulseTimerExpiry (output : OutputId)
  /-- FLASHER_PHASE_CHANGE (R79): the flasher that passes to its other phase. -/
  | flasherPhaseChange (flasher : FlasherId)
  /-- PROMPT_TIMER_EXPIRY (R174). -/
  | promptTimerExpiry
  /-- ATTN_RELEASE_END (R174). -/
  | attnReleaseEnd
  /-- INPUT_SAMPLE (R31): the levels of IN0 (bit 0) to IN15 (bit 15) at the sample, 1 for high. -/
  | inputSample (levels : BitVec 16)
  /-- FRAME_START (R94): the first dominant bit-time on an idle line. -/
  | frameStart
  deriving DecidableEq, Repr

end Sys2Proof
end

