-- ==== Sys2Proof/Decode.lean ====
section
/-! DEFINITION. What the bytes of a local port transaction command (R160, R161, R186), and the command a word spells by the
table's bits. No row of the table gives bits. -/

namespace Sys2Proof

/-- No row of spec/opcode_table.json gives bits (98_reader.md: n_rows_with_fixed 0), so no word spells a command. -/
def decodeTableWord (_nbits _w : Nat) : Option Instr := none

/-! ## Command bytes of the local port -/

/-- The argument bytes of a command code, none for a code that LP does not know (R186). -/
def argumentLength (code : Byte) : Option Nat :=
  match code.toNat with
  | 0x01 | 0x05 | 0x06 | 0x07 | 0x12 | 0x30 | 0x31 => some 0
  | 0x02 | 0x04 | 0x10 | 0x11 => some 1
  | 0x03 | 0x13 => some 2
  | 0x20 => some 26
  | 0x21 => some 130
  | _ => none

/-- How many argument bytes follow a command byte; a code that LP does not know has none (R160). -/
def argumentBytes (code : Byte) : Nat := (argumentLength code).getD 0

/-- Argument bytes as a load's image. -/
def imageOf (n : Nat) (args : List Byte) : Vector Byte n := Vector.ofFn fun i => args.getD i.1 0

/-- The command that a code and its argument bytes give (R186); a code that LP does not know is an unknown command (R160). -/
def portCommand (code : Byte) (args : List Byte) : Instr :=
  let arg := fun k => args.getD k 0
  match code.toNat with
  | 0x01 => .statusRead
  | 0x02 => .entryRead (arg 0)
  | 0x03 => .entryScan (arg 0) (arg 1)
  | 0x04 => .rosterRead (arg 0)
  | 0x05 => .notifyRead
  | 0x06 => .countersRead
  | 0x07 => .countersClear
  | 0x10 => .acknowledge (arg 0)
  | 0x11 => .purge (arg 0)
  | 0x12 => .silence
  | 0x13 => .softPoint (arg 0) (arg 1)
  | 0x20 => .profileLoad (imageOf 26 args)
  | 0x21 => .setupLoad (imageOf 130 args)
  | 0x30 => .start
  | 0x31 => .leave
  | _ => .unknownCommand code

/-- The command of a transaction in which the processor clocked these whole bytes before CSN rose: it is taken once its last
argument byte is complete, and discarded when CSN rises before that (R161). Bytes past the arguments are ignored (R160). -/
def transactionCommand : List Byte → Instr
  | [] => .commandDiscarded
  | code :: rest =>
    if rest.length < argumentBytes code then .commandDiscarded
    else portCommand code (rest.take (argumentBytes code))

end Sys2Proof
end

