-- ==== Sys2Proof/Machine/State.lean ====
section
/-! DEFINITION. The state of the AX416 as plain data, block by block (00_scope.md, Functional Blocks), the reasons a step
could stop, and the state after hardware reset. INVENTORY.md lists every field with its rule and its reset value. -/

namespace Sys2Proof.Machine

/-- The spec names no fault of the station, so there is none: every command ends in a next state. -/
inductive Fault : Type
  deriving DecidableEq, Repr

/-- Why a command could be refused by the model. -/
inductive Refusal where
  /-- Raised by an arm of `exec` for a command that has no meaning yet; safe: nothing can be proved of it. No arm of
  this model raises it. -/
  | notModelled (mnemonic : String)
  deriving DecidableEq, Repr

/-! ## Names of states, modes and codes -/

/-- Own station state (R123). -/
inductive StationState where
  | configuring
  | listening
  | joining
  | member
  | syncing
  | muted
  | leaving
  | offline
  | refused
  deriving DecidableEq, Repr

/-- State of a roster record (R129). -/
inductive RosterState where
  | absent
  | joining
  | syncing
  | present
  | lost
  | left
  deriving DecidableEq, Repr

/-- Phase of an entry (R4). -/
inductive Phase where
  | quiet
  | raised
  | held
  | lapsed
  deriving DecidableEq, Repr

/-- ACTIVE or INACTIVE: an entry's condition (R1), a point's raw level and qualified state (R28). -/
inductive Condition where
  | active
  | inactive
  deriving DecidableEq, Repr

/-- Acknowledgement mode of a category (R5). -/
inductive AckMode where
  | none
  | active
  | latch
  deriving DecidableEq, Repr

/-- Why a station is REFUSED (R123). -/
inductive RefusalReason where
  | profileMismatch
  | noResponse
  deriving DecidableEq, Repr

/-- Cause carried by a LEAVE (R125). -/
inductive LeaveCause where
  | commanded
  | vetoLimit
  deriving DecidableEq, Repr

/-- Mode of a join attempt (R144). -/
inductive JoinMode where
  | join
  | resync
  deriving DecidableEq, Repr

/-- The state from which the station entered MUTED (R123). -/
inductive EntryState where
  | member
  | joining
  | syncing
  deriving DecidableEq, Repr

/-- Mode of an output rule (R73). -/
inductive OutputMode where
  | off
  | level
  | annunciate
  | audible
  | pulse
  deriving DecidableEq, Repr

/-- Basis of a LEVEL output (R73). -/
inductive Basis where
  | condition
  | phase
  deriving DecidableEq, Repr

/-- Level of an output pin (R74). -/
inductive PinLevel where
  | undriven
  | high
  | low
  deriving DecidableEq, Repr

/-- Source of a point (R28). -/
inductive PointSource where
  | input (line : Fin 16)
  | soft
  | unused
  deriving DecidableEq, Repr

/-- Result code of a command (R162). -/
inductive ResultCode where
  | ok
  | badCommand
  | badArgument
  | wrongState
  | busy
  | full
  | notPending
  | noAck
  | empty
  deriving DecidableEq, Repr

/-! ## Configuration Store -/

/-- One category record of the profile (R176). -/
structure Category where
  level            : Fin 3
  ackMode          : AckMode
  trip             : Bool
  reminderInterval : Byte
  reminderLimit    : BitVec 4
  deriving DecidableEq, Repr

/-- The profile (R176): line rate code, P in units of 10 ms, the eight categories. -/
structure Profile where
  rate         : Fin 4
  presenceTens : Byte
  categories   : Vector Category 8
  deriving DecidableEq, Repr

/-- The setup fields of one point record (R28, R179). -/
structure PointSetup where
  source      : PointSource
  category    : CategoryId
  activeLow   : Bool
  qualifyTime : Byte
  releaseTime : Byte
  deriving DecidableEq, Repr

/-- One output rule (R73); bit s of the origin mask is station s, bit c of the category mask is category c. -/
structure OutputRule where
  mode            : OutputMode
  origins         : BitVec 16
  categories      : BitVec 8
  basis           : Basis
  includeOrphaned : Bool
  activeLow       : Bool
  tripForcing     : Bool
  safeOn          : Bool
  pulseTens       : Byte
  deriving DecidableEq, Repr

/-- The setup (R179); a prompt period of 0 tens means none (R187). -/
structure Setup where
  points      : Vector PointSetup 16
  rules       : Vector OutputRule 8
  notifyMask  : BitVec 8
  promptTens  : Byte
  deriving DecidableEq, Repr

/-- What the Configuration Store holds (R175). -/
structure ConfigStore where
  stationNumber : StationId
  profile       : Option Profile
  profileDigest : Word16
  setup         : Option Setup
  deriving DecidableEq, Repr

/-! ## Event Table -/

/-- One entry of the system event table (R1). -/
structure Entry where
  phase        : Phase
  condition    : Condition
  occurrence   : Byte
  category     : Option CategoryId
  acknowledger : Option StationId
  reminders    : BitVec 4
  orphaned     : Bool
  raiseStamp   : Word32
  deriving DecidableEq, Repr

/-- A pristine entry (R2). -/
def Entry.pristine : Entry :=
  { phase := .quiet, condition := .inactive, occurrence := 0, category := none, acknowledger := none,
    reminders := 0, orphaned := false, raiseStamp := 0 }

/-- What the Event Table block holds (R1, R21). -/
structure EventTable where
  table      : Vector Entry 256
  lineCount  : Word32
  countValid : Bool
  deriving DecidableEq, Repr

/-! ## Roster Unit -/

/-- One roster record (R129); a last-heard count of `none` is the mark unknown, a silence timer of `none` is stopped. -/
structure RosterRecord where
  state     : RosterState
  lastHeard : Option Word32
  suspect   : Bool
  silence   : Option Nat
  deriving DecidableEq, Repr

/-- A roster record after hardware reset and after START (R129). -/
def RosterRecord.absent : RosterRecord :=
  { state := .absent, lastHeard := none, suspect := false, silence := none }

/-- What the Roster Unit holds (R123, R126, R129, R133, R142, R144, R150). Timers are stopped (`none`) or hold the
milliseconds remaining. -/
structure RosterUnit where
  state          : StationState
  refusal        : Option RefusalReason
  entryState     : Option EntryState
  doubtful       : Bool
  roster         : Vector RosterRecord 16
  presenceTimer  : Option Nat
  muteTimer      : Option Nat
  windowTimer    : Option Nat
  joinMode       : Option JoinMode
  attempt        : Nat
  attemptTimer   : Option Nat
  ownJoin        : Bool
  coverage       : Vector Bool 256
  cursor         : EntryIndex
  deferredExpiry : Bool
  deriving DecidableEq, Repr

/-! ## Point Unit -/

/-- A point's reminder timer (R28, R39, R40), in milliseconds. -/
inductive ReminderTimer where
  | stopped
  | running (remaining : Nat)
  | held (remaining : Nat)
  deriving DecidableEq, Repr

/-- The fields of a point record that PU holds and changes (R28); the setup fields stand in `Setup.points`. -/
structure PointRecord where
  raw              : Condition
  qualified        : Condition
  qualify          : Option Nat
  release          : Option Nat
  occurrence       : Byte
  pendingReminders : BitVec 4
  reminder         : ReminderTimer
  queued           : Bool
  deriving DecidableEq, Repr

/-- An unloaded point record after hardware reset (R28). -/
def PointRecord.unloaded : PointRecord :=
  { raw := .inactive, qualified := .inactive, qualify := none, release := none, occurrence := 0,
    pendingReminders := 0, reminder := .stopped, queued := false }

/-! ## Send Queue and Line Controller -/

/-- Kind of a send queue item with the fields held in it (R112). -/
inductive ItemKind where
  | point (p : PointId)
  | claim (index : EntryIndex) (occurrence : Byte)
  | lost (target : StationId)
  | presence (promotion : Option Nat)
  | join (mode : JoinMode)
  | leave (cause : LeaveCause)
  | snapshot
  | purge (origin : StationId)
  deriving DecidableEq, Repr

/-- An item of the send queue (R112): kind, class and age. -/
structure Item where
  kind : ItemKind
  cls  : Fin 4
  age  : Nat
  deriving DecidableEq, Repr

/-- What the Send Queue holds (R112, R114). -/
structure SendQueue where
  items         : List Item
  nextAge       : Nat
  returnPending : Bool
  deriving DecidableEq, Repr

/-- A frame as built at the start of an attempt (R95, R116). -/
structure Frame where
  cls    : Fin 4
  sender : StationId
  notice : Notice
  deriving DecidableEq, Repr

/-- The attempt in flight: the item it carries and the frame being sent (R104, R116). -/
structure InFlight where
  item  : Item
  frame : Frame
  deriving DecidableEq, Repr

/-- The ten line counters (R110), in the order of R110. -/
structure Counters where
  framesAccepted    : Word16
  framesVetoed      : Word16
  vetoesIssued      : Word16
  ownVetoed         : Word16
  ownAbandoned      : Word16
  arbitrationLosses : Word16
  staleNotices      : Word16
  voidClaims        : Word16
  voidLost          : Word16
  voidPurges        : Word16
  deriving DecidableEq, Repr

/-- Every counter at 0 (R91, R111). -/
def Counters.zero : Counters :=
  { framesAccepted := 0, framesVetoed := 0, vetoesIssued := 0, ownVetoed := 0, ownAbandoned := 0,
    arbitrationLosses := 0, staleNotices := 0, voidClaims := 0, voidLost := 0, voidPurges := 0 }

/-- What LTX does (R90, R105): released, following the bits of the frame in flight, or still to drive the veto slot of
a frame of the station's own on which it faulted. -/
inductive LtxDrive where
  | released
  | frame
  | faultSlot
  deriving DecidableEq, Repr

/-- What the Line Controller holds (R91, R93, R94, R104, R107, R110). -/
structure LineControl where
  receiverOn : Bool
  lineIdle   : Bool
  assembling : Bool
  inFlight   : Option InFlight
  vetoCount  : Nat
  counters   : Counters
  ltx        : LtxDrive
  deriving DecidableEq, Repr

/-! ## Output Unit -/

/-- A flasher (R79): its phase, the milliseconds to its next phase change, its alignment count. -/
structure Flasher where
  on        : Bool
  remaining : Nat
  alignment : Nat
  deriving DecidableEq, Repr

/-- The set of trip reasons (R62). -/
structure TripReasons where
  table     : Bool
  ownPoint  : Bool
  uncertain : Bool
  deriving DecidableEq, Repr

/-- The empty set of trip reasons: CLEAR (R62). -/
def TripReasons.clear : TripReasons := { table := false, ownPoint := false, uncertain := false }

/-- What the Output Unit holds (R62, R74, R79, R82, R84). -/
structure OutputUnit where
  trip        : TripReasons
  silenceMark : Word32
  fast        : Flasher
  slow        : Flasher
  pulses      : Vector (Option Nat) 8
  pins        : Vector PinLevel 8
  deriving DecidableEq, Repr

/-! ## Local Port -/

/-- Cause of an ENTRY record (R172). -/
inductive EntryCause where
  | newOccurrence
  | fall
  | acked
  | reminder
  | orphaned
  | restored
  | purged
  deriving DecidableEq, Repr

/-- Subject of an OUTCOME record (R172). -/
inductive OutcomeSubject where
  | claim (index : EntryIndex)
  | purge (origin : StationId)
  deriving DecidableEq, Repr

/-- Why an OUTCOME is VOID (R172). -/
inductive VoidReason where
  | occurrenceChanged
  | noAck
  | alreadyAcked
  | notPending
  | withdrawn
  | originPresent
  deriving DecidableEq, Repr

/-- Result of an OUTCOME with its reason and winner (R53, R172). -/
inductive OutcomeResult where
  | won (winner : StationId)
  | void (reason : VoidReason) (winner : Option StationId)
  | done
  deriving DecidableEq, Repr

/-- A notification record (R172). -/
inductive Record where
  | entry (index : EntryIndex) (phase : Phase) (condition : Condition) (occurrence : Byte)
      (acknowledger : Option StationId) (cause : EntryCause)
  | outcome (subject : OutcomeSubject) (result : OutcomeResult)
  | roster (station : StationId) (state : RosterState) (cause : Option LeaveCause)
  | station (state : StationState) (reason : Option RefusalReason) (trip : TripReasons)
  | tableLoaded (lineCount : Word32)
  deriving DecidableEq, Repr

/-- The result code and the response bytes fixed when a command is taken (R161). -/
structure Reply where
  result   : ResultCode
  response : List Byte
  deriving DecidableEq, Repr

/-- A NOTIFY READ taken and not yet completed (R171): whether its item is the overflow marker, and how many records
have been dropped since it was taken, up to 255. -/
structure OpenRead where
  marker  : Bool
  dropped : Nat
  deriving DecidableEq, Repr

/-- What the Local Port holds (R161, R169 to R174). -/
structure LocalPort where
  reply        : Option Reply
  records      : List Record
  marker       : Option Nat
  openRead     : Option OpenRead
  attn         : Bool
  promptTimer  : Option Nat
  releaseTimer : Option Nat
  deriving DecidableEq, Repr

/-! ## The station -/

/-- The whole station: its eight blocks, the queue of commands waiting, and the model's own count of free values drawn. -/
structure State where
  cs        : ConfigStore
  et        : EventTable
  ru        : RosterUnit
  pu        : Vector PointRecord 16
  sq        : SendQueue
  lc        : LineControl
  ou        : OutputUnit
  lp        : LocalPort
  pending   : List Instr
  freeCount : Nat
  deriving DecidableEq, Repr

/-- A flasher at the start of a cycle with an on phase of `phase` ms and alignment count 0 (R79). -/
def Flasher.restarted (phase : Nat) : Flasher := { on := true, remaining := phase, alignment := 0 }

/-- The machine right after hardware reset, with ID0 to ID3 low and nothing waiting (R2, R28, R62, R88, R91, R112,
R124, R129, R144, R169, R173, R175; the values the spec does not give are named in log entries 1, 9 and 26). -/
def State.reset : State where
  cs := { stationNumber := 0, profile := none, profileDigest := 0, setup := none }
  et := { table := Vector.replicate 256 Entry.pristine, lineCount := 0, countValid := false }
  ru :=
    { state := .configuring, refusal := none, entryState := none, doubtful := false,
      roster := Vector.replicate 16 RosterRecord.absent, presenceTimer := none, muteTimer := none,
      windowTimer := none, joinMode := none, attempt := 0, attemptTimer := none, ownJoin := false,
      coverage := Vector.replicate 256 false, cursor := 0, deferredExpiry := false }
  pu := Vector.replicate 16 PointRecord.unloaded
  sq := { items := [], nextAge := 0, returnPending := false }
  lc :=
    { receiverOn := false, lineIdle := false, assembling := false, inFlight := none, vetoCount := 0,
      counters := Counters.zero, ltx := .released }
  ou :=
    { trip := TripReasons.clear, silenceMark := 0, fast := Flasher.restarted 250,
      slow := Flasher.restarted 1000, pulses := Vector.replicate 8 none, pins := Vector.replicate 8 .undriven }
  lp :=
    { reply := none, records := [], marker := none, openRead := none, attn := false, promptTimer := none,
      releaseTimer := none }
  pending := []
  freeCount := 0

end Sys2Proof.Machine
end

