-- ==== Sys2Proof/Machine/Layouts.lean ====
section
/-! DEFINITION. Layouts on the line and at the local port (Chapter 12), the CRC-16 (R96), the frame as bytes and as line
levels (R92, R95, R97), and the receiver's tests of a frame (R99). -/

namespace Sys2Proof.Machine

/-! ## Vectors, bit fields and byte order -/

/-- `v` with the element at `i` replaced. -/
def vset {α : Type} {n : Nat} (v : Vector α n) (i : Fin n) (a : α) : Vector α n := v.set i.1 a i.2

/-- Every element of `v` rewritten by `f`, which is told its index. -/
def vmap {α β : Type} {n : Nat} (f : Fin n → α → β) (v : Vector α n) : Vector β n := Vector.ofFn fun i => f i v[i]

/-- Bits 0-3 of a byte as a number 0 to 15. -/
def lowNibble (b : Byte) : Fin 16 := ⟨(b.extractLsb' 0 4).toNat, by have := (b.extractLsb' 0 4).isLt; omega⟩

/-- Bits 0-2 of a byte as a number 0 to 7. -/
def lowThree (b : Byte) : Fin 8 := ⟨(b.extractLsb' 0 3).toNat, by have := (b.extractLsb' 0 3).isLt; omega⟩

/-- A whole byte as a number 0 to 15, or none. -/
def byteTo16 (b : Byte) : Option (Fin 16) := if h : b.toNat < 16 then some ⟨b.toNat, h⟩ else none

/-- A whole byte as a category 0 to 7, or none. -/
def byteTo8 (b : Byte) : Option (Fin 8) := if h : b.toNat < 8 then some ⟨b.toNat, h⟩ else none

/-- A byte as an entry index: never out of range (R46). -/
def byteIndex (b : Byte) : EntryIndex := ⟨b.toNat, b.isLt⟩

/-- A station or point number as a byte. -/
def finByte {n : Nat} (i : Fin n) : Byte := BitVec.ofNat 8 i.1

/-- 16 bits, least significant byte first (R182). -/
def word16Bytes (w : Word16) : List Byte := [w.extractLsb' 0 8, w.extractLsb' 8 8]

/-- 32 bits, least significant byte first (R182). -/
def word32Bytes (w : Word32) : List Byte :=
  [w.extractLsb' 0 8, w.extractLsb' 8 8, w.extractLsb' 16 8, w.extractLsb' 24 8]

/-- A flag as a byte, 1 for yes. -/
def boolByte (b : Bool) : Byte := if b then 1 else 0

/-- Index of the entry for point `p` of origin `o` (R1). -/
def entryIndex (o : StationId) (p : PointId) : EntryIndex := ⟨o.1 * 16 + p.1, by omega⟩

/-- Origin of an entry (R76). -/
def originOf (i : EntryIndex) : StationId := ⟨i.1 / 16, by omega⟩

/-- Point number of an entry (R47). -/
def pointOf (i : EntryIndex) : PointId := ⟨i.1 % 16, by omega⟩

/-! ## The CRC-16 (R96) -/

/-- One bit into the check register. -/
def crcBit (r : Word16) (b : Bool) : Word16 :=
  if xor b (r.getLsbD 15) then (r <<< 1) ^^^ 0x1021#16 else r <<< 1

/-- One byte into the check register, least significant bit first (R92, R182). -/
def crcByte (r : Word16) (b : Byte) : Word16 := (List.range 8).foldl (fun r i => crcBit r (b.getLsbD i)) r

/-- CRC-16 of a byte string, the register starting at all ones. -/
def crc16 (bytes : List Byte) : Word16 := bytes.foldl crcByte 0xFFFF#16

/-! ## Codes (R182, R186) -/

/-- Station state codes. -/
def StationState.code : StationState → Byte
  | .configuring => 0 | .listening => 1 | .joining => 2 | .member => 3 | .syncing => 4
  | .muted => 5 | .leaving => 6 | .offline => 7 | .refused => 8

/-- Roster state codes. -/
def RosterState.code : RosterState → BitVec 4
  | .absent => 0 | .joining => 1 | .syncing => 2 | .present => 3 | .lost => 4 | .left => 5

/-- The roster state of a code, if it is one. -/
def RosterState.ofCode (c : BitVec 4) : Option RosterState :=
  match c.toNat with
  | 0 => some .absent | 1 => some .joining | 2 => some .syncing
  | 3 => some .present | 4 => some .lost | 5 => some .left | _ => none

/-- Phase codes. -/
def Phase.code : Phase → BitVec 2
  | .quiet => 0 | .raised => 1 | .held => 2 | .lapsed => 3

/-- The phase of a code. -/
def Phase.ofCode (c : BitVec 2) : Phase :=
  match c.toNat with
  | 0 => .quiet | 1 => .raised | 2 => .held | _ => .lapsed

/-- Ack mode codes. -/
def AckMode.code : AckMode → BitVec 2
  | .none => 0 | .active => 1 | .latch => 2

/-- Leave cause codes. -/
def LeaveCause.code : LeaveCause → Byte
  | .commanded => 0 | .vetoLimit => 1

/-- The leave cause of a code, if it is one. -/
def LeaveCause.ofCode (b : Byte) : Option LeaveCause :=
  match b.toNat with
  | 0 => some .commanded | 1 => some .vetoLimit | _ => none

/-- Join mode codes. -/
def JoinMode.code : JoinMode → Byte
  | .join => 0 | .resync => 1

/-- The join mode of a code, if it is one. -/
def JoinMode.ofCode (b : Byte) : Option JoinMode :=
  match b.toNat with
  | 0 => some .join | 1 => some .resync | _ => none

/-- Result codes (R186). -/
def ResultCode.code : ResultCode → Byte
  | .ok => 0 | .badCommand => 1 | .badArgument => 2 | .wrongState => 3 | .busy => 4
  | .full => 5 | .notPending => 6 | .noAck => 7 | .empty => 8

/-- Refusal reason codes, FFh when absent (R186). -/
def reasonCode : Option RefusalReason → Byte
  | some .profileMismatch => 1 | some .noResponse => 2 | none => 0xFF

/-- The trip reasons byte (R182). Bits 3 to 7, to which R182 gives no content, are 0: the model's choice (log entry 40). -/
def TripReasons.code (t : TripReasons) : Byte :=
  0#5 ++ BitVec.ofBool t.uncertain ++ BitVec.ofBool t.ownPoint ++ BitVec.ofBool t.table

/-- Codes of the causes of an ENTRY record (R186). -/
def EntryCause.code : EntryCause → Byte
  | .newOccurrence => 0 | .fall => 1 | .acked => 2 | .reminder => 3
  | .orphaned => 4 | .restored => 5 | .purged => 6

/-- Codes of the reasons of an OUTCOME record; 0 is none (R186). -/
def VoidReason.code : VoidReason → Byte
  | .occurrenceChanged => 1 | .noAck => 2 | .alreadyAcked => 3
  | .notPending => 4 | .withdrawn => 5 | .originPresent => 6

/-- A station number, or FFh for absent (R186). -/
def stationOrNone : Option StationId → Byte
  | some t => finByte t | none => 0xFF

/-- Does the condition stand ACTIVE? -/
def Condition.isActive : Condition → Bool
  | .active => true | .inactive => false

/-- ACTIVE for true. -/
def Condition.ofBool : Bool → Condition
  | true => .active | false => .inactive

/-! ## Entry form and roster form (R185) -/

/-- Byte 1 of the entry form: reminder count, orphaned, condition, phase. -/
def Entry.statusByte (e : Entry) : Byte :=
  e.reminders ++ BitVec.ofBool e.orphaned ++ BitVec.ofBool e.condition.isActive ++ e.phase.code

/-- Byte 3 of the entry form. -/
def categoryByte : Option CategoryId → Byte
  | some c => finByte c | none => 0x08

/-- Byte 4 of the entry form. -/
def acknowledgerByte : Option StationId → Byte
  | some a => finByte a | none => 0x10

/-- The entry form of entry `e` at index `i`. -/
def Entry.form (i : EntryIndex) (e : Entry) : EntryForm :=
  { index := finByte i, status := e.statusByte, occurrence := e.occurrence,
    category := categoryByte e.category, acknowledger := acknowledgerByte e.acknowledger }

/-- The five bytes of an entry form. -/
def entryFormBytes (f : EntryForm) : List Byte := [f.index, f.status, f.occurrence, f.category, f.acknowledger]

/-- The replicated fields an entry form carries, with a raise stamp given beside it. -/
def entryOfForm (f : EntryForm) (stamp : Word32) : Entry :=
  { phase := Phase.ofCode (f.status.extractLsb' 0 2)
    condition := Condition.ofBool (f.status.getLsbD 2)
    occurrence := f.occurrence
    category := if f.category.getLsbD 3 then none else some (lowThree f.category)
    acknowledger := if f.acknowledger.getLsbD 4 then none else some (lowNibble f.acknowledger)
    reminders := f.status.extractLsb' 4 4
    orphaned := f.status.getLsbD 3
    raiseStamp := stamp }

/-- The roster form: byte k holds station 2k in bits 0-3 and station 2k + 1 in bits 4-7 (R183, R185). -/
def rosterForm (roster : Vector RosterRecord 16) : Vector Byte 8 :=
  Vector.ofFn fun k : Fin 8 => roster[2 * k.1 + 1].state.code ++ roster[2 * k.1].state.code

/-- The nibble a roster form carries for station `t`. -/
def rosterNibble (form : Vector Byte 8) (t : StationId) : BitVec 4 :=
  if t.1 % 2 = 0 then form[t.1 / 2].extractLsb' 0 4 else form[t.1 / 2].extractLsb' 4 4

/-! ## The frame (R95, R97, R183) -/

/-- Kind codes (R95). -/
def noticeKind : Notice → BitVec 3
  | .presence _ => 0 | .point _ => 1 | .claim _ => 2 | .lost _ => 3
  | .purge _ => 4 | .leave _ => 5 | .join _ => 6 | .snapshot _ => 7

/-- Payload bytes of a notice (R183). -/
def noticePayload : Notice → List Byte
  | .presence p =>
    [p.state] ++ word16Bytes p.profileDigest ++ word16Bytes p.tableDigest ++ word32Bytes p.lineCount ++ p.roster.toList
  | .point p => [p.point, p.category, p.occurrence, p.status]
  | .claim p => [p.origin, p.point, p.occurrence]
  | .lost p => [p.target] ++ word32Bytes p.lastHeard
  | .purge o => [o]
  | .leave c => [c]
  | .join p => [p.mode] ++ word16Bytes p.profileDigest
  | .snapshot p => word32Bytes p.lineCount ++ [p.first, p.last] ++ p.entries.flatMap entryFormBytes

/-- Byte 0 of the arbitration field: the most significant bit of class and kind goes first on the line (R183). -/
def classKindByte (cls : Fin 4) (kind : BitVec 3) : Byte :=
  let c := BitVec.ofNat 2 cls.1
  0b111#3 ++ BitVec.ofBool (kind.getLsbD 0) ++ BitVec.ofBool (kind.getLsbD 1) ++ BitVec.ofBool (kind.getLsbD 2) ++
    BitVec.ofBool (c.getLsbD 0) ++ BitVec.ofBool (c.getLsbD 1)

/-- Byte 1 of the arbitration field (R183). -/
def senderByte (sender : StationId) : Byte :=
  let s := BitVec.ofNat 4 sender.1
  0b1111#4 ++ BitVec.ofBool (s.getLsbD 0) ++ BitVec.ofBool (s.getLsbD 1) ++ BitVec.ofBool (s.getLsbD 2) ++
    BitVec.ofBool (s.getLsbD 3)

/-- The part of a frame that the check covers (R96): arbitration field, length, payload. -/
def Frame.body (f : Frame) : List Byte :=
  [classKindByte f.cls (noticeKind f.notice), senderByte f.sender, BitVec.ofNat 8 (noticePayload f.notice).length] ++
    noticePayload f.notice

/-- The whole frame as bytes, the check with its less significant byte first (R95, R96). -/
def Frame.bytes (f : Frame) : List Byte := f.body ++ word16Bytes (crc16 f.body)

/-- The ten line levels of a byte: lead bit, data bits least significant first, tail bit (R92). -/
def byteLevels (b : Byte) : List LineLevel :=
  [.dominant] ++ (List.range 8).map (fun i => if b.getLsbD i then .recessive else .dominant) ++ [.recessive]

/-- The levels LTX gives the line for a frame, up to its veto slot (R90, R92, R95). -/
def Frame.levels (f : Frame) : List LineLevel := f.bytes.flatMap byteLevels

/-! ## The receiver's tests (R99) -/

/-- Is `len` one of the payload lengths of the kind (R95)? -/
def payloadLengthOk (kind : BitVec 3) (len : Nat) : Bool :=
  match kind.toNat with
  | 0 => len == 17
  | 1 => len == 4
  | 2 => len == 3
  | 3 => len == 5
  | 4 => len == 1
  | 5 => len == 1
  | 6 => len == 3
  | _ => len == 6 || len == 11 || len == 16 || len == 21 || len == 26 || len == 31

/-- The kind a receiver reads from byte 0 (R183). -/
def receivedKind (b : Byte) : BitVec 3 :=
  BitVec.ofBool (b.getLsbD 2) ++ BitVec.ofBool (b.getLsbD 3) ++ BitVec.ofBool (b.getLsbD 4)

/-- The data bytes a receiver assembled. -/
def rxData (f : RxFrame) : List Byte := f.bytes.map RxByte.data

/-- The length byte as received. -/
def rxLength (f : RxFrame) : Nat := ((rxData f).getD 2 0).toNat

/-- The byte count N a receiver takes from the length byte (R99). -/
def rxByteCount (f : RxFrame) : Nat := if rxLength f ≤ 32 then rxLength f + 5 else 37

/-- A FORM error (R99): a recessive lead bit, a dominant tail bit, a dominant spare bit of the arbitration field, a
length over 32, or a length that is none of the kind's. -/
def rxFormError (f : RxFrame) : Bool :=
  f.bytes.any (fun b => b.lead == .recessive || b.tail == .dominant) ||
  ((rxData f).getD 0 0).extractLsb' 5 3 != 0b111#3 ||
  ((rxData f).getD 1 0).extractLsb' 4 4 != 0b1111#4 ||
  decide (32 < rxLength f) ||
  !payloadLengthOk (receivedKind ((rxData f).getD 0 0)) (rxLength f)

/-- A CHECK error (R99): the check received differs from the check computed. -/
def rxCheckError (f : RxFrame) : Bool :=
  (rxData f).drop (rxByteCount f - 2) != word16Bytes (crc16 ((rxData f).take (rxByteCount f - 2)))

/-- The receiver's mark for the frame: damaged when any FORM or CHECK error was found (R99). -/
def rxDamaged (f : RxFrame) : Bool := rxFormError f || rxCheckError f

/-! ## Notification records (R186) -/

/-- Result and winner bytes of an OUTCOME record. -/
def OutcomeResult.bytes : OutcomeResult → List Byte
  | .won w => [0, 0, finByte w]
  | .void r w => [1, r.code, stationOrNone w]
  | .done => [2, 0, 0xFF]

/-- The bytes of a record from byte 0 on, before the unused bytes (R186). Bits 3 to 7 of an ENTRY record's phase byte, to which
R186 gives no content, are 0: the model's choice (log entry 40). -/
def Record.head : Record → List Byte
  | .entry i ph c occ ack cause =>
    [1, finByte i, 0#5 ++ BitVec.ofBool c.isActive ++ ph.code, occ, stationOrNone ack, cause.code]
  | .outcome (.claim i) r => [2, 0, finByte i] ++ r.bytes
  | .outcome (.purge o) r => [2, 1, finByte o] ++ r.bytes
  | .roster t st cause =>
    [3, finByte t, st.code.setWidth 8, match cause with | some c => c.code | none => 0xFF]
  | .station st reason trip => [4, st.code, reasonCode reason, trip.code]
  | .tableLoaded n => [5] ++ word32Bytes n

/-- Eight bytes, the unused ones 0. -/
def padTo8 (l : List Byte) : List Byte := (l ++ List.replicate 8 0).take 8

/-- A record as NOTIFY READ returns it. -/
def Record.bytes (r : Record) : List Byte := padTo8 r.head

/-- The overflow marker as NOTIFY READ returns it. -/
def markerBytes (lost : Nat) : List Byte := padTo8 [6, BitVec.ofNat 8 lost]

/-! ## Profile and setup images (R187) -/

/-- Byte `k` of category `c` in a profile image. -/
def categoryImage (img : Vector Byte 26) (c : CategoryId) (k : Fin 3) : Byte := img[2 + 3 * c.1 + k.1]

/-- Ack mode of a two-bit code; code 3 is refused at the load (R177). -/
def AckMode.ofCode (c : BitVec 2) : AckMode :=
  match c.toNat with
  | 1 => .active | 2 => .latch | _ => .none

/-- The category record in a profile image that passes the tests of R177. -/
def categoryOfImage (img : Vector Byte 26) (c : CategoryId) : Category :=
  let b := categoryImage img c 0
  { level := if h : (b.extractLsb' 0 2).toNat < 3 then ⟨_, h⟩ else 0
    ackMode := AckMode.ofCode (b.extractLsb' 2 2)
    trip := b.getLsbD 4
    reminderInterval := categoryImage img c 1
    reminderLimit := (categoryImage img c 2).setWidth 4 }

/-- The profile in an image that passes the tests of R177. -/
def profileOfImage (img : Vector Byte 26) : Profile :=
  { rate := if h : img[0].toNat < 4 then ⟨_, h⟩ else 0
    presenceTens := img[1]
    categories := Vector.ofFn (categoryOfImage img) }

/-- The tests of a profile's content with their detail numbers, in order (R177). -/
def profileTests (img : Vector Byte 26) : List (Nat × Bool) :=
  [(0, decide (3 < img[0].toNat)), (1, decide (img[1].toNat < 2))] ++
  (List.finRange 8).flatMap fun c =>
    let b := categoryImage img c 0
    [(2 + 3 * c.1, decide (2 < (b.extractLsb' 0 2).toNat)),
     (3 + 3 * c.1, decide (2 < (b.extractLsb' 2 2).toNat)),
     (4 + 3 * c.1, decide ((categoryImage img c 2).toNat = 0) || decide (15 < (categoryImage img c 2).toNat))]

/-- Detail number of the first test that fails. -/
def firstFailing (tests : List (Nat × Bool)) : Option Nat := (tests.find? (·.2)).map (·.1)

/-- Canonical bytes of one category: every spare bit 0 (R178). -/
def Category.image (c : Category) : List Byte :=
  [0#3 ++ BitVec.ofBool c.trip ++ c.ackMode.code ++ BitVec.ofNat 2 c.level.1, c.reminderInterval,
   c.reminderLimit.setWidth 8]

/-- Canonical bytes of a profile (R178). -/
def Profile.image (p : Profile) : List Byte :=
  [finByte p.rate, p.presenceTens] ++ p.categories.toList.flatMap Category.image

/-- The profile digest (R178). -/
def Profile.digest (p : Profile) : Word16 := crc16 p.image

/-- Byte `k` of point `p` in a setup image. -/
def pointImage (img : Vector Byte 130) (p : PointId) (k : Fin 5) : Byte := img[5 * p.1 + k.1]

/-- Byte `k` of output `o` in a setup image. -/
def outputImage (img : Vector Byte 130) (o : OutputId) (k : Fin 6) : Byte := img[80 + 6 * o.1 + k.1]

/-- The point source of a byte, if it names one (R187). -/
def PointSource.ofByte (b : Byte) : Option PointSource :=
  if b = 0x40 then some .soft else if b = 0x80 then some .unused else (byteTo16 b).map .input

/-- The output mode of a byte, if it names one (R182). -/
def OutputMode.ofByte (b : Byte) : Option OutputMode :=
  match b.toNat with
  | 0 => some .off | 1 => some .level | 2 => some .annunciate | 3 => some .audible | 4 => some .pulse | _ => none

/-- The tests of a setup's content with their detail numbers, in order (R179). -/
def setupTests (img : Vector Byte 130) : List (Nat × Bool) :=
  ((List.finRange 16).flatMap fun p =>
    [(2 * p.1, (PointSource.ofByte (pointImage img p 0)).isNone),
     (2 * p.1 + 1, decide (7 < (pointImage img p 1).toNat))]) ++
  (List.finRange 8).flatMap fun o =>
    [(32 + 2 * o.1, (OutputMode.ofByte (outputImage img o 0)).isNone),
     (33 + 2 * o.1, decide ((outputImage img o 5).toNat = 0))]

/-- The point setup in an image that passes the tests of R179. -/
def pointSetupOfImage (img : Vector Byte 130) (p : PointId) : PointSetup :=
  { source := (PointSource.ofByte (pointImage img p 0)).getD .unused
    category := lowThree (pointImage img p 1)
    activeLow := (pointImage img p 2).getLsbD 0
    qualifyTime := pointImage img p 3
    releaseTime := pointImage img p 4 }

/-- The output rule in an image that passes the tests of R179. -/
def outputRuleOfImage (img : Vector Byte 130) (o : OutputId) : OutputRule :=
  let flags := outputImage img o 4
  { mode := (OutputMode.ofByte (outputImage img o 0)).getD .off
    origins := outputImage img o 2 ++ outputImage img o 1
    categories := outputImage img o 3
    basis := if flags.getLsbD 0 then .phase else .condition
    includeOrphaned := flags.getLsbD 1
    activeLow := flags.getLsbD 2
    tripForcing := flags.getLsbD 3
    safeOn := flags.getLsbD 4
    pulseTens := outputImage img o 5 }

/-- The setup in an image that passes the tests of R179. -/
def setupOfImage (img : Vector Byte 130) : Setup :=
  { points := Vector.ofFn (pointSetupOfImage img)
    rules := Vector.ofFn (outputRuleOfImage img)
    notifyMask := img[128]
    promptTens := img[129] }

end Sys2Proof.Machine
end

