-- ==== Sys2Proof/Machine/Operands.lean ====
section
/-! DEFINITION. What the operands of an accepted frame say: the fields of each payload, and the values a kind does not
define, which leave the notice without effect (R154, R183, R184). Spare payload bits are ignored (R183). -/

namespace Sys2Proof.Machine

/-- The station state a PRESENCE carries: MEMBER, JOINING or SYNCING, or none for a code its kind does not define (R183, R184). -/
def presenceState (p : PresencePayload) : Option StationState :=
  match p.state.toNat with
  | 2 => some .joining | 3 => some .member | 4 => some .syncing | _ => none

/-- The roster state a PRESENCE gives its sender's record (R131). -/
def carriedRosterState : StationState → RosterState
  | .member => .present
  | .joining => .joining
  | .syncing => .syncing
  | .configuring | .listening | .muted | .leaving | .offline | .refused => .absent

/-- Every nibble of the carried roster is a roster state code (R184). -/
def carriedRosterOk (p : PresencePayload) : Bool :=
  (List.finRange 16).all fun t => (RosterState.ofCode (rosterNibble p.roster t)).isSome

/-- The state carried by a PRESENCE all of whose fields have a meaning (R184). -/
def presenceMeaning (p : PresencePayload) : Option StationState :=
  if carriedRosterOk p then presenceState p else none

/-- The state carried for station `t` in a PRESENCE (R134, R157). -/
def carriedState (p : PresencePayload) (t : StationId) : RosterState :=
  (RosterState.ofCode (rosterNibble p.roster t)).getD .absent

/-- A POINT notice's statement (1.3): point, category, occurrence n, condition c, reminder count r. -/
structure PointStatement where
  point      : PointId
  category   : CategoryId
  occurrence : Byte
  condition  : Condition
  reminders  : BitVec 4
  deriving DecidableEq, Repr

/-- The fields of a POINT payload, or none for a point over 15 or a category over 7 (R183, R184). -/
def pointMeaning (p : PointPayload) : Option PointStatement :=
  match byteTo16 p.point, byteTo8 p.category with
  | some q, some c =>
    some { point := q, category := c, occurrence := p.occurrence,
           condition := Condition.ofBool (p.status.getLsbD 7), reminders := p.status.extractLsb' 0 4 }
  | _, _ => none

/-- The entry a CLAIM names, or none for an origin or a point over 15 (R184). -/
def claimMeaning (p : ClaimPayload) : Option EntryIndex :=
  match byteTo16 p.origin, byteTo16 p.point with
  | some o, some q => some (entryIndex o q)
  | _, _ => none

/-- The target of a LOST notice (R183). -/
def lostTarget (p : LostPayload) : StationId := lowNibble p.target

/-- The count a LOST notice carries, or none under its unknown marker (R140, R183). -/
def lostCount (p : LostPayload) : Option Word32 := if p.target.getLsbD 7 then none else some p.lastHeard

/-- Is a carried entry one of those R184 names: index outside first to last, category none, an absent acknowledger
with bits 0-3 not all 0, or the pristine form (which has category none)? -/
def carriedEntryBad (p : SnapshotPayload) (f : EntryForm) : Bool :=
  decide (f.index.toNat < p.first.toNat) || decide (p.last.toNat < f.index.toNat) || f.category.getLsbD 3 ||
  (f.acknowledger.getLsbD 4 && f.acknowledger.extractLsb' 0 4 != 0#4)

/-- Are the carried indices in ascending order (R154)? -/
def ascending : List EntryForm → Bool
  | [] => true
  | [_] => true
  | f :: g :: rest => decide (f.index.toNat < g.index.toNat) && ascending (g :: rest)

/-- A malformed segment (R154, R184). -/
def segmentMalformed (p : SnapshotPayload) : Bool :=
  decide (p.last.toNat < p.first.toNat) || !ascending p.entries || p.entries.any (carriedEntryBad p)

/-- Does a segment's range hold the index (R151)? -/
def segmentCovers (p : SnapshotPayload) (i : EntryIndex) : Bool :=
  decide (p.first.toNat ≤ i.1) && decide (i.1 ≤ p.last.toNat)

end Sys2Proof.Machine
end

