-- ==== Sys2Proof/Machine/Access.lean ====
section
/-! DEFINITION. Accessors: the one way each block's state is read and rewritten. -/

namespace Sys2Proof.Machine

/-! ## Rewriting one block -/

/-- Rewrite the Configuration Store. -/
def State.onCs (s : State) (f : ConfigStore → ConfigStore) : State := { s with cs := f s.cs }
/-- Rewrite the Event Table block. -/
def State.onEt (s : State) (f : EventTable → EventTable) : State := { s with et := f s.et }
/-- Rewrite the Roster Unit. -/
def State.onRu (s : State) (f : RosterUnit → RosterUnit) : State := { s with ru := f s.ru }
/-- Rewrite the Point Unit. -/
def State.onPu (s : State) (f : Vector PointRecord 16 → Vector PointRecord 16) : State := { s with pu := f s.pu }
/-- Rewrite the Send Queue. -/
def State.onSq (s : State) (f : SendQueue → SendQueue) : State := { s with sq := f s.sq }
/-- Rewrite the Line Controller. -/
def State.onLc (s : State) (f : LineControl → LineControl) : State := { s with lc := f s.lc }
/-- Rewrite the Output Unit. -/
def State.onOu (s : State) (f : OutputUnit → OutputUnit) : State := { s with ou := f s.ou }
/-- Rewrite the Local Port. -/
def State.onLp (s : State) (f : LocalPort → LocalPort) : State := { s with lp := f s.lp }
/-- One free value has been drawn (log entry 4). -/
def State.drawFree (s : State) : State := { s with freeCount := s.freeCount + 1 }

/-! ## Configuration -/

/-- The station's own number (R175). -/
def State.own (s : State) : StationId := s.cs.stationNumber

/-- P in milliseconds (R176); 0 while no profile is held, when no timer that scales with P can start. -/
def State.presenceMs (s : State) : Nat :=
  match s.cs.profile with
  | some p => 10 * p.presenceTens.toNat
  | none => 0

/-- A category's record in the held profile (R6). -/
def State.category (s : State) (c : CategoryId) : Option Category := s.cs.profile.map fun p => p.categories[c]

/-- A category's ack mode (R6); NONE while no profile is held, when nothing is applied (log entry 23). -/
def State.ackMode (s : State) (c : CategoryId) : AckMode :=
  match s.category c with
  | some k => k.ackMode
  | none => .none

/-- Is the category a trip category in the held profile (R63)? -/
def State.isTripCategory (s : State) (c : CategoryId) : Bool :=
  match s.category c with
  | some k => k.trip
  | none => false

/-- The level as used: a trip category counts as level 0 (R6, R176). -/
def Category.usedLevel (k : Category) : Nat := if k.trip then 0 else k.level.1

/-- The setup fields of a point record, none while unloaded (R28). -/
def State.pointSetup (s : State) (p : PointId) : Option PointSetup := s.cs.setup.map fun u => u.points[p]

/-- A point's source; UNUSED while the records are unloaded (R28). -/
def State.pointSource (s : State) (p : PointId) : PointSource :=
  match s.pointSetup p with
  | some u => u.source
  | none => .unused

/-- A point is used when its source is not UNUSED (R28). -/
def State.pointUsed (s : State) (p : PointId) : Bool := s.pointSource p != .unused

/-- An output's rule, none while OU holds no rules (R73). -/
def State.rule (s : State) (o : OutputId) : Option OutputRule := s.cs.setup.map fun u => u.rules[o]

/-- Is the category in the setup's notify category mask (R179)? -/
def State.notifies (s : State) (c : CategoryId) : Bool :=
  match s.cs.setup with
  | some u => u.notifyMask.getLsbD c.1
  | none => false

/-- The prompt period in milliseconds, none when no setup is held or it gives none (R174, R179, R187). -/
def State.promptPeriod (s : State) : Option Nat :=
  match s.cs.setup with
  | some u => if u.promptTens = 0 then none else some (10 * u.promptTens.toNat)
  | none => none

/-! ## Records by number -/

/-- The entry at an index (R1). -/
def State.entry (s : State) (i : EntryIndex) : Entry := s.et.table[i]

/-- Replace the entry at an index. -/
def State.setEntry (s : State) (i : EntryIndex) (e : Entry) : State :=
  s.onEt fun t => { t with table := vset t.table i e }

/-- The own entry of a point (Chapter 2). -/
def State.ownEntry (s : State) (p : PointId) : Entry := s.entry (entryIndex s.own p)

/-- A point record (R28). -/
def State.point (s : State) (p : PointId) : PointRecord := s.pu[p]

/-- Rewrite one point record. -/
def State.onPoint (s : State) (p : PointId) (f : PointRecord → PointRecord) : State :=
  s.onPu fun v => vset v p (f v[p])

/-- Rewrite every point record. -/
def State.onPoints (s : State) (f : PointId → PointRecord → PointRecord) : State := s.onPu (vmap f)

/-- A roster record (R129). -/
def State.record (s : State) (t : StationId) : RosterRecord := s.ru.roster[t]

/-- Rewrite one roster record. -/
def State.onRecord (s : State) (t : StationId) (f : RosterRecord → RosterRecord) : State :=
  s.onRu fun r => { r with roster := vset r.roster t (f r.roster[t]) }

/-- Rewrite the line counters (R110). -/
def State.onCounters (s : State) (f : Counters → Counters) : State :=
  s.onLc fun l => { l with counters := f l.counters }

/-- One more, staying at 65535 (R110). -/
def bump (n : Word16) : Word16 := if n = 0xFFFF then n else n + 1

/-! ## Comparisons -/

/-- How an occurrence number compares with another (R8). -/
inductive OccurrenceOrder where
  | newer
  | same
  | older
  deriving DecidableEq, Repr

/-- `b` compared with `a`, from d = (b − a) mod 256 (R8). -/
def compareOccurrence (b a : Byte) : OccurrenceOrder :=
  let d := (b - a).toNat
  if d = 0 then .same else if d ≤ 127 then .newer else .older

/-- Is line count `a` later than `m` (R22)? -/
def later (a m : Word32) : Bool :=
  let d := (a - m).toNat
  decide (1 ≤ d) && decide (d ≤ 2 ^ 31 - 1)

end Sys2Proof.Machine
end

