-- ==== Sys2Proof/Machine/Flags.lean ====
section
/-! DEFINITION. Everything the station computes from its state: whether it applies frames, its reference, escalation and
item classes, the claim decision, the table digest, the trip reasons and the output pins. -/

namespace Sys2Proof.Machine

/-! ## Station state -/

/-- Is the station in this state? -/
def State.inState (s : State) (st : StationState) : Bool := s.ru.state == st

/-- Does the station apply the effects of an accepted frame to table and roster (R3, R126, R130)? -/
def State.applies (s : State) : Bool :=
  match s.ru.state with
  | .member | .leaving | .syncing => true
  | .joining => s.ru.ownJoin
  | .muted =>
    match s.ru.entryState with
    | some .member | some .syncing => true
    | some .joining => s.ru.ownJoin
    | none => false
  | .configuring | .listening | .offline | .refused => false

/-- Does the station apply the content of a SNAPSHOT segment (R149, R153)? -/
def State.appliesSegments (s : State) : Bool :=
  match s.ru.state with
  | .syncing => true
  | .joining => s.ru.ownJoin
  | .configuring | .listening | .member | .muted | .leaving | .offline | .refused => false

/-- The states in which the output modes count: MEMBER, and MUTED entered from MEMBER (R84, R86). -/
def State.modesCount (s : State) : Bool :=
  match s.ru.state with
  | .member => true
  | .muted => s.ru.entryState == some .member
  | .configuring | .listening | .joining | .syncing | .leaving | .offline | .refused => false

/-- The states in which ET pushes ENTRY records (R15, R16, R20, R52). -/
def State.pushesEntries (s : State) : Bool := s.inState .member || s.inState .muted

/-- The states in which RU pushes ROSTER records (R131). -/
def State.pushesRoster (s : State) : Bool := s.inState .member || s.inState .muted || s.inState .leaving

/-- The states in which a receiver vetoes a damaged frame (R101). -/
def StationState.vetoes : StationState → Bool
  | .listening | .joining | .syncing | .member | .leaving => true
  | .configuring | .muted | .offline | .refused => false

/-- The states in which LC starts attempts (R101, R116). -/
def StationState.sends : StationState → Bool
  | .joining | .syncing | .member | .leaving => true
  | .configuring | .listening | .muted | .offline | .refused => false

/-- The states in which configuration is loaded and START is taken (R167, R177, R179). -/
def StationState.outOfService : StationState → Bool
  | .configuring | .offline | .refused => true
  | .listening | .joining | .member | .syncing | .muted | .leaving => false

/-! ## Roster -/

/-- PRESENT, JOINING or SYNCING: the states in which a silence timer runs (R131, R137). -/
def RosterState.live : RosterState → Bool
  | .present | .joining | .syncing => true
  | .absent | .lost | .left => false

/-- JOINING or SYNCING: the states a sweep is for (R150). -/
def RosterState.rebuilding : RosterState → Bool
  | .joining | .syncing => true
  | .absent | .present | .lost | .left => false

/-- LOST, LEFT or ABSENT: the states in which a PURGE is valid (R18, R166). -/
def RosterState.gone (r : RosterState) : Bool := !r.live

/-- The states in which RU names a reference (R138). -/
def StationState.namesReference : StationState → Bool
  | .joining | .syncing | .member | .muted | .leaving => true
  | .configuring | .listening | .offline | .refused => false

/-- Does station `t` qualify as reference in this station's view (R138)? -/
def State.qualifies (s : State) (t : StationId) : Bool :=
  if t = s.own then s.inState .member else (s.record t).state == .present && !(s.record t).suspect

/-- The reference: the lowest-numbered station that qualifies (R138). -/
def State.reference (s : State) : Option StationId :=
  if s.ru.state.namesReference then (List.finRange 16).find? s.qualifies else none

/-- The station is its own reference when it names itself (R138). -/
def State.isOwnReference (s : State) : Bool := s.reference == some s.own

/-- Some roster record, the own one included, is JOINING or SYNCING (R150). -/
def State.someRebuilding (s : State) : Bool := (List.finRange 16).any fun t => (s.record t).state.rebuilding

/-- The sweep condition (R150). -/
def State.sweeps (s : State) : Bool := s.inState .member && s.isOwnReference && s.someRebuilding

/-- The coverage set holds all 256 indices (R156). -/
def State.coverageFull (s : State) : Bool := s.ru.coverage.toList.all id

/-- Number of indices in the coverage set (R163). -/
def State.coverageCount (s : State) : Nat := s.ru.coverage.toList.countP id

/-! ## Entries, points, claims -/

/-- Is the entry pristine (R2)? -/
def Entry.isPristine (e : Entry) : Bool := e == Entry.pristine

/-- Do the two entries agree in every replicated field (R1)? -/
def Entry.sameReplicated (a b : Entry) : Bool := { a with raiseStamp := 0 } == { b with raiseStamp := 0 }

/-- Do the two entries agree in every replicated field but the category (R15)? -/
def Entry.sameButCategory (a b : Entry) : Bool :=
  Entry.sameReplicated { a with category := none } { b with category := none }

/-- Escalation of an entry, computed when needed (R6). -/
def State.entryEscalated (s : State) (e : Entry) : Bool :=
  match e.category.bind s.category with
  | some k => decide (k.reminderLimit ≤ e.reminders)
  | none => false

/-- Is the entry a trip entry (R63)? -/
def State.isTripEntry (s : State) (e : Entry) : Bool :=
  match e.category with
  | some c => s.isTripCategory c
  | none => false

/-- The phase R14 leaves an entry in, given the ack mode of its category. -/
def categoryCheck (m : AckMode) (ph : Phase) : Phase :=
  match m, ph with
  | .none, .held | .none, .lapsed | .active, .lapsed => .quiet
  | .none, .quiet | .none, .raised | .active, .quiet | .active, .raised | .active, .held
  | .latch, .quiet | .latch, .raised | .latch, .held | .latch, .lapsed => ph

/-- The phase after a fall of the standing occurrence (R12). -/
def phaseAfterFall (m : AckMode) (ph : Phase) : Phase :=
  match ph with
  | .raised => if m = .latch then .lapsed else .quiet
  | .held => .quiet
  | .lapsed => if m = .latch then .lapsed else .quiet
  | .quiet => .quiet

/-- What R49 decides of a claim. -/
inductive ClaimDecision where
  | wins
  | void (reason : VoidReason)
  deriving DecidableEq, Repr

/-- The reason for a claim on an entry HELD with no acknowledger, which none of R49's cases matches: left open
(log entry 6). -/
def heldUnackedReason (i : EntryIndex) (n : Byte) : VoidReason :=
  match (Config.heldUnackedReason i n).1 with
  | 0 => .occurrenceChanged
  | 1 => .noAck
  | 2 => .alreadyAcked
  | _ => .notPending

/-- Has the entry's category ack mode NONE? An entry with category none is none of these (R49). -/
def State.entryAckNone (s : State) (e : Entry) : Bool :=
  match e.category with
  | some c => s.ackMode c == .none
  | none => false

/-- The decision on a claim of occurrence `n` of entry `e` at index `i`, the first case that matches (R49). -/
def State.claimDecision (s : State) (i : EntryIndex) (e : Entry) (n : Byte) : ClaimDecision :=
  if e.occurrence ≠ n then .void .occurrenceChanged
  else if s.entryAckNone e then .void .noAck
  else if e.acknowledger.isSome then .void .alreadyAcked
  else
    match e.phase with
    | .quiet => .void .notPending
    | .raised | .lapsed => .wins
    | .held => .void (heldUnackedReason i n)

/-- The winner an OUTCOME record names beside a void reason (R53). -/
def voidWinner (e : Entry) (r : VoidReason) : Option StationId :=
  if r = .alreadyAcked then e.acknowledger else none

/-- The phase a winning claim leaves (R50). -/
def phaseAfterWin (ph : Phase) : Phase :=
  match ph with
  | .raised => .held
  | .lapsed => .quiet
  | .quiet => .quiet
  | .held => .held

/-- Are a point's announced pair and its entry's pair equal (R35)? -/
def State.pairsEqual (s : State) (p : PointId) : Bool :=
  (s.point p).qualified == (s.ownEntry p).condition && (s.point p).occurrence == (s.ownEntry p).occurrence &&
    (s.point p).pendingReminders == (s.ownEntry p).reminders

/-- The record of a point's category, none while no setup or no profile is held. -/
def State.pointCategory (s : State) (p : PointId) : Option Category :=
  (s.pointSetup p).bind fun u => s.category u.category

/-- The class of a point item (R42). -/
def State.pointClass (s : State) (p : PointId) : Fin 4 :=
  match s.pointCategory p with
  | none => 0
  | some k =>
    Fin.ofNat 4
      (if k.reminderLimit ≤ (s.point p).pendingReminders then k.usedLevel - 1 else k.usedLevel)

/-- A point's reminder interval in milliseconds; 0 is off (R39, R176). -/
def State.reminderMs (s : State) (p : PointId) : Nat :=
  match s.pointCategory p with
  | some k => 1000 * k.reminderInterval.toNat
  | none => 0

/-- RAISED or LAPSED (R39, R46). -/
def Phase.pending : Phase → Bool
  | .raised | .lapsed => true
  | .quiet | .held => false

/-- May the point's reminder timer run (R39)? -/
def State.mayRemind (s : State) (p : PointId) : Bool :=
  s.pointUsed p && s.reminderMs p != 0 && (s.ownEntry p).phase.pending && s.inState .member

/-- The raise stamp of a new occurrence recorded now: the line count, or 0 while it is invalid (R24). -/
def State.stampNow (s : State) : Word32 := if s.et.countValid then s.et.lineCount else 0

/-- The table digest (R25, R185): 256 entry forms in index order, then the roster form. -/
def State.tableDigest (s : State) : Word16 :=
  crc16 (((List.finRange 256).flatMap fun i => entryFormBytes (Entry.form i (s.entry i))) ++
    (rosterForm s.ru.roster).toList)

/-! ## Trip reasons (R63, R66, R68) -/

/-- TABLE holds while a trip entry is in a phase other than QUIET (R63). -/
def State.tripTable (s : State) : Bool :=
  (List.finRange 256).any fun i => (s.entry i).phase != .quiet && s.isTripEntry (s.entry i)

/-- LOCAL holds while a used point of a trip category has qualified state ACTIVE (R66). -/
def State.tripOwnPoint (s : State) : Bool :=
  (List.finRange 16).any fun p =>
    s.pointUsed p && (s.point p).qualified.isActive &&
      match s.pointCategory p with
      | some k => k.trip
      | none => false

/-- UNCERTAIN by own state (R68). -/
def State.tripUncertain (s : State) : Bool :=
  s.cs.setup.isSome &&
    match s.ru.state with
    | .listening | .joining | .syncing | .leaving | .offline | .refused => true
    | .muted => s.ru.entryState == some .joining || s.ru.entryState == some .syncing
    | .configuring | .member => false

/-- The set of trip reasons as the state gives it (R62). -/
def State.tripReasons (s : State) : TripReasons :=
  { table := s.tripTable, ownPoint := s.tripOwnPoint, uncertain := s.tripUncertain }

/-- TRIPPED while the set holds at least one reason (R62). -/
def TripReasons.tripped (t : TripReasons) : Bool := t.table || t.ownPoint || t.uncertain

/-! ## Outputs (R74 to R88) -/

/-- Is the entry at index `i` matched by the rule (R76)? -/
def OutputRule.admits (r : OutputRule) (i : EntryIndex) (e : Entry) : Bool :=
  !e.isPristine && r.origins.getLsbD (originOf i).1 &&
    (match e.category with
     | some c => r.categories.getLsbD c.1
     | none => false) &&
    (!e.orphaned || r.includeOrphaned)

/-- Some matched entry satisfies `q`. -/
def State.someMatched (s : State) (r : OutputRule) (q : Entry → Bool) : Bool :=
  (List.finRange 256).any fun i => r.admits i (s.entry i) && q (s.entry i)

/-- The value of an ANNUNCIATE output (R78). -/
def State.annunciateValue (s : State) (r : OutputRule) : Bool :=
  if s.someMatched r (·.phase == .raised) then s.ou.fast.on
  else if s.someMatched r (·.phase == .lapsed) then s.ou.slow.on
  else s.someMatched r (·.phase == .held)

/-- The value an output's mode gives (R77, R78, R81, R84). -/
def State.modeValue (s : State) (o : OutputId) (r : OutputRule) : Bool :=
  match r.mode with
  | .off => false
  | .level =>
    match r.basis with
    | .condition => s.someMatched r (·.condition.isActive)
    | .phase => s.someMatched r (·.phase != .quiet)
  | .annunciate => s.annunciateValue r
  | .audible => s.someMatched r fun e => e.phase.pending && later e.raiseStamp s.ou.silenceMark
  | .pulse => s.ou.pulses[o].isSome

/-- The output value by station state and trip state (R69, R70, R86). -/
def State.outputValue (s : State) (o : OutputId) (r : OutputRule) : Bool :=
  if s.modesCount then
    if r.tripForcing && s.ou.trip.tripped then r.safeOn else s.modeValue o r
  else if r.tripForcing then r.safeOn
  else false

/-- The pin level of an output value (R74). -/
def pinOf (r : OutputRule) (value : Bool) : PinLevel := if xor value r.activeLow then .high else .low

/-- The level an output's pin is driven to (R74, R88). -/
def State.outputPin (s : State) (o : OutputId) : PinLevel :=
  match s.rule o with
  | none => .undriven
  | some r => pinOf r (s.outputValue o r)

/-- All eight pins. -/
def State.outputPins (s : State) : Vector PinLevel 8 := Vector.ofFn s.outputPin

/-- On phase, off phase length of a flasher in ms (R79). -/
def FlasherId.phaseMs : FlasherId → Nat
  | .fast => 250
  | .slow => 1000

/-- The alignment interval: the smallest k for which k × P is at least the flasher's cycle (R80). -/
def alignmentInterval (cycle period : Nat) : Nat := (cycle + period - 1) / period

end Sys2Proof.Machine
end

