-- ==== Sys2Proof/Machine/Ops.lean ====
section
/-! DEFINITION. The named operations the commands are made of, block by block, and the close of an event: trip reasons,
STATION record, output pins. -/

namespace Sys2Proof.Machine

/-! ## Local Port: replies and the notification queue (R161, R169 to R174) -/

/-- A command is taken: its result and response are fixed, and a NOTIFY READ cut short before it is over (R161, R171). -/
def State.answer (s : State) (result : ResultCode) (response : List Byte) : State :=
  s.onLp fun l => { l with reply := some { result := result, response := response }, openRead := none }

/-- The notification queue holds an item, the marker included (R173). -/
def LocalPort.holdsItem (l : LocalPort) : Bool := !l.records.isEmpty || l.marker.isSome

/-- A record pushed into the queue alone (R169, R170). -/
def LocalPort.store (l : LocalPort) (r : Record) : LocalPort :=
  match l.marker with
  | some n =>
    { l with
      marker := some (min 255 (n + 1))
      openRead := l.openRead.map fun o => { o with dropped := min 255 (o.dropped + 1) } }
  | none => if l.records.length < 31 then { l with records := l.records ++ [r] } else { l with marker := some 1 }

/-- A record pushed, with ATTN and the prompt timer: a push into an empty queue asserts ATTN and starts the timer,
unless a re-prompt release is in progress (R173, R174). -/
def LocalPort.push (l : LocalPort) (period : Option Nat) (r : Record) : LocalPort :=
  if l.holdsItem || l.releaseTimer.isSome then l.store r
  else { l.store r with attn := true, promptTimer := period }

/-- A block pushes a record (R169). -/
def State.push (s : State) (r : Record) : State := s.onLp fun l => l.push s.promptPeriod r

/-- ET pushes an ENTRY record for the entry as it now stands, when state and notify mask let it (R15, R16, R20, R52). -/
def State.pushEntry (s : State) (i : EntryIndex) (cause : EntryCause) : State :=
  let e := s.entry i
  let wanted := match e.category with
    | some c => s.notifies c
    | none => false
  if s.pushesEntries && wanted then
    s.push (.entry i e.phase e.condition e.occurrence e.acknowledger cause)
  else s

/-! ## Send Queue (R112 to R121) -/

/-- List order: by class, then by age (R113). -/
def Item.before (a b : Item) : Bool := decide (a.cls < b.cls) || (a.cls == b.cls && decide (a.age < b.age))

/-- Place an item where its class and age put it (R113). -/
def insertItem (x : Item) : List Item → List Item
  | [] => [x]
  | y :: rest => if x.before y then x :: y :: rest else y :: insertItem x rest

/-- A new item at the tail of its class with a new age (R113). -/
def SendQueue.enqueue (q : SendQueue) (kind : ItemKind) (cls : Fin 4) : SendQueue :=
  { q with items := insertItem { kind := kind, cls := cls, age := q.nextAge } q.items, nextAge := q.nextAge + 1 }

/-- A new item at the tail of its class. -/
def State.enqueue (s : State) (kind : ItemKind) (cls : Fin 4) : State := s.onSq fun q => q.enqueue kind cls

/-- Is this the PRESENCE item? -/
def ItemKind.isPresence : ItemKind → Bool
  | .presence _ => true
  | .point _ | .claim _ _ | .lost _ | .join _ | .leave _ | .snapshot | .purge _ => false

/-- Is this the JOIN item? -/
def ItemKind.isJoin : ItemKind → Bool
  | .join _ => true
  | .point _ | .claim _ _ | .lost _ | .presence _ | .leave _ | .snapshot | .purge _ => false

/-- Is this a claim item? -/
def ItemKind.isClaim : ItemKind → Bool
  | .claim _ _ => true
  | .point _ | .lost _ | .presence _ | .join _ | .leave _ | .snapshot | .purge _ => false

/-- Is this a claim item for the entry? -/
def ItemKind.isClaimOf (i : EntryIndex) : ItemKind → Bool
  | .claim j _ => i == j
  | .point _ | .lost _ | .presence _ | .join _ | .leave _ | .snapshot | .purge _ => false

/-- Is this a LOST item? -/
def ItemKind.isLost : ItemKind → Bool
  | .lost _ => true
  | .point _ | .claim _ _ | .presence _ | .join _ | .leave _ | .snapshot | .purge _ => false

/-- Is this a PURGE item? -/
def ItemKind.isPurge : ItemKind → Bool
  | .purge _ => true
  | .point _ | .claim _ _ | .lost _ | .presence _ | .join _ | .leave _ | .snapshot => false

/-- Is this a LEAVE item? -/
def ItemKind.isLeave : ItemKind → Bool
  | .leave _ => true
  | .point _ | .claim _ _ | .lost _ | .presence _ | .join _ | .snapshot | .purge _ => false

/-- Is this the point's item? -/
def ItemKind.isPointOf (p : PointId) : ItemKind → Bool
  | .point q => p == q
  | .claim _ _ | .lost _ | .presence _ | .join _ | .leave _ | .snapshot | .purge _ => false

/-- Is this a point item? -/
def ItemKind.isPoint : ItemKind → Bool
  | .point _ => true
  | .claim _ _ | .lost _ | .presence _ | .join _ | .leave _ | .snapshot | .purge _ => false

/-- Some item in the list is of the kind `k`. -/
def State.hasItem (s : State) (k : ItemKind → Bool) : Bool := s.sq.items.any fun x => k x.kind

/-- Number of items of the kind `k` in the list (R122). -/
def State.countItems (s : State) (k : ItemKind → Bool) : Nat := s.sq.items.countP fun x => k x.kind

/-- Is the item the one in flight (R104)? -/
def State.flies (s : State) (x : Item) : Bool :=
  match s.lc.inFlight with
  | some f => f.item.age == x.age
  | none => false

/-- RU asks for a PRESENCE item; none is added while one is queued (R112). Its promotion timer starts with P (R115). -/
def State.requestPresence (s : State) : State :=
  if s.hasItem ItemKind.isPresence then s else s.enqueue (.presence (some s.presenceMs)) 3

/-- RU asks for a LOST item naming a peer; none is added while one is queued for it (R112). -/
def State.requestLost (s : State) (t : StationId) : State :=
  if s.hasItem (· == .lost t) then s else s.enqueue (.lost t) 1

/-- RU asks for a SNAPSHOT item; none is added while one is queued (R112). -/
def State.requestSnapshot (s : State) : State :=
  if s.hasItem (· == .snapshot) then s else s.enqueue .snapshot 3

/-- RU replaces the JOIN item (R112, R145, R146). -/
def State.replaceJoin (s : State) (mode : JoinMode) : State :=
  (s.onSq fun q => { q with items := q.items.filter fun x => !x.kind.isJoin }).enqueue (.join mode) 3

/-- Withdraw the items of the kind `k` that are not in flight; nothing reaches software (R119, R139, R152). -/
def State.withdraw (s : State) (k : ItemKind → Bool) : State :=
  s.onSq fun q => { q with items := q.items.filter fun x => !k x.kind || s.flies x }

/-- SQ's report on an item that a LEAVE command or a change of state has removed: a point's queued flag, the OUTCOME of
a claim or a purge. The OUTCOME of an item in flight waits for its attempt (R38, R57, R120, R121). -/
def State.reportRemoved (s : State) (x : Item) : State :=
  match x.kind with
  | .point p => s.onPoint p fun r => { r with queued := false }
  | .claim i _ => if s.flies x then s else s.push (.outcome (.claim i) (.void .withdrawn none))
  | .purge o => if s.flies x then s else s.push (.outcome (.purge o) (.void .withdrawn none))
  | .lost _ | .presence _ | .join _ | .leave _ | .snapshot => s

/-- Remove every item of the kind `k` from the list and report each, in list order (R120, R121). -/
def State.removeItems (s : State) (k : ItemKind → Bool) : State :=
  (s.sq.items.filter fun x => k x.kind).foldl State.reportRemoved
    (s.onSq fun q => { q with items := q.items.filter fun x => !k x.kind })

/-- Remove one item by its age. -/
def State.dropItem (s : State) (x : Item) : State :=
  s.onSq fun q => { q with items := q.items.filter fun y => y.age != x.age }

/-- Give the items of the kind `k` another class; each keeps its age and moves to its place (R113). -/
def State.reclassItems (s : State) (k : ItemKind → Bool) (cls : Fin 4) : State :=
  s.onSq fun q =>
    { q with
      items := (q.items.filter fun x => k x.kind).foldl (fun l x => insertItem { x with cls := cls } l)
        (q.items.filter fun x => !k x.kind) }

/-! ## Point Unit (R33 to R45) -/

/-- PU recomputes the class of a queued point item (R42). -/
def State.reclassPoint (s : State) (p : PointId) : State := s.reclassItems (ItemKind.isPointOf p) (s.pointClass p)

/-- PU queues a point item at the point's class and sets the queued flag (R35, R44). -/
def State.queuePoint (s : State) (p : PointId) : State :=
  (s.enqueue (.point p) (s.pointClass p)).onPoint p fun r => { r with queued := true }

/-- The announce check; `forced` when a reminder expiry runs it (R35). -/
def State.announceCheck (s : State) (p : PointId) (forced : Bool) : State :=
  if s.inState .member && s.pointUsed p && !(s.point p).queued && (!s.pairsEqual p || forced) then s.queuePoint p else s

/-- Full re-announce: a point item for every used point not already queued (R44). -/
def State.reannounceAll (s : State) : State :=
  (List.finRange 16).foldl (fun s p => if s.pointUsed p && !(s.point p).queued then s.queuePoint p else s) s

/-- PU takes a new qualified state: a rise counts an occurrence and clears the pending reminder count; then the class
of a queued item is recomputed and the announce check runs (R33, R42). -/
def State.qualifyTo (s : State) (p : PointId) (c : Condition) : State :=
  let s := s.onPoint p fun r =>
    match c with
    | .active =>
      { r with qualified := .active, qualify := none, release := none,
               occurrence := r.occurrence + 1, pendingReminders := 0 }
    | .inactive => { r with qualified := .inactive, qualify := none, release := none }
  (s.reclassPoint p).announceCheck p false

/-- Stop every reminder timer (R40). -/
def State.stopReminders (s : State) : State := s.onPoints fun _ r => { r with reminder := .stopped }

/-- A running reminder timer is held (R40, R126). -/
def ReminderTimer.hold : ReminderTimer → ReminderTimer
  | .running n => .held n
  | .stopped => .stopped
  | .held n => .held n

/-- Hold every running reminder timer, at entry to MUTED (R40). -/
def State.holdReminders (s : State) : State := s.onPoints fun _ r => { r with reminder := r.reminder.hold }

/-- Start a point's reminder timer with the full interval when it may run (R39). -/
def State.startReminder (s : State) (p : PointId) : State :=
  if s.mayRemind p then s.onPoint p fun r => { r with reminder := .running (s.reminderMs p) } else s

/-- The reminder timers at entry to MEMBER by founding or completion (R39). -/
def State.startReminders (s : State) : State :=
  s.onPoints fun p r => if s.mayRemind p then { r with reminder := .running (s.reminderMs p) } else r

/-- The reminder timers at a clean exit from MUTED: a held one resumes, a stopped one starts if it may run (R39). -/
def State.resumeReminders (s : State) : State :=
  s.onPoints fun p r =>
    match r.reminder with
    | .held n => { r with reminder := .running n }
    | .running n => { r with reminder := .running n }
    | .stopped => if s.mayRemind p then { r with reminder := .running (s.reminderMs p) } else r

/-- At an acceptance: the timer of a point whose own entry is HELD or QUIET stops (R40). -/
def State.stopSettledReminders (s : State) : State :=
  s.onPoints fun p r => if (s.ownEntry p).phase.pending then r else { r with reminder := .stopped }

/-- Occurrence adoption for one point (R45). -/
def adoptOccurrence (e : Entry) (r : PointRecord) : PointRecord :=
  let r := if compareOccurrence e.occurrence r.occurrence = .newer then { r with occurrence := e.occurrence } else r
  let r := if r.occurrence = e.occurrence then { r with pendingReminders := e.reminders } else r
  if r.occurrence = e.occurrence ∧ r.qualified = .active ∧ e.condition = .inactive then
    { r with occurrence := r.occurrence + 1, pendingReminders := 0 }
  else r

/-- Occurrence adoption at join and resync completion: every used point whose own entry is not pristine (R45); then
the classes of queued items are recomputed (R42). -/
def State.adoptOccurrences (s : State) : State :=
  let t := s.onPoints fun p r =>
    if s.pointUsed p && !(s.ownEntry p).isPristine then adoptOccurrence (s.ownEntry p) r else r
  (List.finRange 16).foldl State.reclassPoint t

/-- At a valid PURGE of the own origin every pending reminder count becomes 0 and classes are recomputed (R43). -/
def State.resetPending (s : State) : State :=
  (List.finRange 16).foldl State.reclassPoint (s.onPoints fun _ r => { r with pendingReminders := 0 })

/-! ## Event Table (R2, R16, R20, R23) -/

/-- Every entry pristine and the line count invalid (R2); the count's value stays as it is (log entry 9). -/
def State.clearTable (s : State) : State :=
  s.onEt fun t => { t with table := Vector.replicate 256 Entry.pristine, countValid := false }

/-- The line count advances by one when it is valid (R23). -/
def State.advanceCount (s : State) : State :=
  s.onEt fun t => { t with lineCount := if t.countValid then t.lineCount + 1 else t.lineCount }

/-- ET marks one entry orphaned and pushes its ORPHANED record (R16). -/
def State.orphanEntry (s : State) (i : EntryIndex) : State :=
  if (s.entry i).isPristine || (s.entry i).orphaned then s
  else (s.setEntry i { s.entry i with orphaned := true }).pushEntry i .orphaned

/-- ET marks a departed origin's non-pristine entries orphaned (R16). -/
def State.orphanOrigin (s : State) (o : StationId) : State :=
  (List.finRange 16).foldl (fun s p => s.orphanEntry (entryIndex o p)) s

/-- The entry a valid PURGE leaves (R20). -/
def purgedEntry (e : Entry) : Entry :=
  { e with phase := .quiet, condition := .inactive, acknowledger := none, reminders := 0, orphaned := false }

/-- ET purges one entry and pushes its PURGED record (R20). -/
def State.purgeEntry (s : State) (i : EntryIndex) : State :=
  if (s.entry i).isPristine || (s.entry i).sameReplicated (purgedEntry (s.entry i)) then s
  else (s.setEntry i (purgedEntry (s.entry i))).pushEntry i .purged

/-- A valid PURGE of an origin (R20). -/
def State.purgeOrigin (s : State) (o : StationId) : State :=
  (List.finRange 16).foldl (fun s p => s.purgeEntry (entryIndex o p)) s

/-! ## Roster Unit (R129 to R131) -/

/-- Every roster record ABSENT, last-heard unknown, suspect clear, timer stopped (R129). -/
def State.clearRoster (s : State) : State :=
  s.onRu fun r => { r with roster := Vector.replicate 16 RosterRecord.absent }

/-- A roster record takes a state: entering PRESENT, JOINING or SYNCING starts the silence timer of a record other than
the own one with 3P; leaving the three stops it and clears the suspect flag (R131). -/
def RosterRecord.become (r : RosterRecord) (st : RosterState) (own : Bool) (period : Nat) : RosterRecord :=
  if r.state = st then r
  else if st.live then { r with state := st, silence := if own then none else some (3 * period) }
  else { r with state := st, silence := none, suspect := false }

/-- RU changes a roster record's state and pushes the ROSTER record (R131). -/
def State.setRoster (s : State) (t : StationId) (st : RosterState) (cause : Option LeaveCause) : State :=
  if (s.record t).state = st then s
  else
    let u := s.onRecord t fun r => r.become st (t == s.own) s.presenceMs
    if u.pushesRoster then u.push (.roster t st cause) else u

/-- RU updates the sender's record at an accepted frame (R130). -/
def State.hearSender (s : State) (t : StationId) : State :=
  s.onRecord t fun r =>
    { r with
      lastHeard := if s.et.countValid then some s.et.lineCount else none
      suspect := false
      silence := if r.state.live && t != s.own then some (3 * s.presenceMs) else r.silence }

/-- Stop every silence timer (R128, R148). -/
def State.stopSilence (s : State) : State :=
  s.onRu fun r => { r with roster := vmap (fun _ x => { x with silence := none }) r.roster }

/-- The join state's values at founding and completion (R144). -/
def State.clearJoinState (s : State) : State :=
  s.onRu fun r =>
    { r with joinMode := none, attempt := 0, attemptTimer := none, ownJoin := false,
             coverage := Vector.replicate 256 false, deferredExpiry := false }

/-! ## Line Controller -/

/-- The consecutive veto count becomes 0 (R107). -/
def State.clearVetoes (s : State) : State := s.onLc fun l => { l with vetoCount := 0 }

/-- The own attempt is over: nothing is in flight and LTX is released (R104). -/
def State.endFlight (s : State) : State := s.onLc fun l => { l with inFlight := none, ltx := .released }

/-- The frame on the line has ended or been abandoned: nothing is being assembled, LTX is released and the line is not
yet idle (R93, R100, R105). -/
def State.endFrame (s : State) : State :=
  s.onLc fun l => { l with lineIdle := false, assembling := false, ltx := .released }

/-! ## Changes of station state (R123 to R128, R143 to R148) -/

/-- The own state changes; a change out of MEMBER clears the return presence mark (R114). -/
def State.enter (s : State) (st : StationState) : State :=
  let s := s.onRu fun r => { r with state := st }
  s.onSq fun q => { q with returnPending := q.returnPending && st == .member }

/-- Every timer of RU but the silence timers stops, and a deferred expiry lapses. -/
def State.stopRuTimers (s : State) : State :=
  s.onRu fun r =>
    { r with presenceTimer := none, muteTimer := none, windowTimer := none, attemptTimer := none,
             deferredExpiry := false }

/-- Entry to OFFLINE or REFUSED (R121, R128, R107, R40): items removed with their reports, timers stopped, table and
roster frozen as they stand. -/
def State.enterOut (s : State) (st : StationState) (reason : Option RefusalReason) : State :=
  let s := (s.enter st).removeItems fun _ => true
  let s := s.stopRuTimers.stopSilence.stopReminders.clearVetoes
  s.onRu fun r => { r with refusal := reason, entryState := none }

/-- Entry to MUTED at veto exhaustion (R126, R149, R40). -/
def State.enterMuted (s : State) (from_ : EntryState) : State :=
  let s := (s.enter .muted).stopRuTimers.holdReminders
  s.onRu fun r => { r with entryState := some from_, doubtful := false, muteTimer := some (16 * s.presenceMs) }

/-- What starts with every JOIN or resync attempt: mark clear, coverage empty, mode, number, 8P, JOIN item (R145, R146). -/
def State.startAttempt (s : State) (mode : JoinMode) (n : Nat) : State :=
  let s := s.onRu fun r =>
    { r with joinMode := some mode, attempt := n, attemptTimer := some (8 * s.presenceMs), ownJoin := false,
             coverage := Vector.replicate 256 false, deferredExpiry := false }
  s.replaceJoin mode

/-- A JOIN attempt in mode JOIN starts (R145, R2, R129). -/
def State.startJoinAttempt (s : State) (n : Nat) : State := (s.clearTable.clearRoster).startAttempt .join n

/-- A resync attempt starts (R146): table, line count and roster are kept. -/
def State.startResyncAttempt (s : State) (n : Nat) : State := s.startAttempt .resync n

/-- The presence timer starts with P (R133). -/
def State.startPresenceTimer (s : State) : State := s.onRu fun r => { r with presenceTimer := some s.presenceMs }

/-- The station enters JOINING and its first JOIN attempt starts (R142, R145, R127). -/
def State.enterJoining (s : State) : State :=
  let s := (s.enter .joining).stopRuTimers.stopReminders
  let s := s.onRu fun r => { r with entryState := none }
  s.startPresenceTimer.startJoinAttempt 1

/-- The items an entry to SYNCING removes (R121). -/
def ItemKind.leftAtSyncing : ItemKind → Bool
  | .claim _ _ | .lost _ | .purge _ | .snapshot => true
  | .point _ | .presence _ | .join _ | .leave _ => false

/-- The station enters SYNCING and its first resync attempt starts (R146, R57, R121, R40). The entry keeps the point items and
the PRESENCE item and itself offers none of them; what the station offers afterwards is R114's (log entry 34). -/
def State.enterSyncing (s : State) : State :=
  let s := ((s.enter .syncing).removeItems ItemKind.leftAtSyncing).stopRuTimers.stopReminders
  let s := s.onRu fun r => { r with entryState := none }
  s.startPresenceTimer.startResyncAttempt 1

/-- The station falls back from SYNCING to LISTENING (R148). -/
def State.fallToListening (s : State) : State :=
  let s := ((s.enter .listening).removeItems fun _ => true).stopRuTimers.stopSilence.stopReminders
  s.onRu fun r => { r with windowTimer := some (4 * s.presenceMs) }

/-- The attempt has failed: the next attempt of the same mode, or REFUSED, or LISTENING (R148). -/
def State.attemptFailed (s : State) : State :=
  match s.ru.state with
  | .joining =>
    if s.ru.attempt < 3 then s.startJoinAttempt (s.ru.attempt + 1) else s.enterOut .refused (some .noResponse)
  | .syncing => if s.ru.attempt < 3 then s.startResyncAttempt (s.ru.attempt + 1) else s.fallToListening
  | .configuring | .listening | .member | .muted | .leaving | .offline | .refused => s

/-- At the end of an own attempt, an expiry of the attempt timer that came during it takes effect (R106, R148). -/
def State.takeDeferredExpiry (s : State) : State :=
  if s.ru.deferredExpiry then (s.onRu fun r => { r with deferredExpiry := false }).attemptFailed else s

/-- The station founds a system (R143). -/
def State.found (s : State) : State :=
  let s := s.clearTable.clearRoster
  let s := s.onEt fun t => { t with lineCount := 0, countValid := true }
  let s := s.onRecord s.own fun r => { r with state := .present }
  let s := (s.enter .member).stopRuTimers.clearJoinState
  let s := s.requestPresence.startPresenceTimer
  let s := s.reannounceAll.startReminders
  s.onOu fun o => { o with silenceMark := 0 }

/-- Roster adoption at completion: every record but the own one takes the state carried for it (R157). -/
def State.adoptRoster (s : State) (p : PresencePayload) : State :=
  s.onRu fun r =>
    { r with roster := vmap (fun t x => if t = s.own then x else x.become (carriedState p t) false s.presenceMs) r.roster }

/-- A join or resync completes (R156). -/
def State.complete (s : State) (p : PresencePayload) : State :=
  let s := (s.adoptRoster p).adoptOccurrences
  let s := s.onOu fun o => { o with silenceMark := s.et.lineCount }
  let s := (s.enter .member).stopRuTimers.clearJoinState
  let s := s.withdraw ItemKind.isJoin
  let s := s.requestPresence.startPresenceTimer
  let s := s.reannounceAll.startReminders
  s.push (.tableLoaded s.et.lineCount)

/-! ## The reference's duties (R138, R139, R150, R152) -/

/-- A LOST item for each suspect peer (R139). -/
def State.requestAllLost (s : State) : State :=
  (List.finRange 16).foldl
    (fun s t => if t != s.own && (s.record t).suspect then s.requestLost t else s) s

/-- The sweep starts: cursor 0 and a SNAPSHOT item (R150). -/
def State.startSweep (s : State) : State := (s.onRu fun r => { r with cursor := 0 }).requestSnapshot

/-- RU finds the reference again after an event that began in `old`: a MEMBER that stops being its own reference drops
its LOST and SNAPSHOT items, a station that becomes its own reference takes up the duties, and a sweep starts when its
condition becomes true (R138, R139, R150, R152). -/
def State.takeDuties (old s : State) : State :=
  let s := if old.isOwnReference && !s.isOwnReference && old.inState .member && s.inState .member then
      s.withdraw fun k => k.isLost || k == .snapshot
    else s
  let s := if !old.isOwnReference && s.isOwnReference then s.requestAllLost else s
  if !old.sweeps && s.sweeps then s.startSweep else s

/-! ## The close of an event -/

/-- OU takes the trip reasons of the state reached, once the whole event has been applied (R62), and stops every pulse
timer outside the states in which modes count (R87). -/
def State.settleTrip (s : State) : State :=
  s.onOu fun o =>
    { o with trip := s.tripReasons, pulses := if s.modesCount then o.pulses else Vector.replicate 8 none }

/-- One STATION record when the event that began in `old` changed the station state or the trip set (R72, R123). -/
def State.reportStation (old s : State) : State :=
  s.onLp fun l =>
    if s.ru.state ≠ old.ru.state ∨ s.ou.trip ≠ old.ou.trip then
      l.push s.promptPeriod (.station s.ru.state s.ru.refusal s.ou.trip)
    else l

/-- OU drives each pin to the level the state gives (R74, R75). -/
def State.drivePins (s : State) : State := s.onOu fun o => { o with pins := s.outputPins }

/-- The close of an event that began in `old` (R62, R72, R75). -/
def State.close (old s : State) : State := (State.reportStation old s.settleTrip).drivePins

/-! ## Veto exhaustion and the end of a failed attempt (R104 to R108, R117, R120) -/

/-- RU's answer to veto exhaustion (R108, R126). -/
def State.exhausted (s : State) : State :=
  match s.ru.state with
  | .member => s.enterMuted .member
  | .joining => s.enterMuted .joining
  | .syncing => s.enterMuted .syncing
  | .leaving => s.enterOut .offline none
  | .configuring | .listening | .muted | .offline | .refused => s

/-- An attempt that ended VETOED or ABANDONED is counted; at 8 the count returns to 0 and exhaustion is reported
(R107, R108). -/
def State.countFailure (s : State) : State :=
  if s.lc.vetoCount + 1 < 8 then s.onLc fun l => { l with vetoCount := l.vetoCount + 1 }
  else s.clearVetoes.exhausted

/-- The OUTCOME of a claim or purge whose item a LEAVE command removed while it was in flight, when the attempt fails
(R57, R120). -/
def State.reportFailed (s : State) (x : Item) : State :=
  if s.sq.items.any fun y => y.age == x.age then s
  else
    match x.kind with
    | .claim i _ => s.push (.outcome (.claim i) (.void .withdrawn none))
    | .purge o => s.push (.outcome (.purge o) (.void .withdrawn none))
    | .point _ | .lost _ | .presence _ | .join _ | .leave _ | .snapshot => s

end Sys2Proof.Machine
end

