-- ==== Sys2Proof/Machine/Configuration.lean ====
section
/-! DEFINITION. Reset, the two loads, START and LEAVE (R124, R125, R128, R175, R177, R179 to R181). -/

namespace Sys2Proof.Machine

/-- The station number the ID pins give: ID0 is the least significant bit (R175). -/
def stationOfPins (ids : BitVec 4) : StationId := ⟨ids.toNat, ids.isLt⟩

/-- Hardware reset (R124): every block at its reset state, the station number read from the pins; what is waiting
outside the part stays. -/
def execHardwareReset (ids : BitVec 4) (s : State) : Host.Outcome State Fault Refusal :=
  .next
    { State.reset with
      cs := { State.reset.cs with stationNumber := stationOfPins ids }
      pending := s.pending
      freeCount := s.freeCount }

/-! ## PROFILE LOAD (R177) -/

/-- CS takes a profile: it replaces the one held, its digest is computed, the setup is removed (R177, R178). -/
def ConfigStore.takeProfile (c : ConfigStore) (p : Profile) : ConfigStore :=
  { c with profile := some p, profileDigest := p.digest, setup := none }

/-- PU unloads its records and keeps the occurrence counters (R29). -/
def State.unloadPoints (s : State) : State :=
  s.onPoints fun _ r => { PointRecord.unloaded with occurrence := r.occurrence }

/-- Stop every pulse timer (R88). -/
def State.stopPulses (s : State) : State := s.onOu fun o => { o with pulses := Vector.replicate 8 none }

/-- LC starts its receiver and discards what it was assembling; the line is not idle until seen so (R91). A veto slot that LTX
is still due to drive after a sender fault stays due, in OFFLINE and in REFUSED (log entry 38). -/
def State.startReceiver (s : State) : State :=
  s.onLc fun l => { l with receiverOn := true, lineIdle := false, assembling := false }

/-- With the setup gone ATTN follows R173 alone: the prompt timer stops, a re-prompt release is over, and ATTN is asserted
exactly while the queue holds an item (R174, R177; log entry 17). -/
def LocalPort.dropPrompt (l : LocalPort) : LocalPort :=
  { l with promptTimer := none, releaseTimer := none, attn := l.holdsItem }

/-- An accepted PROFILE LOAD, before the close of its event (R177). -/
def State.takeProfile (s : State) (p : Profile) : State :=
  ((s.onCs fun c => c.takeProfile p).unloadPoints.stopPulses.startReceiver).onLp LocalPort.dropPrompt

/-- PROFILE LOAD (R168, R177). -/
def execProfileLoad (image : Vector Byte 26) (s : State) : Host.Outcome State Fault Refusal :=
  .next
    (if !s.ru.state.outOfService then s.answer .wrongState []
     else
      match firstFailing (profileTests image) with
      | some detail => s.answer .badArgument [BitVec.ofNat 8 detail]
      | none => State.close s ((s.takeProfile (profileOfImage image)).answer .ok []))

/-! ## SETUP LOAD (R179, R180) -/

/-- The points at a SETUP LOAD: inactive, every timer stopped, pending counts 0, occurrence counters and queued flags
kept (R29, R180). -/
def State.resetPoints (s : State) : State :=
  s.onPoints fun _ r => { PointRecord.unloaded with occurrence := r.occurrence, queued := r.queued }

/-- The prompt timer at a SETUP LOAD: with an item held it restarts with the new period or stops (R174, R180). -/
def State.restartPrompt (s : State) : State :=
  s.onLp fun l => { l with promptTimer := if l.holdsItem then s.promptPeriod else l.promptTimer }

/-- An accepted SETUP LOAD, before the close of its event (R180). -/
def State.takeSetup (s : State) (u : Setup) : State :=
  ((s.onCs fun c => { c with setup := some u }).resetPoints.stopPulses).restartPrompt

/-- SETUP LOAD (R168, R179, R180). -/
def execSetupLoad (image : Vector Byte 130) (s : State) : Host.Outcome State Fault Refusal :=
  .next
    (if !s.ru.state.outOfService || s.cs.profile.isNone then s.answer .wrongState []
     else
      match firstFailing (setupTests image) with
      | some detail => s.answer .badArgument [BitVec.ofNat 8 detail]
      | none => State.close s ((s.takeSetup (setupOfImage image)).answer .ok []))

/-! ## START (R128, R181) -/

/-- START is taken out of service with a profile and a setup held (R167, R181). -/
def State.mayStart (s : State) : Bool := s.ru.state.outOfService && s.cs.profile.isSome && s.cs.setup.isSome

/-- The station enters LISTENING at START (R2, R107, R121, R128, R142, R144). -/
def State.startStation (s : State) : State :=
  let s := ((s.enter .listening).removeItems fun _ => true).stopRuTimers
  let s := s.clearTable.clearRoster.clearJoinState.clearVetoes
  s.onRu fun r =>
    { r with refusal := none, entryState := none, doubtful := false, windowTimer := some (4 * s.presenceMs) }

/-- START (R167, R181). -/
def execStart (s : State) : Host.Outcome State Fault Refusal :=
  .next (if s.mayStart then State.close s (s.startStation.answer .ok []) else s.answer .wrongState [])

/-! ## LEAVE (R120, R125) -/

/-- The items a LEAVE command removes (R120). -/
def ItemKind.leftAtLeave : ItemKind → Bool
  | .point _ | .claim _ _ | .lost _ | .purge _ | .snapshot => true
  | .presence _ | .join _ | .leave _ => false

/-- The station enters LEAVING with a LEAVE item of the cause (R120, R125, R149, R40). -/
def State.startLeaving (s : State) (cause : LeaveCause) : State :=
  let s := ((s.removeItems ItemKind.leftAtLeave).enter .leaving).stopRuTimers.stopReminders
  let s := s.onRu fun r => { r with joinMode := none, entryState := none }
  s.enqueue (.leave cause) 2

/-- LEAVE (R125, R167). -/
def execLeave (s : State) : Host.Outcome State Fault Refusal :=
  .next
    (match s.ru.state with
     | .member | .joining | .syncing => State.close s ((s.startLeaving .commanded).answer .ok [])
     | .muted => State.close s ((s.startLeaving .vetoLimit).answer .ok [])
     | .listening => State.close s ((s.enterOut .offline none).answer .ok [])
     | .leaving => s.answer .ok []
     | .configuring | .offline | .refused => s.answer .wrongState [])

end Sys2Proof.Machine
end

