-- ==== Sys2Proof/Machine/LineControl.lean ====
section
/-! DEFINITION. The line: idle, the start of a frame, an attempt and the frame built for it, the ways an attempt fails,
and the frames a receiver discards (R93, R94, R97, R100 to R105, R109, R114, R116). -/

namespace Sys2Proof.Machine

/-! ## Idle and the start of a frame -/

/-- LC has seen eleven recessive bit-times outside any frame (R93); no veto slot is still due (R105). -/
def execLineIdle (s : State) : Host.Outcome State Fault Refusal :=
  .next
    (if s.lc.receiverOn ∧ ¬s.lc.assembling ∧ s.lc.inFlight = none then
      s.onLc fun l => { l with lineIdle := true, ltx := .released }
     else s)

/-- The first dominant bit-time on an idle line: reception starts (R94). -/
def execFrameStart (s : State) : Host.Outcome State Fault Refusal :=
  .next
    (if s.lc.receiverOn ∧ s.lc.lineIdle then s.onLc fun l => { l with lineIdle := false, assembling := true } else s)

/-! ## Attempts (R114, R116, R134, R151) -/

/-- Is an item of this kind eligible, by the station state and the return presence mark alone (R114)? In SYNCING the PRESENCE item
is, one kept at the entry too (R114, R123, R134; log entry 34 for the words of R146). -/
def State.eligible (s : State) (k : ItemKind) : Bool :=
  match s.ru.state with
  | .member => !s.sq.returnPending || k.isPresence
  | .joining | .syncing => k.isPresence || k.isJoin || k.isLeave
  | .leaving => k.isLeave
  | .configuring | .listening | .muted | .offline | .refused => false

/-- The head item: the first eligible item in list order (R114). -/
def State.headItem (s : State) : Option Item := s.sq.items.find? fun x => s.eligible x.kind

/-- The POINT payload of a point (R36, R183). -/
def State.pointPayload (s : State) (p : PointId) : PointPayload :=
  { point := finByte p
    category := match s.pointSetup p with
      | some u => finByte u.category
      | none => 0
    occurrence := (s.point p).occurrence
    status := BitVec.ofBool (s.point p).qualified.isActive ++ 0#3 ++ (s.point p).pendingReminders }

/-- The PRESENCE payload (R134). -/
def State.presencePayload (s : State) : PresencePayload :=
  { state := s.ru.state.code
    profileDigest := s.cs.profileDigest
    tableDigest := s.tableDigest
    lineCount := if s.et.countValid then s.et.lineCount else 0
    roster := rosterForm s.ru.roster }

/-- The LOST payload for a target (R140, R183). -/
def State.lostPayload (s : State) (t : StationId) : LostPayload :=
  match (s.record t).lastHeard with
  | some n => { target := finByte t, lastHeard := n }
  | none => { target := finByte t ||| 0x80#8, lastHeard := 0 }

/-- Indices of the non-pristine entries from the cursor up, in ascending order (R151). -/
def State.pendingSegment (s : State) : List EntryIndex :=
  (List.finRange 256).filter fun i => decide (s.ru.cursor ≤ i) && !(s.entry i).isPristine

/-- The SNAPSHOT payload from the cursor: up to five entries, and the index below the sixth (R151). -/
def State.segment (s : State) : SnapshotPayload :=
  { lineCount := s.et.lineCount
    first := finByte s.ru.cursor
    last := match s.pendingSegment.drop 5 with
      | [] => 255
      | i :: _ => finByte i - 1
    entries := (s.pendingSegment.take 5).map fun i => Entry.form i (s.entry i) }

/-- The notice SQ builds for an item at the start of an attempt (R116). -/
def State.buildNotice (s : State) (k : ItemKind) : Notice :=
  match k with
  | .point p => .point (s.pointPayload p)
  | .claim i n => .claim { origin := finByte (originOf i), point := finByte (pointOf i), occurrence := n }
  | .lost t => .lost (s.lostPayload t)
  | .presence _ => .presence s.presencePayload
  | .join m => .join { mode := m.code, profileDigest := s.cs.profileDigest }
  | .leave c => .leave c.code
  | .snapshot => .snapshot s.segment
  | .purge o => .purge (finByte o)

/-- The frame SQ builds for an item: the item's class, the own number, the notice (R116). -/
def State.buildFrame (s : State) (x : Item) : Frame :=
  { cls := x.cls, sender := s.own, notice := s.buildNotice x.kind }

/-- May an attempt start: the line idle, nothing being sent, a state that sends (R94, R101, R116)? After a FRAME_START the line
is no longer idle, so an attempt in that same first bit-time is one whose command comes before it (log entry 33). -/
def State.mayAttempt (s : State) : Bool :=
  s.lc.receiverOn && s.lc.lineIdle && s.lc.inFlight.isNone && s.ru.state.sends

/-- An attempt starts with an item (R94, R104, R116). -/
def State.attempt (s : State) (x : Item) : State :=
  s.onLc fun l => { l with inFlight := some { item := x, frame := s.buildFrame x }, ltx := .frame, lineIdle := false }

/-- An attempt starts with the head item, if there is one and attempts are allowed (R116). -/
def execAttemptStart (s : State) : Host.Outcome State Fault Refusal :=
  .next
    (if s.mayAttempt then
      match s.headItem with
      | some x => s.attempt x
      | none => s
     else s)

/-! ## Attempts that fail (R97, R102, R104, R105, R107, R117) -/

/-- Arbitration is lost: the attempt ends LOST, and LC goes on as a receiver of the frame (R97, R117). -/
def State.loseArbitration (s : State) (f : InFlight) : State :=
  let u := (s.onCounters fun c => { c with arbitrationLosses := bump c.arbitrationLosses }).endFlight
  let u := u.onLc fun l => { l with assembling := true }
  (u.reportFailed f.item).takeDeferredExpiry

/-- A recessive bit of the arbitration field read back dominant (R97). -/
def execArbitrationLost (s : State) : Host.Outcome State Fault Refusal :=
  .next
    (match s.lc.inFlight with
     | none => s
     | some f => State.close s (s.loseArbitration f))

/-- What follows the outcomes VETOED and ABANDONED (R106, R107, R108, R120). -/
def State.failAttempt (s : State) (f : InFlight) : State := ((s.reportFailed f.item).countFailure).takeDeferredExpiry

/-- A sender fault: the attempt ends ABANDONED, and with fewer than eleven bit-times to the veto slot LTX is due to
drive it (R105), also where the end of the attempt takes the station to MUTED, OFFLINE, REFUSED or LISTENING (log entry 13).
When another station goes on with its frame, a contender in the arbitration field or one of the same number (R98), this one
receives no more of it (log entry 36). -/
def State.faultAsSender (s : State) (f : InFlight) (bitTimesToSlot : Nat) : State :=
  let u := (s.onCounters fun c => { c with ownAbandoned := bump c.ownAbandoned }).endFlight
  let u := u.onLc fun l => { l with ltx := if bitTimesToSlot < 11 then .faultSlot else .released }
  u.failAttempt f

/-- A read-back differs outside the case of lost arbitration (R105). -/
def execSenderFault (bitTimesToSlot : Nat) (s : State) : Host.Outcome State Fault Refusal :=
  .next
    (match s.lc.inFlight with
     | none => s
     | some f => State.close s (s.faultAsSender f bitTimesToSlot))

/-! ## Frames discarded (R100, R101, R102, R109) -/

/-- Is the station a receiver of a frame (R99): its receiver runs, it is not sending, and it is assembling the frame, which
began on a line it had seen idle (R91, R94) or at which it lost arbitration (R97)? -/
def State.receiving (s : State) : Bool := s.lc.receiverOn && s.lc.inFlight.isNone && s.lc.assembling

/-- A receiver takes the frame as abandoned: it discards what it has, drives and counts nothing (R100). -/
def execFrameAbandoned (s : State) : Host.Outcome State Fault Refusal :=
  .next (if s.receiving then s.endFrame else s)

/-- The own frame is discarded with a dominant slot (R102, R104, R110). -/
def State.ownFrameVetoed (s : State) (f : InFlight) : State :=
  let u := s.onCounters fun c => { c with framesVetoed := bump c.framesVetoed, ownVetoed := bump c.ownVetoed }
  u.endFlight.endFrame.failAttempt f

/-- A receiver reaches the veto slot of a frame: it drives the slot, and counts a veto issued, when it has found the frame
damaged in a state that vetoes, whatever level is then read back (R101, R110). -/
def State.issueVeto (s : State) (rx : RxFrame) : State :=
  s.onCounters fun c =>
    { c with vetoesIssued := if rxDamaged rx && s.ru.state.vetoes then bump c.vetoesIssued else c.vetoesIssued }

/-- A receiver discards a frame with a dominant slot (R101, R102, R110). -/
def State.receivedFrameVetoed (s : State) (rx : RxFrame) : State :=
  ((s.issueVeto rx).onCounters fun c => { c with framesVetoed := bump c.framesVetoed }).endFrame

/-- The veto slot was dominant (R101, R102). In the slot of a frame it faulted on, the station is neither a sender
without fault nor a receiver, and counts nothing (R105; log entry 13). -/
def execFrameVetoed (received : RxFrame) (s : State) : Host.Outcome State Fault Refusal :=
  .next
    (if s.lc.receiverOn then
      match s.lc.inFlight with
      | some f => State.close s (s.ownFrameVetoed f)
      | none =>
        if s.lc.ltx = .faultSlot then s.endFrame
        else if s.receiving then s.receivedFrameVetoed received
        else s
     else s)

/-- A damaged frame whose veto slot is read recessive: it is discarded without being counted as vetoed, the slot driven counts
in the states that veto, and in MUTED the table becomes doubtful (R101, R102, R109, R126). -/
def State.discardDamaged (s : State) (rx : RxFrame) : State :=
  let u := (s.issueVeto rx).endFrame
  if u.inState .muted then u.onRu fun r => { r with doubtful := true } else u

/-- A receiver discards a damaged frame at the end of a recessive slot (R102, R109). -/
def execFrameDiscardedDamaged (received : RxFrame) (s : State) : Host.Outcome State Fault Refusal :=
  .next
    (if s.receiving && rxDamaged received then s.discardDamaged received else s)

end Sys2Proof.Machine
end

