-- ==== Sys2Proof/Machine/Acceptance.lean ====
section
/-! DEFINITION. What one accepted frame does (R103): the line count, the sender's record, the effect of each kind, then
points, send queue, membership and the reference's duties, in the order the rules give. -/

namespace Sys2Proof.Machine

/-! ## Whose frame it is -/

/-- How an accepted frame stands to this station. -/
inductive Arrival where
  | noEvent
  | foreign
  | own (f : InFlight)
  deriving DecidableEq, Repr

/-- The frame is the station's own when it is the one in flight: same sender, same kind; with nothing in flight it is
another's, when the station has been receiving it from its start (R91, R94, R99); any other frame cannot be accepted now (R56,
R98, R102; log entry 8). -/
def State.arrival (s : State) (sender : StationId) (n : Notice) : Arrival :=
  if !s.lc.receiverOn then .noEvent
  else
    match s.lc.inFlight with
    | none => if s.lc.assembling then .foreign else .noEvent
    | some f =>
      if f.frame.sender = sender ∧ noticeKind f.frame.notice = noticeKind n then .own f else .noEvent

/-! ## Effects of the kinds on table and roster -/

/-- The entry after the newer, same or older case, before the category check (R9 to R13). -/
def State.pointCase (s : State) (e : Entry) (n : PointStatement) : Entry :=
  let base := { e with orphaned := false, category := some n.category }
  match compareOccurrence n.occurrence e.occurrence, n.condition with
  | .newer, .active =>
    { base with phase := .raised, condition := .active, occurrence := n.occurrence, acknowledger := none,
                reminders := n.reminders, raiseStamp := s.stampNow }
  | .newer, .inactive =>
    let latch := s.ackMode n.category == .latch
    { base with phase := if latch then .lapsed else .quiet, condition := .inactive, occurrence := n.occurrence,
                acknowledger := none, reminders := n.reminders,
                raiseStamp := if latch then s.stampNow else e.raiseStamp }
  | .same, .active => { base with condition := .active, reminders := n.reminders }
  | .same, .inactive =>
    { base with condition := .inactive, reminders := n.reminders,
                phase := phaseAfterFall (s.ackMode n.category) e.phase }
  | .older, _ => base

/-- The entry a POINT notice leaves (R9 to R14). -/
def State.pointEntry (s : State) (e : Entry) (n : PointStatement) : Entry :=
  let e' := s.pointCase e n
  { e' with phase := categoryCheck (s.ackMode n.category) e'.phase }

/-- The cause of the ENTRY record of a POINT application, the first that applies (R15). -/
def pointCause (n : PointStatement) (e e' : Entry) : EntryCause :=
  let order := compareOccurrence n.occurrence e.occurrence
  if order = .newer then .newOccurrence
  else if order = .same ∧ n.condition = .inactive ∧ (e.condition ≠ e'.condition ∨ e.phase ≠ e'.phase) then .fall
  else if order = .same ∧ n.condition = .active ∧ e.reminders ≠ e'.reminders then .reminder
  else if e.orphaned then .restored
  else .fall

/-- Start the pulse timer of every PULSE output whose rule matches the entry (R84, R85). -/
def State.startPulses (s : State) (i : EntryIndex) : State :=
  s.onOu fun o =>
    { o with
      pulses := vmap (fun k t =>
        match s.rule k with
        | some r => if r.mode = .pulse ∧ r.admits i (s.entry i) then some (10 * r.pulseTens.toNat) else t
        | none => t) o.pulses }

/-- What a POINT notice does at a station that applies it (R9 to R15, R84). -/
def State.applyPoint (s : State) (sender : StationId) (n : PointStatement) : State :=
  let i := entryIndex sender n.point
  let e := s.entry i
  let e' := s.pointEntry e n
  let order := compareOccurrence n.occurrence e.occurrence
  let s := s.setEntry i e'
  let s := if order = .older then s.onCounters fun c => { c with staleNotices := bump c.staleNotices } else s
  let s := if e.sameButCategory e' then s else s.pushEntry i (pointCause n e e')
  if order = .newer ∧ s.modesCount then s.startPulses i else s

/-- What a CLAIM does at a station that applies it (R49 to R52). -/
def State.applyClaim (s : State) (sender : StationId) (i : EntryIndex) (n : Byte) : State :=
  match s.claimDecision i (s.entry i) n with
  | .wins =>
    (s.setEntry i { s.entry i with phase := phaseAfterWin (s.entry i).phase, acknowledger := some sender }).pushEntry
      i .acked
  | .void _ => s.onCounters fun c => { c with voidClaims := bump c.voidClaims }

/-- Is a LOST naming `t` valid here (R140)? -/
def State.lostValid (s : State) (t : StationId) (count : Option Word32) : Bool :=
  (s.record t).state.live &&
    match count, (s.record t).lastHeard with
    | some n, some m => n == m
    | some _, none => true
    | none, _ => true

/-- What a LOST does to record and entries (R16, R140, R141). -/
def State.applyLost (s : State) (t : StationId) (count : Option Word32) : State :=
  if s.lostValid t count then (s.setRoster t .lost none).orphanOrigin t
  else s.onCounters fun c => { c with voidLost := bump c.voidLost }

/-- What a PURGE does to the table (R18, R20). -/
def State.applyPurge (s : State) (o : StationId) : State :=
  if (s.record o).state.gone then s.purgeOrigin o
  else s.onCounters fun c => { c with voidPurges := bump c.voidPurges }

/-- What a LEAVE does to record and entries (R16, R131, R132). -/
def State.applyLeave (s : State) (sender : StationId) (cause : LeaveCause) : State :=
  (s.setRoster sender .left (some cause)).orphanOrigin sender

/-- The roster state a JOIN gives its sender (R131). -/
def JoinMode.rosterState : JoinMode → RosterState
  | .join => .joining
  | .resync => .syncing

/-- What a JOIN does to its sender's record (R131). -/
def State.applyJoin (s : State) (sender : StationId) (m : JoinMode) (digest : Word16) : State :=
  if digest = s.cs.profileDigest then s.setRoster sender m.rosterState none else s

/-- The state a PRESENCE carries, when all its fields have a meaning and its profile digest is the own one (R135,
R184). -/
def State.presenceApplies (s : State) (p : PresencePayload) : Option StationState :=
  if p.profileDigest = s.cs.profileDigest then presenceMeaning p else none

/-- What a PRESENCE does to its sender's record (R131, R135). -/
def State.applyPresence (s : State) (sender : StationId) (p : PresencePayload) : State :=
  match s.presenceApplies p with
  | some st => s.setRoster sender (carriedRosterState st) none
  | none => s

/-- The entry a segment leaves at an index (R153, steps 3 and 4). -/
def segmentEntry (p : SnapshotPayload) (count : Word32) (i : EntryIndex) (e : Entry) : Entry :=
  if segmentCovers p i then
    match p.entries.find? fun f => f.index == finByte i with
    | some f => entryOfForm f count
    | none => Entry.pristine
  else e

/-- Steps 3 to 6 of R153: the entries, the coverage set, the attempt timer. -/
def State.applySegment (s : State) (p : SnapshotPayload) : State :=
  let s := s.onEt fun t => { t with table := vmap (segmentEntry p t.lineCount) t.table }
  s.onRu fun r =>
    { r with
      coverage := vmap (fun i c => c || segmentCovers p i) r.coverage
      attemptTimer := some (8 * s.presenceMs) }

/-- Does the station take the line count and the content of a segment of this sender (R153)? -/
def State.takesSegment (s : State) (sender : StationId) : Bool :=
  s.appliesSegments && (s.record sender).state == .present

/-- The line count at acceptance: the carried count plus one where a segment is taken, else the advance by one (R23,
R153). -/
def State.countFrame (s : State) (sender : StationId) (n : Notice) : State :=
  match n with
  | .snapshot p =>
    if s.takesSegment sender then s.onEt fun t => { t with lineCount := p.lineCount + 1, countValid := true }
    else s.advanceCount
  | .presence _ | .point _ | .claim _ | .lost _ | .purge _ | .leave _ | .join _ => s.advanceCount

/-- The kind's own effect on table and roster, at a station that applies the frame; `taken` says whether it takes the
content of a segment (R103, R184). -/
def State.applyKind (s : State) (sender : StationId) (taken : Bool) (n : Notice) : State :=
  match n with
  | .presence p => s.applyPresence sender p
  | .point p =>
    match pointMeaning p with
    | some st => s.applyPoint sender st
    | none => s
  | .claim p =>
    match claimMeaning p with
    | some i => s.applyClaim sender i p.occurrence
    | none => s
  | .lost p => s.applyLost (lostTarget p) (lostCount p)
  | .purge o =>
    match byteTo16 o with
    | some t => s.applyPurge t
    | none => s
  | .leave c =>
    match LeaveCause.ofCode c with
    | some cause => s.applyLeave sender cause
    | none => s
  | .join p =>
    match JoinMode.ofCode p.mode with
    | some m => s.applyJoin sender m p.profileDigest
    | none => s
  | .snapshot p => if taken && !segmentMalformed p then s.applySegment p else s

/-- Table, line count and roster after an accepted frame, at a station that applies it: the count first, then the
sender's record, then the kind's effect (R23, R103, R130). -/
def State.applyCore (s : State) (sender : StationId) (n : Notice) : State :=
  ((s.countFrame sender n).hearSender sender).applyKind sender (s.takesSegment sender) n

/-! ## What follows in PU (R35, R37, R39, R40, R43, R141) -/

/-- PU's resets at a valid PURGE of the own origin (R43), which come before the announce check (log entry 37). -/
def State.settlePurged (old s : State) (n : Notice) : State :=
  match n with
  | .purge o => if byteTo16 o = some s.own ∧ (old.record s.own).state.gone then s.resetPending else s
  | .presence _ | .point _ | .claim _ | .lost _ | .leave _ | .join _ | .snapshot _ => s

/-- The announce check of every point whose own entry the frame changed in a replicated field (R35). -/
def State.checkChanged (old s : State) : State :=
  (List.finRange 16).foldl
    (fun u p => if (old.ownEntry p).sameReplicated (s.ownEntry p) then u else u.announceCheck p false) s

/-- A point item re-queued at the tail of its class with a new age (R37, R113). -/
def State.requeue (s : State) (x : Item) : State := (s.dropItem x).enqueue x.kind x.cls

/-- PU settles the own point's item: it leaves when the pairs are equal, else it is re-queued; a point that leaves runs
the announce check; then the reminder timer restarts where it may run (R35, R37, R39, R118). -/
def State.settlePoint (s : State) (x : Item) (p : PointId) : State :=
  let s :=
    match s.sq.items.find? fun y => y.age == x.age with
    | none => s
    | some y =>
      if s.pairsEqual p then
        ((s.dropItem y).onPoint p fun r => { r with queued := false }).announceCheck p false
      else s.requeue y
  s.startReminder p

/-- PU's part at the acceptance of the station's own frame. -/
def State.settleOwnPoint (s : State) (own : Option Item) : State :=
  match own with
  | some x =>
    match x.kind with
    | .point p => s.settlePoint x p
    | .claim _ _ | .lost _ | .presence _ | .join _ | .leave _ | .snapshot | .purge _ => s
  | none => s

/-- A MEMBER that accepts a valid LOST naming itself asks for a PRESENCE and re-announces (R141); `judged` is the state
in which the notice was judged, its sender's record updated. -/
def State.recoverFromLost (judged s : State) (n : Notice) : State :=
  match n with
  | .lost p =>
    if s.inState .member ∧ lostTarget p = s.own ∧ judged.lostValid s.own (lostCount p) then
      s.requestPresence.reannounceAll
    else s
  | .presence _ | .point _ | .claim _ | .purge _ | .leave _ | .join _ | .snapshot _ => s

/-- PU's whole part (R35, R37, R39, R40, R43). At a valid PURGE of the own origin the reset of the pending reminder counts
comes before the announce check (log entry 37). -/
def State.settlePoints (old s : State) (own : Option Item) (n : Notice) : State :=
  (State.checkChanged old ((State.settlePurged old s n).stopSettledReminders)).settleOwnPoint own

/-! ## What follows in SQ (R54, R55, R118, R119) -/

/-- The OUTCOME of a claim decided against an entry (R53, R54). -/
def State.claimOutcome (s : State) (i : EntryIndex) (e : Entry) (n : Byte) : OutcomeResult :=
  match s.claimDecision i e n with
  | .wins => .won s.own
  | .void r => .void r (voidWinner e r)

/-- The OUTCOME of a purge decided against the roster as it stood (R18, R20). -/
def State.purgeOutcome (s : State) (o : StationId) : OutcomeResult :=
  if (s.record o).state.gone then .done else .void .originPresent none

/-- The item that was in flight is settled at its acceptance; `old` is the state just before it (R54, R118). -/
def State.settleOwn (old s : State) (x : Item) : State :=
  match x.kind with
  | .point _ => s
  | .claim i n => (s.dropItem x).push (.outcome (.claim i) (old.claimOutcome i (old.entry i) n))
  | .purge o => (s.dropItem x).push (.outcome (.purge o) (old.purgeOutcome o))
  | .presence _ => (s.dropItem x).onSq fun q => { q with returnPending := false }
  | .lost _ | .join _ | .leave _ => s.dropItem x
  | .snapshot => if s.someRebuilding then s else s.dropItem x

/-- The withdrawal check on one queued item: a claim whose entry the frame changed and that could no longer win leaves
with its OUTCOME (R55). -/
def State.checkClaim (old s : State) (x : Item) : State :=
  match x.kind with
  | .claim i n =>
    if old.entry i = s.entry i then s
    else
      match s.claimDecision i (s.entry i) n with
      | .wins => s
      | .void r => (s.dropItem x).push (.outcome (.claim i) (.void r (voidWinner (s.entry i) r)))
  | .point _ | .lost _ | .presence _ | .join _ | .leave _ | .snapshot | .purge _ => s

/-- Settle one item of the list at an acceptance: the own item, or one that the frame may have overtaken. -/
def State.settleItem (old : State) (own : Option Item) (s : State) (x : Item) : State :=
  match own with
  | some y => if y.age = x.age then State.settleOwn old s x else State.checkClaim old s x
  | none => State.checkClaim old s x

/-- The own item was removed by a LEAVE command while its frame was in flight: only its OUTCOME is left to push (R57,
R120). -/
def State.settleRemoved (old s : State) (own : Option Item) : State :=
  match own with
  | none => s
  | some x =>
    if old.sq.items.any fun y => y.age == x.age then s
    else
      match x.kind with
      | .claim i n => s.push (.outcome (.claim i) (old.claimOutcome i (old.entry i) n))
      | .purge o => s.push (.outcome (.purge o) (old.purgeOutcome o))
      | .point _ | .lost _ | .presence _ | .join _ | .leave _ | .snapshot => s

/-- The cursor after the own SNAPSHOT (R152). -/
def State.moveCursor (s : State) (own : Option Item) (n : Notice) : State :=
  match own, n with
  | some _, .snapshot p => s.onRu fun r => { r with cursor := byteIndex (p.last + 1) }
  | _, _ => s

/-- LOST items of a target just heard, or no longer live, and a SNAPSHOT item with nobody to sweep for (R139, R152). -/
def State.withdrawOvertaken (s : State) (sender : StationId) : State :=
  let s := s.withdraw fun k =>
    match k with
    | .lost t => t == sender || !(s.record t).state.live
    | .point _ | .claim _ _ | .presence _ | .join _ | .leave _ | .snapshot | .purge _ => false
  if s.someRebuilding then s else s.withdraw (· == .snapshot)

/-- SQ's whole part: every item in list order, the OUTCOME of a removed one, the cursor, the withdrawals (R53, R118,
R119). -/
def State.settleQueue (old s : State) (sender : StationId) (own : Option Item) (n : Notice) : State :=
  let u := s.sq.items.foldl (State.settleItem old own) s
  ((State.settleRemoved old u own).moveCursor own n).withdrawOvertaken sender

/-! ## What follows for membership and the flashers (R80, R125, R136, R142, R156) -/

/-- One flasher at a reference PRESENCE (R80). A count that a PROFILE LOAD left past the new, smaller interval has reached it
(log entry 39). -/
def Flasher.align (f : Flasher) (phase period : Nat) : Flasher :=
  if alignmentInterval (2 * phase) period ≤ f.alignment + 1 then Flasher.restarted phase
  else { f with alignment := f.alignment + 1 }

/-- OU aligns the flashers at a reference PRESENCE (R80). -/
def State.alignFlashers (s : State) : State :=
  s.onOu fun o =>
    { o with fast := o.fast.align (FlasherId.phaseMs .fast) s.presenceMs
             slow := o.slow.align (FlasherId.phaseMs .slow) s.presenceMs }

/-- The first PRESENCE carrying MEMBER decides the listening window (R142). -/
def State.decideWindow (s : State) (p : PresencePayload) : State :=
  if presenceMeaning p = some .member then
    if p.profileDigest = s.cs.profileDigest then s.enterJoining
    else s.enterOut .refused (some .profileMismatch)
  else s

/-- Does a PRESENCE of the reference differ from the own count or digest, both as they stood before it (R136)? -/
def State.differsFrom (old : State) (p : PresencePayload) : Bool :=
  p.lineCount != old.et.lineCount || p.tableDigest != old.tableDigest

/-- Does a PRESENCE carrying MEMBER from the reference complete a join or a resync, judged by the state before it
(R156)? -/
def State.completes (old : State) : Bool := old.appliesSegments && old.coverageFull

/-- What a reference PRESENCE leads to: the comparison in MEMBER, the completion test in JOINING and SYNCING (R135, R136,
R156). -/
def State.hearReference (old s : State) (p : PresencePayload) (st : StationState) : State :=
  let s := s.alignFlashers
  if st = .member then
    if old.inState .member ∧ !old.isOwnReference then
      if old.differsFrom p then s.enterSyncing else s
    else if old.completes then s.complete p
    else s
  else s

/-- Membership after a PRESENCE, judged by the reference as it stood before (R135, R142). -/
def State.settlePresence (old s : State) (sender : StationId) (p : PresencePayload) : State :=
  if old.inState .listening then s.decideWindow p
  else
    match s.presenceApplies p with
    | some st => if old.applies ∧ old.reference = some sender then State.hearReference old s p st else s
    | none => s

/-- Changes of station state that the frame brings, after all its other effects (R118, R124). -/
def State.settleMembership (old s : State) (sender : StationId) (own : Option Item) (n : Notice) : State :=
  match n with
  | .presence p => State.settlePresence old s sender p
  | .leave _ => if own.isSome then s.enterOut .offline none else s
  | .point _ | .claim _ | .lost _ | .purge _ | .join _ | .snapshot _ => s

/-! ## The whole acceptance -/

/-- LC's part: the frame is counted, the line is not idle, and the own attempt, if it was one, ended ACCEPTED (R93, R102,
R104, R107). -/
def State.takeFrame (s : State) (own : Option Item) : State :=
  let u := (s.onCounters fun c => { c with framesAccepted := bump c.framesAccepted }).endFrame
  if own.isSome then u.endFlight.clearVetoes else u

/-- The own JOIN is accepted: the mark is set and the attempt timer restarts, before the frame is applied (R3, R147). -/
def State.markOwnJoin (s : State) (own : Option Item) (n : Notice) : State :=
  match own, n with
  | some _, .join _ =>
    match s.ru.state with
    | .joining | .syncing => s.onRu fun r => { r with ownJoin := true, attemptTimer := some (8 * s.presenceMs) }
    | .configuring | .listening | .member | .muted | .leaving | .offline | .refused => s
  | _, _ => s

/-- The effects on table and roster, and what follows in PU, at a station that applies the frame (R103). -/
def State.applyFrame (old s : State) (sender : StationId) (own : Option Item) (n : Notice) : State :=
  if s.applies then
    let judged := (s.countFrame sender n).hearSender sender
    let u := State.settlePoints old (s.applyCore sender n) own n
    State.recoverFromLost judged u n
  else s

/-- The whole acceptance of a frame at this station, as one event from `old` (R3, R103). -/
def State.acceptFrame (old : State) (sender : StationId) (own : Option Item) (n : Notice) : State :=
  let s := (old.takeFrame own).markOwnJoin own n
  let s := State.applyFrame old s sender own n
  let s := State.settleQueue old s sender own n
  let s := State.settleMembership old s sender own n
  let s := State.takeDuties old s
  let s := if own.isSome then s.takeDeferredExpiry else s
  State.close old s

/-- A frame is accepted: the own one with the content it was built with, another's as carried (R102, R104). -/
def State.accept (s : State) (sender : StationId) (n : Notice) : State :=
  match s.arrival sender n with
  | .noEvent => s
  | .foreign => s.acceptFrame sender none n
  | .own f => s.acceptFrame sender (some f.item) f.frame.notice

end Sys2Proof.Machine
end

