-- ==== Sys2Proof/Machine/Frames.lean ====
section
/-! DEFINITION. The eight kinds of accepted frame (R102, R103). Each is one acceptance with its own notice; what the kind
does is in Acceptance.lean. -/

namespace Sys2Proof.Machine

/-- An accepted PRESENCE (R131, R135, R136, R142, R156). -/
def execPresenceAccepted (sender : StationId) (payload : PresencePayload) (s : State) :
    Host.Outcome State Fault Refusal :=
  .next (s.accept sender (.presence payload))

/-- An accepted POINT (R9 to R15, R37, R84). -/
def execPointAccepted (sender : StationId) (payload : PointPayload) (s : State) : Host.Outcome State Fault Refusal :=
  .next (s.accept sender (.point payload))

/-- An accepted CLAIM (R49 to R55). -/
def execClaimAccepted (sender : StationId) (payload : ClaimPayload) (s : State) : Host.Outcome State Fault Refusal :=
  .next (s.accept sender (.claim payload))

/-- An accepted LOST (R140, R141). -/
def execLostAccepted (sender : StationId) (payload : LostPayload) (s : State) : Host.Outcome State Fault Refusal :=
  .next (s.accept sender (.lost payload))

/-- An accepted PURGE (R18 to R20, R43). -/
def execPurgeAccepted (sender : StationId) (origin : Byte) (s : State) : Host.Outcome State Fault Refusal :=
  .next (s.accept sender (.purge origin))

/-- An accepted LEAVE (R16, R125, R132). -/
def execLeaveAccepted (sender : StationId) (cause : Byte) (s : State) : Host.Outcome State Fault Refusal :=
  .next (s.accept sender (.leave cause))

/-- An accepted JOIN (R131, R147, R150). -/
def execJoinAccepted (sender : StationId) (payload : JoinPayload) (s : State) : Host.Outcome State Fault Refusal :=
  .next (s.accept sender (.join payload))

/-- An accepted SNAPSHOT (R152 to R154). -/
def execSnapshotAccepted (sender : StationId) (payload : SnapshotPayload) (s : State) :
    Host.Outcome State Fault Refusal :=
  .next (s.accept sender (.snapshot payload))

end Sys2Proof.Machine
end

