-- ==== Sys2Proof/Machine/LocalPort.lean ====
section
/-! DEFINITION. The commands of the local port (Chapter 10) but for the two loads, START and LEAVE: reads, the
notification queue, ACKNOWLEDGE, PURGE, SILENCE, SOFT POINT, and the two ways a transaction does nothing. -/

namespace Sys2Proof.Machine

/-! ## Reads (R163 to R165) -/

/-- Entry state code in STATUS READ (R186). -/
def EntryState.code : EntryState → Byte
  | .member => StationState.member.code
  | .joining => StationState.joining.code
  | .syncing => StationState.syncing.code

/-- A number of items as a byte (R186). -/
def natByte (n : Nat) : Byte := BitVec.ofNat 8 n

/-- The line count as STATUS READ returns it; while it is invalid, a free value (log entry 4). -/
def State.countBytes (s : State) : List Byte :=
  word32Bytes (if s.et.countValid then s.et.lineCount else Config.invalidCountBytes s.freeCount)

/-- Numbers of items of each kind, in the order of STATUS READ (R122, R186). -/
def State.depths (s : State) : List Byte :=
  [natByte (s.countItems ItemKind.isPoint), natByte (s.countItems ItemKind.isClaim),
   natByte (s.countItems ItemKind.isLost), natByte (s.countItems ItemKind.isPresence),
   natByte (s.countItems ItemKind.isJoin), natByte (s.countItems ItemKind.isLeave),
   natByte (s.countItems (· == .snapshot)), natByte (s.countItems ItemKind.isPurge)]

/-- The 30 response bytes of STATUS READ (R163, R186). The bits of bytes 5, 13 and 23 to which R186 gives no content are 0: the
model's choice (log entry 40). -/
def State.statusBytes (s : State) : List Byte :=
  let muted := s.inState .muted
  [finByte s.own, s.ru.state.code, reasonCode s.ru.refusal,
   if muted then (match s.ru.entryState with | some e => e.code | none => 0xFF) else 0xFF,
   if muted then boolByte s.ru.doubtful else 0xFF,
   boolByte s.cs.profile.isSome ||| (boolByte s.cs.setup.isSome <<< 1)] ++
  word16Bytes s.cs.profileDigest ++ s.countBytes ++
  [boolByte s.et.countValid, s.ou.trip.code, stationOrNone s.reference] ++ s.depths ++
  [boolByte s.lc.inFlight.isSome ||| (boolByte s.sq.returnPending <<< 1),
   (match s.ru.joinMode with | some m => m.code | none => 0xFF), natByte s.ru.attempt] ++
  word16Bytes (BitVec.ofNat 16 s.coverageCount) ++
  [natByte s.lp.records.length, natByte (s.lp.marker.getD 0)]

/-- STATUS READ (R163). -/
def execStatusRead (s : State) : Host.Outcome State Fault Refusal :=
  .next ((s.answer .ok s.statusBytes).drawFree)

/-- ENTRY READ (R27, R164). -/
def execEntryRead (index : Byte) (s : State) : Host.Outcome State Fault Refusal :=
  let i := byteIndex index
  .next (s.answer .ok (entryFormBytes (Entry.form i (s.entry i)) ++ word32Bytes (s.entry i).raiseStamp))

/-- The first index from `start` up whose phase is in the set (R27). -/
def State.scan (s : State) (start : Byte) (phases : Byte) : Option EntryIndex :=
  (List.finRange 256).find? fun i =>
    decide (start.toNat ≤ i.1) && phases.getLsbD (s.entry i).phase.code.toNat

/-- ENTRY SCAN (R27, R164). -/
def execEntryScan (start phases : Byte) (s : State) : Host.Outcome State Fault Refusal :=
  .next
    (if phases.extractLsb' 4 4 ≠ 0#4 then s.answer .badArgument []
     else
      match s.scan start phases with
      | some i => s.answer .ok [finByte i]
      | none => s.answer .empty [])

/-- The six response bytes of ROSTER READ (R164, R186); the count of a record marked unknown is a free value
(log entry 5). The bits of the last byte to which R186 gives no content are 0: the model's choice (log entry 40). -/
def State.rosterBytes (s : State) (t : StationId) : List Byte :=
  let r := s.record t
  [r.state.code.setWidth 8] ++ word32Bytes (r.lastHeard.getD (Config.unknownHeardBytes s.freeCount)) ++
    [boolByte r.suspect ||| (boolByte r.lastHeard.isNone <<< 1)]

/-- ROSTER READ (R164). -/
def execRosterRead (station : Byte) (s : State) : Host.Outcome State Fault Refusal :=
  .next
    (match byteTo16 station with
     | none => s.answer .badArgument []
     | some t => (s.answer .ok (s.rosterBytes t)).drawFree)

/-- The ten counters in the order of R110. -/
def Counters.toList (c : Counters) : List Word16 :=
  [c.framesAccepted, c.framesVetoed, c.vetoesIssued, c.ownVetoed, c.ownAbandoned, c.arbitrationLosses,
   c.staleNotices, c.voidClaims, c.voidLost, c.voidPurges]

/-- COUNTERS READ (R165). -/
def execCountersRead (s : State) : Host.Outcome State Fault Refusal :=
  .next (s.answer .ok (s.lc.counters.toList.flatMap word16Bytes))

/-- COUNTERS CLEAR (R111, R165). -/
def execCountersClear (s : State) : Host.Outcome State Fault Refusal :=
  .next ((s.onCounters fun _ => Counters.zero).answer .ok [])

/-! ## NOTIFY READ (R171) -/

/-- The eight bytes of the head item, none when the queue is empty (R171). -/
def LocalPort.headBytes (l : LocalPort) : Option (List Byte) :=
  match l.records with
  | r :: _ => some r.bytes
  | [] => l.marker.map markerBytes

/-- NOTIFY READ is taken: its response is fixed and nothing is removed yet (R171). -/
def execNotifyRead (s : State) : Host.Outcome State Fault Refusal :=
  .next
    (match s.lp.headBytes with
     | none => s.answer .empty []
     | some bytes =>
      (s.answer .ok bytes).onLp fun l =>
        { l with openRead := some { marker := l.records.isEmpty, dropped := 0 } })

/-- The queue after a completed read: the record read leaves, or the marker gives up the count that was returned
(R171). -/
def LocalPort.removeHead (l : LocalPort) (o : OpenRead) : LocalPort :=
  if o.marker then { l with marker := if o.dropped = 0 then none else some o.dropped, openRead := none }
  else { l with records := l.records.tail, openRead := none }

/-- ATTN and the prompt timer once a NOTIFY READ has removed an item (R173, R174). -/
def LocalPort.afterRemoval (l : LocalPort) (period : Option Nat) : LocalPort :=
  if l.holdsItem then { l with promptTimer := period } else { l with attn := false, promptTimer := none }

/-- The last of the eight response bytes has been clocked out (R171, R173, R174). -/
def execNotifyReadComplete (s : State) : Host.Outcome State Fault Refusal :=
  .next
    (match s.lp.openRead with
     | none => s
     | some o => s.onLp fun l => (l.removeHead o).afterRemoval s.promptPeriod)

/-! ## Commands that act (R46, R82, R166, R167) -/

/-- The result of the tests of ACKNOWLEDGE, in their order (R46). -/
def State.acknowledgeResult (s : State) (i : EntryIndex) : ResultCode :=
  if !s.inState .member then .wrongState
  else if !(s.entry i).phase.pending then .notPending
  else if s.entryAckNone (s.entry i) then .noAck
  else if s.hasItem (ItemKind.isClaimOf i) then .busy
  else if 8 ≤ s.countItems ItemKind.isClaim then .full
  else .ok

/-- ACKNOWLEDGE (R46, R47). -/
def execAcknowledge (index : Byte) (s : State) : Host.Outcome State Fault Refusal :=
  let i := byteIndex index
  let r := s.acknowledgeResult i
  .next ((if r = .ok then s.enqueue (.claim i (s.entry i).occurrence) 1 else s).answer r [])

/-- The result of the tests of PURGE past the range of its argument, in their order (R166). -/
def State.purgeResult (s : State) (o : StationId) : ResultCode :=
  if !s.inState .member then .wrongState
  else if !(s.record o).state.gone then .notPending
  else if s.hasItem ItemKind.isPurge then .busy
  else .ok

/-- PURGE (R166). -/
def execPurge (origin : Byte) (s : State) : Host.Outcome State Fault Refusal :=
  .next
    (match byteTo16 origin with
     | none => s.answer .badArgument []
     | some o =>
      let r := s.purgeResult o
      (if r = .ok then s.enqueue (.purge o) 2 else s).answer r [])

/-- SILENCE (R82, R167). -/
def execSilence (s : State) : Host.Outcome State Fault Refusal :=
  .next
    (if s.et.countValid then
      State.close s ((s.onOu fun o => { o with silenceMark := s.et.lineCount }).answer .ok [])
     else s.answer .wrongState [])

/-- A level byte: 0 INACTIVE, 1 ACTIVE (R186). -/
def levelOf (level : Byte) : Option Condition :=
  if level = 0 then some .inactive else if level = 1 then some .active else none

/-- A soft point takes a level (R34). -/
def State.setSoft (s : State) (p : PointId) (c : Condition) : State :=
  let s := s.onPoint p fun r => { r with raw := c }
  if (s.point p).qualified = c then s else s.qualifyTo p c

/-- SOFT POINT (R34, R167). -/
def execSoftPoint (point level : Byte) (s : State) : Host.Outcome State Fault Refusal :=
  .next
    (if s.cs.setup.isNone then s.answer .wrongState []
     else
      match byteTo16 point, levelOf level with
      | some p, some c =>
        if s.pointSource p = .soft then State.close s ((s.setSoft p c).answer .ok [])
        else s.answer .badArgument []
      | _, _ => s.answer .badArgument [])

/-- The command codes that LP knows (R186). -/
def knownCommand (code : Byte) : Bool := (argumentLength code).isSome

/-- Byte `k` that LP gives on SDO in a transaction with this command byte: 00h beside the command, its arguments and the
turnaround, then the result code, the response, and 00h past its end; SDO is undriven while CSN is high (R160). Result and
response are those fixed when the command was taken (R161). -/
def LocalPort.sdo (l : LocalPort) (csnHigh : Bool) (code : Byte) (k : Nat) : Option Byte :=
  if csnHigh then none
  else
    let resultAt := argumentBytes code + 2
    some
      (if k < resultAt then 0
       else
        match l.reply with
        | none => 0
        | some r => if k = resultAt then r.result.code else r.response.getD (k - resultAt - 1) 0)

/-- A command byte that LP does not know (R160); a code that it knows is no such event (log entry 7). -/
def execUnknownCommand (code : Byte) (s : State) : Host.Outcome State Fault Refusal :=
  .next (if knownCommand code then s else s.answer .badCommand [])

/-- CSN rises before the command is taken (R161): nothing is returned, and an earlier read is over. -/
def execCommandDiscarded (s : State) : Host.Outcome State Fault Refusal :=
  .next (s.onLp fun l => { l with reply := none, openRead := none })

end Sys2Proof.Machine
end

