-- ==== Sys2Proof/Machine/Points.lean ====
section
/-! DEFINITION. Sampling and qualification of the points, and the reminder expiry (R30 to R33, R41). -/

namespace Sys2Proof.Machine

/-- A qualification timer at one more sample that finds the level it waits for: it starts with the time given, then
counts down (R31, R32). -/
def countSample (time : Byte) : Option Nat → Option Nat
  | none => some time.toNat
  | some n => some (n - 1)

/-- One sample of a point that is sourced from an input line standing high or low (R30, R31, R32). -/
def PointRecord.sample (r : PointRecord) (u : PointSetup) (high : Bool) : PointRecord :=
  let raw := Condition.ofBool (xor high u.activeLow)
  match r.qualified, raw with
  | .inactive, .active => { r with raw := raw, qualify := countSample u.qualifyTime r.qualify }
  | .active, .inactive => { r with raw := raw, release := countSample u.releaseTime r.release }
  | .inactive, .inactive | .active, .active => { r with raw := raw, qualify := none, release := none }

/-- The sample of one point record; a point that is not sourced from an input line is left as it is (R28, R30). -/
def State.samplePoint (s : State) (levels : BitVec 16) (p : PointId) (r : PointRecord) : PointRecord :=
  match s.pointSetup p with
  | none => r
  | some u =>
    match u.source with
    | .input k => r.sample u (levels.getLsbD k.1)
    | .soft | .unused => r

/-- PU samples every input line (R31). A timer that the sample brings to 0 waits for its expiry command
(log entry 10). -/
def execInputSample (levels : BitVec 16) (s : State) : Host.Outcome State Fault Refusal :=
  .next (s.onPoints (s.samplePoint levels))

/-- The qualify timer of a point has been brought to 0 by the samples, and the point is qualified ACTIVE (R31, R33); a timer
that has time left, or is stopped, has no such end (log entry 10). -/
def execQualifyTimerExpiry (point : PointId) (s : State) : Host.Outcome State Fault Refusal :=
  .next
    (if (s.point point).qualified = .inactive ∧ (s.point point).qualify = some 0 then
      State.close s (s.qualifyTo point .active)
     else s)

/-- The release timer of a point has been brought to 0 by the samples, and the point is qualified INACTIVE (R32, R33); a timer
that has time left, or is stopped, has no such end (log entry 10). -/
def execReleaseTimerExpiry (point : PointId) (s : State) : Host.Outcome State Fault Refusal :=
  .next
    (if (s.point point).qualified = .active ∧ (s.point point).release = some 0 then
      State.close s (s.qualifyTo point .inactive)
     else s)

/-- Is the timer running? -/
def ReminderTimer.isRunning : ReminderTimer → Bool
  | .running _ => true
  | .stopped | .held _ => false

/-- One reminder more, up to 15 (R41). -/
def nextReminder (n : BitVec 4) : BitVec 4 := if n = 15 then 15 else n + 1

/-- What PU does when a running reminder timer expires (R41, R42). -/
def State.remind (s : State) (p : PointId) : State :=
  let s := s.onPoint p fun r =>
    { r with reminder := .stopped, pendingReminders := nextReminder r.pendingReminders }
  (s.reclassPoint p).announceCheck p true

/-- The reminder timer of a point expires (R41). -/
def execReminderExpiry (point : PointId) (s : State) : Host.Outcome State Fault Refusal :=
  .next (if (s.point point).reminder.isRunning then s.remind point else s)

end Sys2Proof.Machine
end

