-- ==== Sys2Proof/Machine/Timers.lean ====
section
/-! DEFINITION. The expiries of the timers of RU, SQ, OU and LP, and the millisecond that passes on an empty queue. An
expiry acts on a running timer, whatever time the timer shows, and is no event for a stopped one (log entry 3). -/

namespace Sys2Proof.Machine

/-! ## Roster Unit and Send Queue -/

/-- The presence timer expires: RU asks for a PRESENCE and the timer restarts with P (R133). -/
def execPresenceTimerExpiry (s : State) : Host.Outcome State Fault Refusal :=
  .next (if s.ru.presenceTimer.isSome then s.requestPresence.startPresenceTimer else s)

/-- A PRESENCE item whose promotion timer runs goes to class 1 and keeps its age (R115). -/
def Item.promote (x : Item) : Item := { x with kind := .presence none, cls := 1 }

/-- Is this a PRESENCE item whose promotion timer runs? -/
def ItemKind.awaitsPromotion : ItemKind → Bool
  | .presence t => t.isSome
  | .point _ | .claim _ _ | .lost _ | .join _ | .leave _ | .snapshot | .purge _ => false

/-- Promote the PRESENCE item, which moves to its place in class 1 (R113, R115). -/
def SendQueue.promote (q : SendQueue) : SendQueue :=
  { q with
    items := (q.items.filter fun x => x.kind.awaitsPromotion).foldl (fun l x => insertItem x.promote l)
      (q.items.filter fun x => !x.kind.awaitsPromotion) }

/-- The promotion timer of the PRESENCE item expires (R115). -/
def execPromotionTimerExpiry (s : State) : Host.Outcome State Fault Refusal :=
  .next (if s.hasItem ItemKind.awaitsPromotion then s.onSq SendQueue.promote else s)

/-- RU marks a peer suspect, asks for its LOST when it is its own reference, and takes up the duties if it becomes so
(R137, R138, R139). -/
def State.suspect (old : State) (t : StationId) : State :=
  let s := old.onRecord t fun r => { r with suspect := true, silence := none }
  let s := if old.isOwnReference then s.requestLost t else s
  State.takeDuties old s

/-- The silence timer of a record expires (R137). -/
def execSilenceTimerExpiry (station : StationId) (s : State) : Host.Outcome State Fault Refusal :=
  .next (if (s.record station).silence.isSome then State.close s (State.suspect s station) else s)

/-- The clean exit from MUTED (R44, R39, R114, R127, R139, R152). -/
def State.cleanExit (old : State) : State :=
  let s := old.enter .member
  let s := s.onRu fun r => { r with entryState := none, muteTimer := none }
  let s := s.onSq fun q => { q with returnPending := true }
  let s := s.requestPresence.startPresenceTimer
  let s := s.resumeReminders.reannounceAll
  let s := if s.isOwnReference then s else s.withdraw ItemKind.isLost
  let s := if s.sweeps then s else s.withdraw (· == .snapshot)
  State.takeDuties old s

/-- The exit from MUTED (R127). -/
def State.leaveMuted (s : State) : State :=
  match s.ru.entryState with
  | some .member => if s.ru.doubtful then s.enterSyncing else s.cleanExit
  | some .joining => s.enterJoining
  | some .syncing => s.enterSyncing
  | none => s

/-- The mute timer expires (R127). -/
def execMuteTimerExpiry (s : State) : Host.Outcome State Fault Refusal :=
  .next (if s.inState .muted ∧ s.ru.muteTimer.isSome then State.close s s.leaveMuted else s)

/-- The window timer expires: the station founds a system (R143). -/
def execWindowTimerExpiry (s : State) : Host.Outcome State Fault Refusal :=
  .next (if s.inState .listening ∧ s.ru.windowTimer.isSome then State.close s s.found else s)

/-- The attempt timer has expired: its effect waits for the end of an own attempt in flight (R106, R148). -/
def State.expireAttempt (s : State) : State :=
  let s := s.onRu fun r => { r with attemptTimer := none }
  if s.lc.inFlight.isSome then s.onRu fun r => { r with deferredExpiry := true } else s.attemptFailed

/-- The attempt timer expires (R148). -/
def execAttemptTimerExpiry (s : State) : Host.Outcome State Fault Refusal :=
  .next (if s.ru.attemptTimer.isSome then State.close s s.expireAttempt else s)

/-! ## Output Unit -/

/-- The pulse timer of an output reaches 0 (R85). -/
def execPulseTimerExpiry (output : OutputId) (s : State) : Host.Outcome State Fault Refusal :=
  .next
    (if s.ou.pulses[output].isSome then
      State.close s (s.onOu fun o => { o with pulses := vset o.pulses output none })
     else s)

/-- A flasher passes to its other phase (R79). -/
def Flasher.turn (f : Flasher) (phase : Nat) : Flasher := { f with on := !f.on, remaining := phase }

/-- The named flasher passes to its other phase. -/
def OutputUnit.turn (o : OutputUnit) : FlasherId → OutputUnit
  | .fast => { o with fast := o.fast.turn (FlasherId.phaseMs .fast) }
  | .slow => { o with slow := o.slow.turn (FlasherId.phaseMs .slow) }

/-- A flasher's phase changes (R75, R79). -/
def execFlasherPhaseChange (flasher : FlasherId) (s : State) : Host.Outcome State Fault Refusal :=
  .next (State.close s (s.onOu fun o => o.turn flasher))

/-! ## Local Port -/

/-- The prompt timer expires: ATTN is released for 1 ms and the timer restarts (R174). -/
def execPromptTimerExpiry (s : State) : Host.Outcome State Fault Refusal :=
  .next
    (if s.lp.promptTimer.isSome then
      s.onLp fun l => { l with attn := false, releaseTimer := some 1, promptTimer := s.promptPeriod }
     else s)

/-- The end of a re-prompt release: ATTN is asserted again while the queue holds an item, and a timer that stopped
meanwhile starts (R174). -/
def LocalPort.endRelease (l : LocalPort) (period : Option Nat) : LocalPort :=
  if l.holdsItem then
    { l with releaseTimer := none, attn := true, promptTimer := l.promptTimer.or period }
  else { l with releaseTimer := none }

/-- The 1 ms release of ATTN ends (R174). -/
def execAttnReleaseEnd (s : State) : Host.Outcome State Fault Refusal :=
  .next (if s.lp.releaseTimer.isSome then s.onLp fun l => l.endRelease s.promptPeriod else s)

/-! ## One millisecond -/

/-- A timer one millisecond later. -/
def countDown (t : Option Nat) : Option Nat := t.map (· - 1)

/-- A reminder timer one millisecond later; a held one keeps its time (R40). -/
def ReminderTimer.countDown : ReminderTimer → ReminderTimer
  | .running n => .running (n - 1)
  | .stopped => .stopped
  | .held n => .held n

/-- The PRESENCE item's promotion timer one millisecond later (R115). -/
def ItemKind.countDown : ItemKind → ItemKind
  | .presence t => .presence (Machine.countDown t)
  | k => k

/-- One millisecond passes: every running timer but the qualification timers counts down, and waits at 0 for its expiry
command (log entries 2 and 10). -/
def State.tick (s : State) : State :=
  let s := s.onRu fun r =>
    { r with
      roster := vmap (fun _ x => { x with silence := countDown x.silence }) r.roster
      presenceTimer := countDown r.presenceTimer
      muteTimer := countDown r.muteTimer
      windowTimer := countDown r.windowTimer
      attemptTimer := countDown r.attemptTimer }
  let s := s.onPoints fun _ r => { r with reminder := r.reminder.countDown }
  let s := s.onSq fun q => { q with items := q.items.map fun x => { x with kind := x.kind.countDown } }
  let s := s.onOu fun o =>
    { o with
      fast := { o.fast with remaining := o.fast.remaining - 1 }
      slow := { o.slow with remaining := o.slow.remaining - 1 }
      pulses := vmap (fun _ t => countDown t) o.pulses }
  s.onLp fun l => { l with promptTimer := countDown l.promptTimer, releaseTimer := countDown l.releaseTimer }

end Sys2Proof.Machine
end

