-- ==== Sys2Proof/Machine/Dispatch.lean ====
section
/-! DEFINITION. One arm per command: the meaning of each row of spec/opcode_table.json. -/

namespace Sys2Proof.Machine

def exec (i : Instr) (s : State) : Host.Outcome State Fault Refusal :=
  match i with
  | .hardwareReset ids => Sys2Proof.Machine.execHardwareReset ids s
  | .statusRead => Sys2Proof.Machine.execStatusRead s
  | .entryRead index => Sys2Proof.Machine.execEntryRead index s
  | .entryScan start phases => Sys2Proof.Machine.execEntryScan start phases s
  | .rosterRead station => Sys2Proof.Machine.execRosterRead station s
  | .notifyRead => Sys2Proof.Machine.execNotifyRead s
  | .notifyReadComplete => Sys2Proof.Machine.execNotifyReadComplete s
  | .countersRead => Sys2Proof.Machine.execCountersRead s
  | .countersClear => Sys2Proof.Machine.execCountersClear s
  | .acknowledge index => Sys2Proof.Machine.execAcknowledge index s
  | .purge origin => Sys2Proof.Machine.execPurge origin s
  | .silence => Sys2Proof.Machine.execSilence s
  | .softPoint point level => Sys2Proof.Machine.execSoftPoint point level s
  | .profileLoad image => Sys2Proof.Machine.execProfileLoad image s
  | .setupLoad image => Sys2Proof.Machine.execSetupLoad image s
  | .start => Sys2Proof.Machine.execStart s
  | .leave => Sys2Proof.Machine.execLeave s
  | .unknownCommand code => Sys2Proof.Machine.execUnknownCommand code s
  | .commandDiscarded => Sys2Proof.Machine.execCommandDiscarded s
  | .qualifyTimerExpiry point => Sys2Proof.Machine.execQualifyTimerExpiry point s
  | .releaseTimerExpiry point => Sys2Proof.Machine.execReleaseTimerExpiry point s
  | .reminderExpiry point => Sys2Proof.Machine.execReminderExpiry point s
  | .lineIdle => Sys2Proof.Machine.execLineIdle s
  | .attemptStart => Sys2Proof.Machine.execAttemptStart s
  | .arbitrationLost => Sys2Proof.Machine.execArbitrationLost s
  | .senderFault bitTimesToSlot => Sys2Proof.Machine.execSenderFault bitTimesToSlot s
  | .frameAbandoned => Sys2Proof.Machine.execFrameAbandoned s
  | .presenceAccepted sender payload => Sys2Proof.Machine.execPresenceAccepted sender payload s
  | .pointAccepted sender payload => Sys2Proof.Machine.execPointAccepted sender payload s
  | .claimAccepted sender payload => Sys2Proof.Machine.execClaimAccepted sender payload s
  | .lostAccepted sender payload => Sys2Proof.Machine.execLostAccepted sender payload s
  | .purgeAccepted sender origin => Sys2Proof.Machine.execPurgeAccepted sender origin s
  | .leaveAccepted sender cause => Sys2Proof.Machine.execLeaveAccepted sender cause s
  | .joinAccepted sender payload => Sys2Proof.Machine.execJoinAccepted sender payload s
  | .snapshotAccepted sender payload => Sys2Proof.Machine.execSnapshotAccepted sender payload s
  | .frameVetoed received => Sys2Proof.Machine.execFrameVetoed received s
  | .frameDiscardedDamaged received => Sys2Proof.Machine.execFrameDiscardedDamaged received s
  | .presenceTimerExpiry => Sys2Proof.Machine.execPresenceTimerExpiry s
  | .promotionTimerExpiry => Sys2Proof.Machine.execPromotionTimerExpiry s
  | .silenceTimerExpiry station => Sys2Proof.Machine.execSilenceTimerExpiry station s
  | .muteTimerExpiry => Sys2Proof.Machine.execMuteTimerExpiry s
  | .windowTimerExpiry => Sys2Proof.Machine.execWindowTimerExpiry s
  | .attemptTimerExpiry => Sys2Proof.Machine.execAttemptTimerExpiry s
  | .pulseTimerExpiry output => Sys2Proof.Machine.execPulseTimerExpiry output s
  | .flasherPhaseChange flasher => Sys2Proof.Machine.execFlasherPhaseChange flasher s
  | .promptTimerExpiry => Sys2Proof.Machine.execPromptTimerExpiry s
  | .attnReleaseEnd => Sys2Proof.Machine.execAttnReleaseEnd s
  | .inputSample levels => Sys2Proof.Machine.execInputSample levels s
  | .frameStart => Sys2Proof.Machine.execFrameStart s

end Sys2Proof.Machine
end

