-- ==== Sys2Proof/Safety.lean ====
section
/-! DEFINITION. What every reachable state of the station satisfies, block by block: the invariants that the claims in
Certificates state of every step. Each one alone is a decidable proposition; `State.Sound` is all of them. -/

namespace Sys2Proof.Machine

/-! ## Local Port (R169, R170, R171, R173, R174) -/

/-- The notification queue holds at most 31 records, and a marker counts 1 to 255 (R169, R170). -/
abbrev LocalPort.QueueOk (l : LocalPort) : Prop :=
  l.records.length ≤ 31 ∧ (∀ n ∈ l.marker, 1 ≤ n ∧ n ≤ 255)

/-- A NOTIFY READ under way has an item at the head to give, the marker only when it is alone (R171). -/
abbrev LocalPort.ReadOk (l : LocalPort) : Prop :=
  ∀ o ∈ l.openRead, o.dropped ≤ 255 ∧
    (o.marker = true → l.records = [] ∧ l.marker.isSome) ∧ (o.marker = false → l.records ≠ [])

/-- ATTN is asserted exactly while the queue holds an item and no re-prompt release is in progress (R173, R174). -/
abbrev LocalPort.AttnOk (l : LocalPort) : Prop := l.attn = (l.holdsItem && l.releaseTimer.isNone)

/-- The prompt timer runs only while the queue holds an item and the setup gives a period (R174). -/
abbrev State.PromptOk (s : State) : Prop :=
  s.lp.promptTimer.isSome → s.lp.holdsItem = true ∧ s.promptPeriod.isSome = true

/-- The Local Port's invariant. -/
abbrev State.PortOk (s : State) : Prop := s.lp.QueueOk ∧ s.lp.ReadOk ∧ s.lp.AttnOk ∧ s.PromptOk

/-! ## Output Unit (R62, R75, R87) -/

/-- The trip set, the pins and the stopped pulse timers are those of the state as it stands (R62, R74, R75, R87). -/
abbrev State.OutputsOk (s : State) : Prop :=
  s.ou.trip = s.tripReasons ∧ s.ou.pins = s.outputPins ∧
    (s.modesCount = false → s.ou.pulses = Vector.replicate 8 none)

/-! ## Roster Unit (R123, R126, R129, R131, R133, R142, R144) -/

/-- The own record is never suspect and its silence timer never runs (R129); neither does that of a record outside
PRESENT, JOINING and SYNCING (R131). -/
abbrev State.RosterOk (s : State) : Prop :=
  ∀ t : StationId, (t = s.own ∨ (s.record t).state.live = false) →
    (s.record t).suspect = false ∧ (s.record t).silence = none

/-- The states in which the presence timer runs (R133). -/
def StationState.announces : StationState → Bool
  | .joining | .syncing | .member => true
  | .configuring | .listening | .muted | .leaving | .offline | .refused => false

/-- The states in which a join or resync attempt is under way (R144). -/
def StationState.attempts : StationState → Bool
  | .joining | .syncing => true
  | .configuring | .listening | .member | .muted | .leaving | .offline | .refused => false

/-- Each timer and mark of RU and SQ stands in the states that have it, and in no other (R114, R123, R133, R142, R144, R163). -/
abbrev State.StationOk (s : State) : Prop :=
  s.ru.presenceTimer.isSome = s.ru.state.announces ∧
  s.ru.windowTimer.isSome = s.inState .listening ∧
  s.ru.muteTimer.isSome = s.inState .muted ∧
  s.ru.entryState.isSome = s.inState .muted ∧
  s.ru.refusal.isSome = s.inState .refused ∧
  (s.ru.attemptTimer.isSome || s.ru.deferredExpiry) = s.ru.state.attempts ∧
  (s.ru.deferredExpiry = true → s.lc.inFlight.isSome = true) ∧
  (s.sq.returnPending = true → s.ru.state = .member)

/-! ## Configuration (R91, R175, R178, R181) -/

/-- A setup is held only beside a profile, the receiver runs exactly while one is held, the digest is the profile's, and a
station in service holds both (R91, R175, R178, R181). -/
abbrev State.ConfigOk (s : State) : Prop :=
  (s.cs.setup.isSome = true → s.cs.profile.isSome = true) ∧
  s.lc.receiverOn = s.cs.profile.isSome ∧
  s.cs.profileDigest = (match s.cs.profile with
    | some p => p.digest
    | none => 0) ∧
  (s.ru.state.outOfService = false → s.cs.setup.isSome = true)

/-! ## Line Controller and Send Queue (R91, R101, R107, R112, R113, R121) -/

/-- A frame is in flight exactly while LTX follows it, only in a state that sends and off an idle line; a frame of another
station is assembled only while the receiver runs and nothing is in flight; the consecutive veto count is below 8 (R91, R99,
R101, R104, R107, R108). -/
abbrev State.LineOk (s : State) : Prop :=
  (s.lc.ltx = .frame ↔ s.lc.inFlight.isSome = true) ∧
  (s.lc.inFlight.isSome = true → s.ru.state.sends = true) ∧
  (s.lc.lineIdle = true → s.lc.assembling = false ∧ s.lc.inFlight = none ∧ s.lc.receiverOn = true) ∧
  (s.lc.assembling = true → s.lc.inFlight = none ∧ s.lc.receiverOn = true) ∧
  s.lc.vetoCount < 8

/-- The states in which the list is empty (R121, R131, 2.6). -/
def StationState.holdsNothing : StationState → Bool
  | .configuring | .listening | .offline | .refused => true
  | .joining | .member | .syncing | .muted | .leaving => false

/-- The list is in the order of class and age, no two items share an age, every age given is below the next one, and
outside service the list is empty (R113, R121). -/
abbrev State.QueueOk (s : State) : Prop :=
  s.sq.items.Pairwise (fun a b => a.before b = true) ∧
  (s.sq.items.map Item.age).Nodup ∧
  (∀ x ∈ s.sq.items, x.age < s.sq.nextAge) ∧
  (∀ f ∈ s.lc.inFlight, f.item.age < s.sq.nextAge) ∧
  (s.ru.state.holdsNothing = true → s.sq.items = [])

/-- The bounds of the list by kind (R112): one item per point exactly when its queued flag says so, one claim per entry and
8 in all, one LOST per peer, one of each other kind, a LEAVE item in LEAVING alone. -/
abbrev State.BoundsOk (s : State) : Prop :=
  (∀ p : PointId, s.countItems (ItemKind.isPointOf p) = if (s.point p).queued then 1 else 0) ∧
  (∀ i : EntryIndex, s.countItems (ItemKind.isClaimOf i) ≤ 1) ∧
  s.countItems ItemKind.isClaim ≤ 8 ∧
  (∀ t : StationId, s.countItems (· == .lost t) ≤ if t = s.own then 0 else 1) ∧
  s.countItems ItemKind.isPresence ≤ 1 ∧ s.countItems ItemKind.isJoin ≤ 1 ∧
  s.countItems ItemKind.isLeave ≤ (if s.inState .leaving then 1 else 0) ∧
  s.countItems (· == .snapshot) ≤ 1 ∧ s.countItems ItemKind.isPurge ≤ 1

/-- The item in flight, where the list still holds it, is the item of its age (R104, R117). -/
abbrev State.FlightOk (s : State) : Prop :=
  ∀ f ∈ s.lc.inFlight, ∀ x ∈ s.sq.items, x.age = f.item.age →
    x.kind = f.item.kind ∨ (x.kind.isPresence = true ∧ f.item.kind.isPresence = true)

/-! ## Point Unit (R32, R39, R40) -/

/-- The states a reminder timer may stand in: running in MEMBER alone, held in MUTED alone (R39, R40). -/
def ReminderTimer.okIn (r : ReminderTimer) (st : StationState) : Bool :=
  match r with
  | .running _ => st == .member
  | .held _ => st == .muted
  | .stopped => true

/-- In each qualified state only the timer that leads out of it can run; a reminder timer runs in MEMBER alone and is held
in MUTED alone (R32, R39, R40). -/
abbrev State.PointsOk (s : State) : Prop :=
  ∀ p : PointId,
    ((s.point p).qualified = .active → (s.point p).qualify = none) ∧
    ((s.point p).qualified = .inactive → (s.point p).release = none) ∧
    (s.point p).reminder.okIn s.ru.state = true

/-- Every point item of the list stands in the class that its point's record gives (R42, R113). -/
abbrev State.ClassesOk (s : State) : Prop :=
  ∀ x ∈ s.sq.items, ∀ p : PointId, x.kind = .point p → x.cls = s.pointClass p

/-! ## Event Table (R2, R21, R143, R156) -/

/-- An entry of category none is pristine (R2): whatever writes an entry gives it a category (R9, R184). -/
abbrev State.EntriesOk (s : State) : Prop :=
  ∀ i : EntryIndex, (s.entry i).category = none → s.entry i = Entry.pristine

/-- A MEMBER and a SYNCING station hold a valid line count, and so does a joiner that has applied a segment (R21). -/
abbrev State.CountOk (s : State) : Prop :=
  (s.ru.state = .member ∨ s.ru.state = .syncing ∨ s.ru.entryState = some .member ∨ s.ru.entryState = some .syncing ∨
    (s.ru.state = .joining ∧ ∃ i : EntryIndex, s.ru.coverage[i] = true)) → s.et.countValid = true

/-! ## All of them -/

/-- A state that satisfies every invariant above. -/
structure State.Sound (s : State) : Prop where
  port : s.PortOk
  outputs : s.OutputsOk
  roster : s.RosterOk
  station : s.StationOk
  config : s.ConfigOk
  line : s.LineOk
  queue : s.QueueOk
  bounds : s.BoundsOk
  flight : s.FlightOk
  points : s.PointsOk
  classes : s.ClassesOk
  count : s.CountOk
  entries : s.EntriesOk

end Sys2Proof.Machine
end

