-- ==== Sys2Proof/Certificates/Slice0/Obligations.lean ====
section
/-! DEFINITION. The statements for the provers. Each says what a command or the station does, in the words of the rules it
cites in OBLIGATIONS.json. -/

namespace Sys2Proof.Machine

/-! ## Words the statements share -/

/-- Every block but the Local Port, and the commands waiting, stand as they were. -/
def State.sameOutsidePort (s t : State) : Prop :=
  t.cs = s.cs ∧ t.et = s.et ∧ t.ru = s.ru ∧ t.pu = s.pu ∧ t.sq = s.sq ∧ t.lc = s.lc ∧ t.ou = s.ou ∧
    t.pending = s.pending

/-- The port after a command that gave this result and response and did nothing else to it (R161). That the command ends an
open NOTIFY READ (`openRead := none`) is the model's choice of log entry 30. -/
def LocalPort.answered (l : LocalPort) (r : ResultCode) (bytes : List Byte) : LocalPort :=
  { l with reply := some { result := r, response := bytes }, openRead := none }

/-- The station is the receiver of a frame: its receiver runs, no frame of its own is in flight, and it has been assembling the
frame since it began (R91, R94, R99). -/
abbrev State.receives (s : State) : Prop := s.lc.receiverOn = true ∧ s.lc.inFlight = none ∧ s.lc.assembling = true

/-- The records of the kind `k` that an event pushed, when the notification queue had room for all of them (R169, R170). -/
def State.pushes (s t : State) (k : Record → Bool) (rs : List Record) : Prop :=
  t.lp.marker = none → ∃ pushed, t.lp.records = s.lp.records ++ pushed ∧ pushed.filter k = rs

/-- Records about table and roster. -/
def Record.isReport : Record → Bool
  | .entry _ _ _ _ _ _ | .roster _ _ _ | .tableLoaded _ => true
  | .outcome _ _ | .station _ _ _ => false

/-- Records about a claim or a purge that has ended. -/
def Record.isOutcome : Record → Bool
  | .outcome _ _ => true
  | .entry _ _ _ _ _ _ | .roster _ _ _ | .tableLoaded _ | .station _ _ _ => false

/-- STATION records. -/
def Record.isStation : Record → Bool
  | .station _ _ _ => true
  | .entry _ _ _ _ _ _ | .outcome _ _ | .roster _ _ _ | .tableLoaded _ => false

/-- ENTRY records are pushed in MEMBER and MUTED, for categories in the notify category mask (R15, R16, R20, R52). -/
def State.wantsEntry (s : State) (e : Entry) : Bool :=
  (s.ru.state == .member || s.ru.state == .muted) &&
    match s.cs.setup, e.category with
    | some u, some c => u.notifyMask.getLsbD c.1
    | _, _ => false

/-- ROSTER records are pushed in MEMBER, MUTED and LEAVING (R131). -/
def State.wantsRoster (s : State) : Bool :=
  s.ru.state == .member || s.ru.state == .muted || s.ru.state == .leaving

/-- The ENTRY record of an entry as it stands, with a cause (R15, R172). -/
def State.entryRecord (t : State) (i : EntryIndex) (cause : EntryCause) : Record :=
  .entry i (t.entry i).phase (t.entry i).condition (t.entry i).occurrence (t.entry i).acknowledger cause

/-- The ENTRY records of an origin's points that `changed` picks out, in ascending point number. -/
def State.originRecords (s t : State) (o : StationId) (cause : EntryCause) (changed : EntryIndex → Bool) : List Record :=
  (List.finRange 16).filterMap fun q =>
    let i := entryIndex o q
    if changed i && s.wantsEntry (s.entry i) then some (t.entryRecord i cause) else none

/-- The ROSTER record of a station whose record's state changed, where such records are pushed (R131). -/
def State.rosterRecords (s : State) (u : StationId) (st : RosterState) (cause : Option LeaveCause) : List Record :=
  if (s.record u).state ≠ st ∧ s.wantsRoster = true then [.roster u st cause] else []

/-- The OUTCOME of an item that a LEAVE command or a change of state removes (R57, R120, R121). -/
def withdrawnRecord (x : Item) : Option Record :=
  match x.kind with
  | .claim i _ => some (.outcome (.claim i) (.void .withdrawn none))
  | .purge o => some (.outcome (.purge o) (.void .withdrawn none))
  | .point _ | .lost _ | .presence _ | .join _ | .leave _ | .snapshot => none

/-- The OUTCOME that waits for the end of an attempt whose item a LEAVE command took out of the list (R57, R120). -/
def State.removedOutcome (s : State) (f : InFlight) : List Record :=
  if ∃ x ∈ s.sq.items, x.age = f.item.age then [] else (withdrawnRecord f.item).toList

/-- The port once these records have been pushed in turn (R169). -/
def State.portAfter (s : State) (rs : List Record) : LocalPort := rs.foldl (fun l r => l.push s.promptPeriod r) s.lp

/-- PRESENT, JOINING or SYNCING: the record of a station that has not gone (R131, R137). -/
abbrev RosterRecord.stands (r : RosterRecord) : Prop := r.state = .present ∨ r.state = .joining ∨ r.state = .syncing

/-- Some station of the roster, the own one included, is JOINING or SYNCING (R150). -/
abbrev State.someoneRebuilds (s : State) : Prop :=
  ∃ u : StationId, (s.record u).state = .joining ∨ (s.record u).state = .syncing

/-- The station names itself as reference (R138). -/
abbrev State.namesItself (s : State) : Prop := s.reference = some s.cs.stationNumber

/-- The three conditions of a sweep (R150). -/
abbrev State.sweepCondition (s : State) : Prop := s.ru.state = .member ∧ s.namesItself ∧ s.someoneRebuilds

/-- Every silence timer has stopped and nothing else about the roster has changed (R128, R148). -/
abbrev State.rosterFrozen (s t : State) : Prop := ∀ u : StationId, t.record u = { s.record u with silence := none }

/-- What a failed join or resync attempt leads to: the next of the same mode, or the end of the third (R148). -/
def State.retriesOrGivesUp (s t : State) : Prop :=
  t.cs = s.cs ∧ t.pending = s.pending ∧ t.ou.silenceMark = s.ou.silenceMark ∧ t.ru.deferredExpiry = false ∧
    (s.ru.attempt < 3 →
      t.ru.state = s.ru.state ∧ t.ru.attempt = s.ru.attempt + 1 ∧ t.ru.attemptTimer = some (8 * s.presenceMs) ∧
        t.ru.joinMode = some (if s.ru.state = .joining then .join else .resync) ∧
        t.ru.ownJoin = false ∧ (∀ i : EntryIndex, t.ru.coverage[i] = false) ∧ t.hasItem ItemKind.isJoin = true ∧
        (s.ru.state = .joining → t.et.countValid = false ∧ (∀ i : EntryIndex, t.entry i = Entry.pristine) ∧
          ∀ u : StationId, t.record u = RosterRecord.absent)) ∧
    (3 ≤ s.ru.attempt → s.ru.state = .joining →
      t.ru.state = .refused ∧ t.ru.refusal = some .noResponse ∧ t.sq.items = [] ∧ t.ru.attempt = s.ru.attempt ∧
        t.lc.vetoCount = 0 ∧ ∀ u : StationId, (t.record u).silence = none) ∧
    (3 ≤ s.ru.attempt → s.ru.state = .syncing →
      t.ru.state = .listening ∧ t.ru.windowTimer = some (4 * s.presenceMs) ∧ t.sq.items = [] ∧
        ∀ u : StationId, (t.record u).silence = none)

/-- The 5-byte form of an entry (R185). -/
def isEntryForm (bytes : List Byte) (i : EntryIndex) (e : Entry) : Prop :=
  ∃ status : Byte,
    bytes = [BitVec.ofNat 8 i.1, status, e.occurrence,
      (match e.category with
       | some c => BitVec.ofNat 8 c.1
       | none => 0x08),
      (match e.acknowledger with
       | some a => BitVec.ofNat 8 a.1
       | none => 0x10)] ∧
    status.extractLsb' 0 2 = e.phase.code ∧ status.getLsbD 2 = e.condition.isActive ∧
    status.getLsbD 3 = e.orphaned ∧ status.extractLsb' 4 4 = e.reminders

/-- The line count at the acceptance of a frame that carries no segment content (R23). -/
def State.countAtAcceptance (s : State) : Word32 :=
  if s.et.countValid then s.et.lineCount + 1 else s.et.lineCount

/-- What the sender's last-heard count becomes (R130). -/
def State.heardAt (s : State) : Option Word32 := if s.et.countValid then some (s.et.lineCount + 1) else none

/-- The new item stands at the tail of its class (R113). -/
def placedAtTail (old new : List Item) (x : Item) : Prop :=
  ∃ pre post, old = pre ++ post ∧ new = pre ++ x :: post ∧ (∀ y ∈ pre, y.cls ≤ x.cls) ∧ (∀ y ∈ post, x.cls < y.cls)

/-- The withdrawal check on one queued claim (R55): it stays where its entry stands as it was; where the entry changed it stays
exactly when it could still win, and leaves otherwise with the first case of R49 that now matches. -/
def State.claimIsChecked (s t : State) (x : Item) (i : EntryIndex) (occ : Byte) : Prop :=
  let e := t.entry i
  (s.entry i = e → x ∈ t.sq.items) ∧
    (s.entry i ≠ e →
      (x ∈ t.sq.items ↔ e.occurrence = occ ∧ t.entryAckNone e = false ∧ e.acknowledger = none ∧
        (e.phase = .raised ∨ e.phase = .lapsed))) ∧
    (s.entry i ≠ e → t.lp.marker = none → ∃ pushed, t.lp.records = s.lp.records ++ pushed ∧
      (let ended : VoidReason → Option StationId → Prop := fun r w => .outcome (.claim i) (.void r w) ∈ pushed
       (e.occurrence ≠ occ → ended .occurrenceChanged none) ∧
       (e.occurrence = occ → t.entryAckNone e = true → ended .noAck none) ∧
       (e.occurrence = occ → t.entryAckNone e = false → ∀ a, e.acknowledger = some a → ended .alreadyAcked (some a)) ∧
       (e.occurrence = occ → t.entryAckNone e = false → e.acknowledger = none → e.phase = .quiet →
        ended .notPending none)))

/-- The result of a claim of occurrence `occ` on the entry `e` by the first case of R49, with the winner that R53 names. Of an
entry HELD with no acknowledger it says nothing but that the claim does not win (log entry 6). -/
def State.isClaimResult (s : State) (e : Entry) (occ : Byte) (r : OutcomeResult) : Prop :=
  (e.occurrence ≠ occ → r = .void .occurrenceChanged none) ∧
    (e.occurrence = occ → s.entryAckNone e = true → r = .void .noAck none) ∧
    (e.occurrence = occ → s.entryAckNone e = false → ∀ a, e.acknowledger = some a → r = .void .alreadyAcked (some a)) ∧
    (e.occurrence = occ → s.entryAckNone e = false → e.acknowledger = none →
      (e.phase = .quiet → r = .void .notPending none) ∧
      (e.phase = .raised ∨ e.phase = .lapsed → r = .won s.cs.stationNumber) ∧
      (e.phase = .held → r ≠ .won s.cs.stationNumber))

/-- OUTCOME records about one claim or one purge. -/
def Record.isOutcomeOf (subject : OutcomeSubject) : Record → Bool
  | .outcome u _ => u == subject
  | .entry _ _ _ _ _ _ | .roster _ _ _ | .tableLoaded _ | .station _ _ _ => false

/-- A valid PURGE of the own origin (R18, R43). -/
def State.purgesOwnOrigin (s : State) (n : Notice) : Prop :=
  n = .purge (BitVec.ofNat 8 s.cs.stationNumber.1) ∧
    ((s.record s.cs.stationNumber).state = .lost ∨ (s.record s.cs.stationNumber).state = .left ∨
      (s.record s.cs.stationNumber).state = .absent)

/-- A valid LOST from `sender` that names this station (R140, R141). -/
def State.losesItself (s : State) (sender : StationId) (n : Notice) : Prop :=
  ∃ p, n = .lost p ∧ p.target.toNat % 16 = s.cs.stationNumber.1 ∧ (s.record s.cs.stationNumber).stands ∧
    (let heard := if s.cs.stationNumber = sender then s.heardAt else (s.record s.cs.stationNumber).lastHeard
     p.target.getLsbD 7 = true ∨ heard = none ∨ heard = some p.lastHeard)

/-- Byte `k` of a response, none past its end. -/
def byteAt (bytes : List Byte) (k : Nat) : Option Byte := bytes[k]?

/-- The acceptance of a notice, as a command. -/
def acceptanceOf (sender : StationId) : Notice → Instr
  | .presence p => .presenceAccepted sender p
  | .point p => .pointAccepted sender p
  | .claim p => .claimAccepted sender p
  | .lost p => .lostAccepted sender p
  | .purge o => .purgeAccepted sender o
  | .leave c => .leaveAccepted sender c
  | .join p => .joinAccepted sender p
  | .snapshot p => .snapshotAccepted sender p

/-- The commands at which an entry or the line count may change (R3): an acceptance, START, hardware reset, and the ends of
a window, a mute or an attempt, the last also at the end of a frame it had to wait for. -/
def mayChangeTable : Instr → Bool
  | .hardwareReset _ | .start | .muteTimerExpiry | .windowTimerExpiry | .attemptTimerExpiry | .arbitrationLost
  | .senderFault _ | .frameVetoed _ | .presenceAccepted _ _ | .pointAccepted _ _ | .claimAccepted _ _
  | .lostAccepted _ _ | .purgeAccepted _ _ | .leaveAccepted _ _ | .joinAccepted _ _ | .snapshotAccepted _ _ => true
  | .statusRead | .entryRead _ | .entryScan _ _ | .rosterRead _ | .notifyRead | .notifyReadComplete | .countersRead
  | .countersClear | .acknowledge _ | .purge _ | .silence | .softPoint _ _ | .profileLoad _ | .setupLoad _ | .leave
  | .unknownCommand _ | .commandDiscarded | .qualifyTimerExpiry _ | .releaseTimerExpiry _ | .reminderExpiry _
  | .lineIdle | .attemptStart | .frameAbandoned | .frameDiscardedDamaged _ | .presenceTimerExpiry
  | .promotionTimerExpiry | .silenceTimerExpiry _ | .pulseTimerExpiry _ | .flasherPhaseChange _ | .promptTimerExpiry
  | .attnReleaseEnd | .inputSample _ | .frameStart => false

/-- Item `d` of a profile image fails its test (R177). -/
def profileItemFails (image : Vector Byte 26) (d : Nat) : Prop :=
  (d = 0 ∧ 3 < image[0].toNat) ∨ (d = 1 ∧ image[1].toNat < 2) ∨
    ∃ c : CategoryId,
      (d = 2 + 3 * c.1 ∧ (image[2 + 3 * c.1].extractLsb' 0 2).toNat = 3) ∨
      (d = 3 + 3 * c.1 ∧ (image[2 + 3 * c.1].extractLsb' 2 2).toNat = 3) ∨
      (d = 4 + 3 * c.1 ∧ (image[4 + 3 * c.1].toNat = 0 ∨ 15 < image[4 + 3 * c.1].toNat))

/-- Item `d` of a setup image fails its test (R179). -/
def setupItemFails (image : Vector Byte 130) (d : Nat) : Prop :=
  (∃ p : PointId,
    (d = 2 * p.1 ∧ 15 < image[5 * p.1].toNat ∧ image[5 * p.1] ≠ 0x40#8 ∧ image[5 * p.1] ≠ 0x80#8) ∨
    (d = 2 * p.1 + 1 ∧ 7 < image[5 * p.1 + 1].toNat)) ∨
  ∃ o : OutputId,
    (d = 32 + 2 * o.1 ∧ 4 < image[80 + 6 * o.1].toNat) ∨ (d = 33 + 2 * o.1 ∧ image[85 + 6 * o.1] = 0#8)

/-- The station may offer the item, by its state and the return presence mark (R114). -/
abbrev State.mayOffer (s : State) (x : Item) : Prop :=
  (s.ru.state = .member ∧ (s.sq.returnPending = false ∨ x.kind.isPresence = true)) ∨
    ((s.ru.state = .joining ∨ s.ru.state = .syncing) ∧
      (x.kind.isPresence = true ∨ x.kind.isJoin = true ∨ x.kind.isLeave = true)) ∨
    (s.ru.state = .leaving ∧ x.kind.isLeave = true)

/-- The entry to SYNCING keeps the point items and the PRESENCE item with their classes and ages, and starts no attempt (R146).
Then the point items are not offered and the PRESENCE item is (R114; log entry 34). -/
abbrev State.keepsAtSyncing (s t : State) : Prop :=
  t.lc.inFlight = none ∧
    (∀ x ∈ s.sq.items, x.kind.isPoint = true → x ∈ t.sq.items ∧ ¬t.mayOffer x) ∧
    ∀ x ∈ s.sq.items, x.kind.isPresence = true → x ∈ t.sq.items ∧ t.mayOffer x

end Sys2Proof.Machine

open Sys2Proof Sys2Proof.Machine

/-! ## The queue of commands, and reset -/

/-- A step with a command at the front runs that command on the rest of the queue. -/
def Obligations.StepRunsTheFrontCommand : Prop :=
  ∀ (c : Instr) (rest : List Instr) (s : State), s.pending = c :: rest → step s = exec c { s with pending := rest }

/-- The model's choice (log entry 2): with nothing waiting one millisecond passes; every running timer of RU, SQ, OU and LP,
both flashers and every running reminder timer count down, a held one and the qualify and release timers do not, and everything
else stands. -/
def Obligations.EmptyQueueLetsOneMillisecondPass : Prop :=
  ∀ s : State, s.pending = [] →
    ∃ t, step s = .next t ∧ t.pending = [] ∧ t.cs = s.cs ∧ t.et = s.et ∧ t.lc = s.lc ∧
      t.ru = { s.ru with
        roster := t.ru.roster
        presenceTimer := s.ru.presenceTimer.map (· - 1), muteTimer := s.ru.muteTimer.map (· - 1)
        windowTimer := s.ru.windowTimer.map (· - 1), attemptTimer := s.ru.attemptTimer.map (· - 1) } ∧
      (∀ u : StationId, t.record u = { s.record u with silence := (s.record u).silence.map (· - 1) }) ∧
      (∀ p : PointId, t.point p = { s.point p with
        reminder := match (s.point p).reminder with
          | .running n => .running (n - 1)
          | .stopped => .stopped
          | .held n => .held n }) ∧
      t.sq = { s.sq with
        items := s.sq.items.map fun x =>
          match x.kind with
          | .presence timer => { x with kind := .presence (timer.map (· - 1)) }
          | _ => x } ∧
      t.ou = { s.ou with
        fast := { s.ou.fast with remaining := s.ou.fast.remaining - 1 }
        slow := { s.ou.slow with remaining := s.ou.slow.remaining - 1 }
        pulses := t.ou.pulses } ∧
      (∀ o : OutputId, t.ou.pulses[o] = s.ou.pulses[o].map (· - 1)) ∧
      t.lp = { s.lp with
        promptTimer := s.lp.promptTimer.map (· - 1), releaseTimer := s.lp.releaseTimer.map (· - 1) }

/-- Hardware reset brings every block to the values the rules give, with the station number read from the pins. -/
def Obligations.HardwareResetGivesResetValues : Prop :=
  ∀ (ids : BitVec 4) (s : State),
    ∃ t, exec (.hardwareReset ids) s = .next t ∧ t.pending = s.pending ∧
      t.cs.stationNumber.1 = ids.toNat ∧ t.cs.profile = none ∧ t.cs.profileDigest = 0 ∧ t.cs.setup = none ∧
      (∀ i : EntryIndex, t.entry i = Entry.pristine) ∧ t.et.countValid = false ∧
      t.ru.state = .configuring ∧ t.ru.refusal = none ∧ t.ru.entryState = none ∧ t.ru.doubtful = false ∧
      (∀ u : StationId, t.record u = RosterRecord.absent) ∧
      t.ru.presenceTimer = none ∧ t.ru.muteTimer = none ∧ t.ru.windowTimer = none ∧ t.ru.attemptTimer = none ∧
      t.ru.joinMode = none ∧ t.ru.attempt = 0 ∧ t.ru.ownJoin = false ∧ t.ru.cursor = 0 ∧
      (∀ i : EntryIndex, t.ru.coverage[i] = false) ∧
      (∀ p : PointId, t.point p = PointRecord.unloaded) ∧
      t.sq.items = [] ∧ t.sq.returnPending = false ∧
      t.lc.receiverOn = false ∧ t.lc.inFlight = none ∧ t.lc.vetoCount = 0 ∧ t.lc.counters = Counters.zero ∧
      t.lc.ltx = .released ∧
      t.ou.trip = TripReasons.clear ∧ t.ou.silenceMark = 0 ∧
      t.ou.fast = { on := true, remaining := 250, alignment := 0 } ∧
      t.ou.slow = { on := true, remaining := 1000, alignment := 0 } ∧
      (∀ o : OutputId, t.ou.pulses[o] = none ∧ t.ou.pins[o] = .undriven) ∧
      t.lp.records = [] ∧ t.lp.marker = none ∧ t.lp.attn = false ∧ t.lp.promptTimer = none ∧
      t.lp.releaseTimer = none

/-! ## Reads of the local port -/

/-- STATUS READ returns OK and 30 bytes in the layout of R186, the own state by its code 0 to 8; the four count bytes are open
while the count is invalid. The reference it names is the lowest-numbered station that qualifies: another one when its record
is PRESENT and not suspect, the own one in MEMBER. That the bits of bytes 5, 13 and 23 to which R186 gives no content are 0 is
the model's choice (log entry 40). -/
def Obligations.StatusReadReturnsTheStation : Prop :=
  [StationState.configuring, .listening, .joining, .member, .syncing, .muted, .leaving, .offline, .refused].map
      StationState.code = [0, 1, 2, 3, 4, 5, 6, 7, 8] ∧
  ∀ s : State,
    ∃ (t : State) (bytes : List Byte), exec .statusRead s = .next t ∧ s.sameOutsidePort t ∧ t.lp = s.lp.answered .ok bytes ∧
      bytes.length = 30 ∧
      byteAt bytes 0 = some (BitVec.ofNat 8 s.cs.stationNumber.1) ∧ byteAt bytes 1 = some s.ru.state.code ∧
      byteAt bytes 2 = some (match s.ru.refusal with
        | some .profileMismatch => 1
        | some .noResponse => 2
        | none => 0xFF) ∧
      (s.ru.state ≠ .muted → byteAt bytes 3 = some 0xFF ∧ byteAt bytes 4 = some 0xFF) ∧
      (s.ru.state = .muted →
        byteAt bytes 3 = some (match s.ru.entryState with
          | some .member => 3
          | some .joining => 2
          | some .syncing => 4
          | none => 0xFF) ∧
        byteAt bytes 4 = some (if s.ru.doubtful then 1 else 0)) ∧
      byteAt bytes 5 = some (BitVec.ofNat 8
        ((if s.cs.profile.isSome then 1 else 0) + (if s.cs.setup.isSome then 2 else 0))) ∧
      (bytes.drop 6).take 2 = word16Bytes s.cs.profileDigest ∧
      (s.et.countValid = true → (bytes.drop 8).take 4 = word32Bytes s.et.lineCount) ∧
      byteAt bytes 12 = some (if s.et.countValid then 1 else 0) ∧
      byteAt bytes 13 = some (BitVec.ofNat 8
        ((if s.ou.trip.table then 1 else 0) + (if s.ou.trip.ownPoint then 2 else 0) +
          (if s.ou.trip.uncertain then 4 else 0))) ∧
      byteAt bytes 14 = some (match s.reference with
        | some u => BitVec.ofNat 8 u.1
        | none => 0xFF) ∧
      (bytes.drop 15).take 8 =
        [ItemKind.isPoint, ItemKind.isClaim, ItemKind.isLost, ItemKind.isPresence, ItemKind.isJoin, ItemKind.isLeave,
          (· == .snapshot), ItemKind.isPurge].map (fun k => BitVec.ofNat 8 (s.countItems k)) ∧
      byteAt bytes 23 = some (BitVec.ofNat 8
        ((if s.lc.inFlight.isSome then 1 else 0) + (if s.sq.returnPending then 2 else 0))) ∧
      byteAt bytes 24 = some (match s.ru.joinMode with
        | some .join => 0
        | some .resync => 1
        | none => 0xFF) ∧
      byteAt bytes 25 = some (BitVec.ofNat 8 s.ru.attempt) ∧
      (bytes.drop 26).take 2 = word16Bytes (BitVec.ofNat 16 s.coverageCount) ∧
      byteAt bytes 28 = some (BitVec.ofNat 8 s.lp.records.length) ∧
      byteAt bytes 29 = some (BitVec.ofNat 8 (s.lp.marker.getD 0)) ∧
      (let names : Prop := s.ru.state = .joining ∨ s.ru.state = .syncing ∨ s.ru.state = .member ∨ s.ru.state = .muted ∨
        s.ru.state = .leaving
       let qualifies : StationId → Prop := fun u =>
        (u = s.cs.stationNumber ∧ s.ru.state = .member) ∨
          (u ≠ s.cs.stationNumber ∧ (s.record u).state = .present ∧ (s.record u).suspect = false)
       ∀ u : StationId, s.reference = some u ↔ names ∧ qualifies u ∧ ∀ v : StationId, v < u → ¬qualifies v)

/-- ENTRY READ returns every field of the entry, the phase by its code 0 to 3, the raise stamp included; ENTRY SCAN returns the
first index from the start up to 255 whose phase is in the set, or EMPTY, and refuses a set that names anything else. Both in
every station state. -/
def Obligations.EntryReadAndScanAnswerFromTheTable : Prop :=
  [Phase.quiet, .raised, .held, .lapsed].map Phase.code = [0, 1, 2, 3] ∧
  ∀ s : State,
    (∀ index : Byte, ∃ t status, exec (.entryRead index) s = .next t ∧ s.sameOutsidePort t ∧
      (let e := s.entry (byteIndex index)
       t.lp = s.lp.answered .ok
        ([index, status, e.occurrence,
          (match e.category with
           | some c => BitVec.ofNat 8 c.1
           | none => 0x08),
          (match e.acknowledger with
           | some a => BitVec.ofNat 8 a.1
           | none => 0x10)] ++ word32Bytes e.raiseStamp) ∧
       status.extractLsb' 0 2 = e.phase.code ∧ status.getLsbD 2 = e.condition.isActive ∧
       status.getLsbD 3 = e.orphaned ∧ status.extractLsb' 4 4 = e.reminders)) ∧
    (∀ start phases : Byte, ∃ t, exec (.entryScan start phases) s = .next t ∧ s.sameOutsidePort t ∧
      (let inSet : EntryIndex → Prop := fun i => phases.getLsbD (s.entry i).phase.code.toNat = true
       (phases.extractLsb' 4 4 ≠ 0#4 → t.lp = s.lp.answered .badArgument []) ∧
       (phases.extractLsb' 4 4 = 0#4 →
        (∀ i : EntryIndex, start.toNat ≤ i.1 → inSet i → (∀ j : EntryIndex, start.toNat ≤ j.1 → j < i → ¬inSet j) →
          t.lp = s.lp.answered .ok [BitVec.ofNat 8 i.1]) ∧
        ((∀ i : EntryIndex, start.toNat ≤ i.1 → ¬inSet i) → t.lp = s.lp.answered .empty []))))

/-- ROSTER READ returns state, by its code 0 to 5, last-heard count and suspect flag; a station over 15 is BAD_ARGUMENT; the
count bytes of an unknown count are open. That the bits of the last byte to which R186 gives no content are 0 is the model's
choice (log entry 40). -/
def Obligations.RosterReadReturnsTheRecord : Prop :=
  [RosterState.absent, .joining, .syncing, .present, .lost, .left].map RosterState.code = [0, 1, 2, 3, 4, 5] ∧
  ∀ (station : Byte) (s : State),
    ∃ t, exec (.rosterRead station) s = .next t ∧ s.sameOutsidePort t ∧
      (16 ≤ station.toNat → t.lp = s.lp.answered .badArgument []) ∧
      (∀ u : StationId, station.toNat = u.1 →
        ∃ count : Word32,
          t.lp = s.lp.answered .ok ([(s.record u).state.code.setWidth 8] ++ word32Bytes count ++
            [BitVec.ofNat 8 ((if (s.record u).suspect then 1 else 0) + (if (s.record u).lastHeard.isNone then 2 else 0))]) ∧
          ∀ n, (s.record u).lastHeard = some n → count = n)

/-- COUNTERS READ returns the ten counters; COUNTERS CLEAR sets all ten to 0 and changes nothing else. -/
def Obligations.CountersReadAndClear : Prop :=
  ∀ s : State,
    exec .countersRead s =
      (let c := s.lc.counters
       let bytes := word16Bytes c.framesAccepted ++ word16Bytes c.framesVetoed ++ word16Bytes c.vetoesIssued ++
        word16Bytes c.ownVetoed ++ word16Bytes c.ownAbandoned ++ word16Bytes c.arbitrationLosses ++
        word16Bytes c.staleNotices ++ word16Bytes c.voidClaims ++ word16Bytes c.voidLost ++ word16Bytes c.voidPurges
       .next { s with lp := s.lp.answered .ok bytes }) ∧
    exec .countersClear s =
      .next { s with lc := { s.lc with counters := Counters.zero }, lp := s.lp.answered .ok [] }

/-- NOTIFY READ gives the head item and removes nothing; an empty queue gives EMPTY. The eight bytes of each kind of record
are those of the layout of R186, unused ones 0. Its completion removes the head record, or from the marker the count it
returned; ATTN is released and the prompt timer stopped when the queue is then empty, else the timer restarts. That the bits
to which R186 gives no content, in the phase byte of an ENTRY record and in the trip reasons byte of a STATION record, are 0
is the model's choice (log entry 40). -/
def Obligations.NotifyReadGivesAndRemovesTheHead : Prop :=
  (let station : Option StationId → Byte := fun a =>
    match a with
    | some u => BitVec.ofNat 8 u.1
    | none => 0xFF
   (∀ (i : EntryIndex) (ph : Phase) (c : Condition) (occ : Byte) (ack : Option StationId) (cause : EntryCause),
    (Record.entry i ph c occ ack cause).bytes =
      [1, BitVec.ofNat 8 i.1, BitVec.ofNat 8 (ph.code.toNat + if c = .active then 4 else 0), occ, station ack,
        (match cause with
         | .newOccurrence => 0
         | .fall => 1
         | .acked => 2
         | .reminder => 3
         | .orphaned => 4
         | .restored => 5
         | .purged => 6), 0, 0]) ∧
   (∀ (x : OutcomeSubject) (r : OutcomeResult),
    (Record.outcome x r).bytes =
      (match x with
       | .claim i => [2, 0, BitVec.ofNat 8 i.1]
       | .purge o => [2, 1, BitVec.ofNat 8 o.1]) ++
      (match r with
       | .won w => [0, 0, BitVec.ofNat 8 w.1]
       | .void reason w =>
        [1, (match reason with
             | .occurrenceChanged => 1
             | .noAck => 2
             | .alreadyAcked => 3
             | .notPending => 4
             | .withdrawn => 5
             | .originPresent => 6), station w]
       | .done => [2, 0, 0xFF]) ++ [0, 0]) ∧
   (∀ (u : StationId) (st : RosterState) (cause : Option LeaveCause),
    (Record.roster u st cause).bytes =
      [3, BitVec.ofNat 8 u.1, BitVec.ofNat 8 st.code.toNat,
        (match cause with
         | some .commanded => 0
         | some .vetoLimit => 1
         | none => 0xFF), 0, 0, 0, 0]) ∧
   (∀ (st : StationState) (reason : Option RefusalReason) (trip : TripReasons),
    (Record.station st reason trip).bytes =
      [4, st.code,
        (match reason with
         | some .profileMismatch => 1
         | some .noResponse => 2
         | none => 0xFF),
        BitVec.ofNat 8 ((if trip.table then 1 else 0) + (if trip.ownPoint then 2 else 0) +
          (if trip.uncertain then 4 else 0)), 0, 0, 0, 0]) ∧
   ∀ n : Word32, (Record.tableLoaded n).bytes = [5] ++ word32Bytes n ++ [0, 0, 0]) ∧
  ∀ s : State,
    (s.lp.records = [] → s.lp.marker = none → exec .notifyRead s = .next { s with lp := s.lp.answered .empty [] }) ∧
    (∀ r rest, s.lp.records = r :: rest →
      exec .notifyRead s =
        .next { s with lp :=
          { (s.lp.answered .ok r.bytes) with openRead := some { marker := false, dropped := 0 } } }) ∧
    (∀ n, s.lp.records = [] → s.lp.marker = some n →
      exec .notifyRead s =
        .next { s with lp :=
          { (s.lp.answered .ok [6, BitVec.ofNat 8 n, 0, 0, 0, 0, 0, 0]) with
            openRead := some { marker := true, dropped := 0 } } }) ∧
    (s.lp.openRead = none → exec .notifyReadComplete s = .next s) ∧
    (∀ d r rest, s.lp.openRead = some { marker := false, dropped := d } → s.lp.records = r :: rest →
      exec .notifyReadComplete s =
        .next { s with lp :=
          if rest = [] ∧ s.lp.marker = none then
            { s.lp with records := [], openRead := none, attn := false, promptTimer := none }
          else { s.lp with records := rest, openRead := none, promptTimer := s.promptPeriod } }) ∧
    (∀ d n, s.lp.openRead = some { marker := true, dropped := d } → s.lp.records = [] → s.lp.marker = some n →
      exec .notifyReadComplete s =
        .next { s with lp :=
          if d = 0 then { s.lp with marker := none, openRead := none, attn := false, promptTimer := none }
          else { s.lp with marker := some d, openRead := none, promptTimer := s.promptPeriod } })

/-- A record goes to the tail while fewer than 31 are held and there is no marker; otherwise it is dropped and the marker
counts it, up to 255. A push into an empty queue asserts ATTN and starts the prompt timer; one onto a queue that holds an item,
or during a re-prompt release, leaves both. A record dropped behind the marker while a read is open is counted for that read
too, up to 255 (log entry 24); any other push leaves the read as it is. -/
def Obligations.PushedRecordIsQueuedOrCounted : Prop :=
  ∀ (l : LocalPort) (period : Option Nat) (r : Record),
    (l.marker = none → l.records.length < 31 →
      (l.push period r).records = l.records ++ [r] ∧ (l.push period r).marker = none) ∧
    (l.marker = none → l.records.length = 31 →
      (l.push period r).records = l.records ∧ (l.push period r).marker = some 1) ∧
    (∀ n, l.marker = some n →
      (l.push period r).records = l.records ∧ (l.push period r).marker = some (min 255 (n + 1))) ∧
    (l.records = [] → l.marker = none → l.releaseTimer = none →
      (l.push period r).attn = true ∧ (l.push period r).promptTimer = period) ∧
    ((l.records ≠ [] ∨ l.marker ≠ none ∨ l.releaseTimer ≠ none) →
      (l.push period r).attn = l.attn ∧ (l.push period r).promptTimer = l.promptTimer) ∧
    (l.push period r).releaseTimer = l.releaseTimer ∧ (l.push period r).reply = l.reply ∧
    (∀ o, l.openRead = some o → l.marker ≠ none →
      (l.push period r).openRead = some { o with dropped := min 255 (o.dropped + 1) }) ∧
    ((l.openRead = none ∨ l.marker = none) → (l.push period r).openRead = l.openRead)

/-! ## Commands that act -/

/-- The first test of R46 that fails gives the result; when all pass a claim item for the current occurrence stands at the
tail of class 1. Nothing else changes. -/
def Obligations.AcknowledgeTestsInOrder : Prop :=
  ∀ (index : Byte) (s : State), s.QueueOk →
    ∃ t r, exec (.acknowledge index) s = .next t ∧ t.lp = s.lp.answered r [] ∧
      t.cs = s.cs ∧ t.et = s.et ∧ t.ru = s.ru ∧ t.pu = s.pu ∧ t.lc = s.lc ∧ t.ou = s.ou ∧ t.pending = s.pending ∧
      (let i := byteIndex index
       let e := s.entry i
       r = (if s.ru.state ≠ .member then .wrongState
        else if e.phase ≠ .raised ∧ e.phase ≠ .lapsed then .notPending
        else if s.entryAckNone e then .noAck
        else if ∃ x ∈ s.sq.items, x.kind.isClaimOf i = true then .busy
        else if 8 ≤ s.countItems ItemKind.isClaim then .full
        else .ok) ∧
       (r ≠ .ok → t.sq = s.sq) ∧
       (r = .ok → t.sq = { s.sq with items := t.sq.items, nextAge := s.sq.nextAge + 1 } ∧
        placedAtTail s.sq.items t.sq.items { kind := .claim i e.occurrence, cls := 1, age := s.sq.nextAge }))

/-- The first test of R166 that fails gives the result; when all pass a PURGE item stands at the tail of class 2. Nothing
else changes. -/
def Obligations.PurgeCommandTestsInOrder : Prop :=
  ∀ (origin : Byte) (s : State), s.QueueOk →
    ∃ t r, exec (.purge origin) s = .next t ∧ t.lp = s.lp.answered r [] ∧
      t.cs = s.cs ∧ t.et = s.et ∧ t.ru = s.ru ∧ t.pu = s.pu ∧ t.lc = s.lc ∧ t.ou = s.ou ∧ t.pending = s.pending ∧
      (r ≠ .ok → t.sq = s.sq) ∧
      (16 ≤ origin.toNat → r = .badArgument) ∧
      (∀ o : StationId, origin.toNat = o.1 →
        r = (if s.ru.state ≠ .member then .wrongState
          else if (s.record o).state ≠ .lost ∧ (s.record o).state ≠ .left ∧ (s.record o).state ≠ .absent then .notPending
          else if ∃ x ∈ s.sq.items, x.kind.isPurge = true then .busy
          else .ok) ∧
        (r = .ok → t.sq = { s.sq with items := t.sq.items, nextAge := s.sq.nextAge + 1 } ∧
          placedAtTail s.sq.items t.sq.items { kind := .purge o, cls := 2, age := s.sq.nextAge }))

/-- SILENCE sets the mark to the line count while it is valid, else it is refused; no entry and no queue changes. -/
def Obligations.SilenceMovesTheMark : Prop :=
  ∀ s : State, s.OutputsOk →
    (s.et.countValid = false → exec .silence s = .next { s with lp := s.lp.answered .wrongState [] }) ∧
    (s.et.countValid = true →
      ∃ pins, exec .silence s =
        .next { s with ou := { s.ou with silenceMark := s.et.lineCount, pins := pins }, lp := s.lp.answered .ok [] })

/-- SOFT POINT: refused without a setup, for a point over 15, a level over 1 or a source that is not SOFT; else raw level
and qualified state become the level, and a rise counts an occurrence and clears the pending reminder count. A changed level
runs the announce check, which queues the point of a MEMBER where its pairs then differ; a level already held changes nothing
but the reply (and ends a NOTIFY READ still open, log entry 30). -/
def Obligations.SoftPointTakesTheLevel : Prop :=
  ∀ (point level : Byte) (s : State),
    (s.cs.setup = none → exec (.softPoint point level) s = .next { s with lp := s.lp.answered .wrongState [] }) ∧
    (s.cs.setup ≠ none → (16 ≤ point.toNat ∨ 2 ≤ level.toNat) →
      exec (.softPoint point level) s = .next { s with lp := s.lp.answered .badArgument [] }) ∧
    (∀ (u : Setup) (p : PointId), s.cs.setup = some u → point.toNat = p.1 → (u.points[p] : PointSetup).source ≠ .soft →
      exec (.softPoint point level) s = .next { s with lp := s.lp.answered .badArgument [] }) ∧
    (∀ (u : Setup) (p : PointId) (c : Condition), s.cs.setup = some u → point.toNat = p.1 → u.points[p].source = .soft →
      (level = 0 ∧ c = .inactive ∨ level = 1 ∧ c = .active) →
      ((s.point p).qualified = c → (s.point p).raw = c → s.OutputsOk →
        exec (.softPoint point level) s = .next { s with lp := s.lp.answered .ok [] }) ∧
      ∃ t, exec (.softPoint point level) s = .next t ∧
        t.lp.reply = some { result := .ok, response := [] } ∧
        t.cs = s.cs ∧ t.et = s.et ∧ t.ru = s.ru ∧ t.lc = s.lc ∧ t.pending = s.pending ∧
        (t.point p).raw = c ∧ (t.point p).qualified = c ∧
        (if (s.point p).qualified = .inactive ∧ c = .active then
          (t.point p).occurrence = (s.point p).occurrence + 1 ∧ (t.point p).pendingReminders = 0
         else (t.point p).occurrence = (s.point p).occurrence ∧
          (t.point p).pendingReminders = (s.point p).pendingReminders) ∧
        ((t.point p).queued = true ↔ (s.point p).queued = true ∨
          ((s.point p).qualified ≠ c ∧ s.ru.state = .member ∧ t.pairsEqual p = false)) ∧
        (∀ q : PointId, q ≠ p → t.point q = s.point q))

/-- The bytes of a transaction give the command of their code with its arguments; a code that LP does not know gives
BAD_COMMAND and has no effect; a command discarded before it is taken returns nothing and has no effect. The result codes are 0
to 8. SDO gives 00h up to the turnaround, then result and response, then 00h, and is undriven while CSN is high. That a
command, unknown or discarded, also ends a NOTIFY READ still open (`openRead := none`) is the model's choice (log entry 30). -/
def Obligations.UnknownAndDiscardedCommandsDoNothing : Prop :=
  [ResultCode.ok, .badCommand, .badArgument, .wrongState, .busy, .full, .notPending, .noAck, .empty].map
      ResultCode.code = [0, 1, 2, 3, 4, 5, 6, 7, 8] ∧
  ∀ s : State,
    (∀ code : Byte,
      code ∉ [0x01#8, 0x02#8, 0x03#8, 0x04#8, 0x05#8, 0x06#8, 0x07#8, 0x10#8, 0x11#8, 0x12#8, 0x13#8, 0x20#8, 0x21#8,
        0x30#8, 0x31#8] →
      exec (.unknownCommand code) s = .next { s with lp := s.lp.answered .badCommand [] }) ∧
    exec .commandDiscarded s = .next { s with lp := { s.lp with reply := none, openRead := none } } ∧
    (∀ (a b : Byte) (more : List Byte),
      transactionCommand (0x01 :: more) = .statusRead ∧ transactionCommand (0x02 :: a :: more) = .entryRead a ∧
      transactionCommand (0x03 :: a :: b :: more) = .entryScan a b ∧
      transactionCommand (0x04 :: a :: more) = .rosterRead a ∧ transactionCommand (0x05 :: more) = .notifyRead ∧
      transactionCommand (0x06 :: more) = .countersRead ∧ transactionCommand (0x07 :: more) = .countersClear ∧
      transactionCommand (0x10 :: a :: more) = .acknowledge a ∧ transactionCommand (0x11 :: a :: more) = .purge a ∧
      transactionCommand (0x12 :: more) = .silence ∧ transactionCommand (0x13 :: a :: b :: more) = .softPoint a b ∧
      (∀ v : Vector Byte 26, transactionCommand (0x20 :: (v.toList ++ more)) = .profileLoad v) ∧
      (∀ v : Vector Byte 130, transactionCommand (0x21 :: (v.toList ++ more)) = .setupLoad v) ∧
      transactionCommand (0x30 :: more) = .start ∧ transactionCommand (0x31 :: more) = .leave ∧
      transactionCommand [] = .commandDiscarded) ∧
    (∀ (code : Byte) (args : List Byte), args.length < argumentBytes code →
      transactionCommand (code :: args) = .commandDiscarded) ∧
    (∀ (code : Byte) (more : List Byte), argumentLength code = none →
      transactionCommand (code :: more) = .unknownCommand code) ∧
    (∀ (code : Byte) (k : Nat), s.lp.sdo true code k = none ∧
      (k < argumentBytes code + 2 → s.lp.sdo false code k = some 0) ∧
      ∀ r, s.lp.reply = some r →
        s.lp.sdo false code (argumentBytes code + 2) = some r.result.code ∧
        (∀ b, r.response[k]? = some b → s.lp.sdo false code (argumentBytes code + 3 + k) = some b) ∧
        (r.response.length ≤ k → s.lp.sdo false code (argumentBytes code + 3 + k) = some 0))

/-! ## Configuration, START and LEAVE -/

/-- PROFILE LOAD: WRONG_STATE in service; BAD_ARGUMENT with the number of the first failing item; else the profile is held with
its digest, which is that of the argument bytes with every spare bit 0, the setup is removed, points are unloaded but for their
counters, pins are undriven, the receiver runs on a line not yet idle and has discarded what it was assembling; the prompt
timer stops, a re-prompt release is over and ATTN follows the queue; state, table, roster, send queue and counters stand. That
the release is over is the reading of log entry 17. That the rest of LC stands, so that LTX stays due to drive the veto slot of
a frame the station faulted on, is the model's choice (log entry 38). -/
def Obligations.ProfileLoadTakesTheWholeProfile : Prop :=
  ∀ (image : Vector Byte 26) (s : State),
    (s.ru.state ≠ .configuring → s.ru.state ≠ .offline → s.ru.state ≠ .refused →
      exec (.profileLoad image) s = .next { s with lp := s.lp.answered .wrongState [] }) ∧
    ((s.ru.state = .configuring ∨ s.ru.state = .offline ∨ s.ru.state = .refused) →
      (∀ d, profileItemFails image d → (∀ k, k < d → ¬profileItemFails image k) →
        exec (.profileLoad image) s = .next { s with lp := s.lp.answered .badArgument [BitVec.ofNat 8 d] }) ∧
      ((∀ d, ¬profileItemFails image d) →
        ∃ t p, exec (.profileLoad image) s = .next t ∧
          t.lp.reply = some { result := .ok, response := [] } ∧
          t.cs = { s.cs with profile := some p, profileDigest := crc16 p.image, setup := none } ∧
          p.image = ((List.finRange 26).map fun k =>
            if 2 ≤ k.1 ∧ (k.1 - 2) % 3 = 0 then image[k] &&& 0x1F#8 else image[k]) ∧
          p.rate.1 = image[0].toNat ∧ p.presenceTens = image[1] ∧
          (∀ c : CategoryId,
            (p.categories[c] : Category).level.1 = (image[2 + 3 * c.1].extractLsb' 0 2).toNat ∧
            (p.categories[c] : Category).ackMode.code = image[2 + 3 * c.1].extractLsb' 2 2 ∧
            (p.categories[c] : Category).trip = image[2 + 3 * c.1].getLsbD 4 ∧
            (p.categories[c] : Category).reminderInterval = image[3 + 3 * c.1] ∧
            (p.categories[c] : Category).reminderLimit.toNat = image[4 + 3 * c.1].toNat) ∧
          (∀ q : PointId, t.point q = { PointRecord.unloaded with occurrence := (s.point q).occurrence }) ∧
          (∀ o : OutputId, t.ou.pulses[o] = none ∧ t.ou.pins[o] = .undriven) ∧
          t.ou.silenceMark = s.ou.silenceMark ∧ t.ou.fast = s.ou.fast ∧ t.ou.slow = s.ou.slow ∧
          t.lp.promptTimer = none ∧ t.lp.releaseTimer = none ∧
          (t.lp.attn = true ↔ t.lp.records ≠ [] ∨ t.lp.marker ≠ none) ∧
          t.lc = { s.lc with receiverOn := true, lineIdle := false, assembling := false } ∧
          t.et = s.et ∧ t.ru = s.ru ∧ t.sq = s.sq ∧ t.pending = s.pending))

/-- SETUP LOAD: WRONG_STATE in service or with no profile; BAD_ARGUMENT with the number of the first failing item; else the
setup is held, points stand INACTIVE with timers stopped and counters kept, pulse timers stop; with an item queued the prompt
timer restarts with the new period, or stops when there is none, and a release in progress goes on; profile, state, table,
roster, send queue and line counters stand. -/
def Obligations.SetupLoadTakesTheWholeSetup : Prop :=
  ∀ (image : Vector Byte 130) (s : State),
    ((s.ru.state ≠ .configuring ∧ s.ru.state ≠ .offline ∧ s.ru.state ≠ .refused ∨ s.cs.profile = none) →
      exec (.setupLoad image) s = .next { s with lp := s.lp.answered .wrongState [] }) ∧
    ((s.ru.state = .configuring ∨ s.ru.state = .offline ∨ s.ru.state = .refused) → s.cs.profile ≠ none →
      (∀ d, setupItemFails image d → (∀ k, k < d → ¬setupItemFails image k) →
        exec (.setupLoad image) s = .next { s with lp := s.lp.answered .badArgument [BitVec.ofNat 8 d] }) ∧
      ((∀ d, ¬setupItemFails image d) →
        ∃ t u, exec (.setupLoad image) s = .next t ∧
          t.lp.reply = some { result := .ok, response := [] } ∧ t.cs = { s.cs with setup := some u } ∧
          (∀ p : PointId,
            (match (u.points[p] : PointSetup).source with
             | .input k => image[5 * p.1].toNat = k.1
             | .soft => image[5 * p.1] = 0x40#8
             | .unused => image[5 * p.1] = 0x80#8) ∧
            (u.points[p] : PointSetup).category.1 = image[5 * p.1 + 1].toNat ∧
            (u.points[p] : PointSetup).activeLow = image[5 * p.1 + 2].getLsbD 0 ∧
            (u.points[p] : PointSetup).qualifyTime = image[5 * p.1 + 3] ∧
            (u.points[p] : PointSetup).releaseTime = image[5 * p.1 + 4]) ∧
          (∀ o : OutputId,
            (match (u.rules[o] : OutputRule).mode with
             | .off => image[80 + 6 * o.1] = 0#8
             | .level => image[80 + 6 * o.1] = 1#8
             | .annunciate => image[80 + 6 * o.1] = 2#8
             | .audible => image[80 + 6 * o.1] = 3#8
             | .pulse => image[80 + 6 * o.1] = 4#8) ∧
            (∀ k : StationId, (u.rules[o] : OutputRule).origins.getLsbD k.1 =
              if k.1 < 8 then image[81 + 6 * o.1].getLsbD k.1 else image[82 + 6 * o.1].getLsbD (k.1 - 8)) ∧
            (u.rules[o] : OutputRule).categories = image[83 + 6 * o.1] ∧
            ((u.rules[o] : OutputRule).basis = .phase ↔ image[84 + 6 * o.1].getLsbD 0 = true) ∧
            (u.rules[o] : OutputRule).includeOrphaned = image[84 + 6 * o.1].getLsbD 1 ∧
            (u.rules[o] : OutputRule).activeLow = image[84 + 6 * o.1].getLsbD 2 ∧
            (u.rules[o] : OutputRule).tripForcing = image[84 + 6 * o.1].getLsbD 3 ∧
            (u.rules[o] : OutputRule).safeOn = image[84 + 6 * o.1].getLsbD 4 ∧
            (u.rules[o] : OutputRule).pulseTens = image[85 + 6 * o.1]) ∧
          u.notifyMask = image[128] ∧ u.promptTens = image[129] ∧
          (∀ q : PointId, t.point q =
            { PointRecord.unloaded with occurrence := (s.point q).occurrence, queued := (s.point q).queued }) ∧
          (∀ o : OutputId, t.ou.pulses[o] = none) ∧
          (s.lp.records ≠ [] ∨ s.lp.marker ≠ none →
            t.lp.promptTimer = (if u.promptTens = 0 then none else some (10 * u.promptTens.toNat)) ∧
              t.lp.attn = s.lp.attn) ∧
          t.lp.releaseTimer = s.lp.releaseTimer ∧
          t.et = s.et ∧ t.ru = s.ru ∧ t.sq = s.sq ∧ t.lc = s.lc ∧ t.pending = s.pending))

/-- START, out of service with a profile and a setup, enters LISTENING with a pristine table and roster and a window of 4P;
in every other case it is refused and nothing changes. -/
def Obligations.StartEntersListening : Prop :=
  ∀ s : State, s.Sound →
    (¬((s.ru.state = .configuring ∨ s.ru.state = .offline ∨ s.ru.state = .refused) ∧ s.cs.profile ≠ none ∧
        s.cs.setup ≠ none) →
      exec .start s = .next { s with lp := s.lp.answered .wrongState [] }) ∧
    (∀ p, (s.ru.state = .configuring ∨ s.ru.state = .offline ∨ s.ru.state = .refused) → s.cs.profile = some p →
      s.cs.setup ≠ none →
      ∃ t, exec .start s = .next t ∧ t.lp.reply = some { result := .ok, response := [] } ∧
        t.ru.state = .listening ∧ t.ru.refusal = none ∧ t.ru.doubtful = false ∧ t.reference = none ∧
        t.ru.windowTimer = some (4 * (10 * p.presenceTens.toNat)) ∧
        (∀ i : EntryIndex, t.entry i = Entry.pristine) ∧ t.et.countValid = false ∧
        (∀ u : StationId, t.record u = RosterRecord.absent) ∧
        t.ru.joinMode = none ∧ t.ru.attempt = 0 ∧ t.ru.attemptTimer = none ∧ t.ru.ownJoin = false ∧
        (∀ i : EntryIndex, t.ru.coverage[i] = false) ∧
        t.sq.items = [] ∧ t.lc.vetoCount = 0 ∧ t.lc.counters = s.lc.counters ∧ t.lc.receiverOn = s.lc.receiverOn ∧
        t.ou.trip.uncertain = true ∧ t.ou.silenceMark = s.ou.silenceMark ∧
        t.cs = s.cs ∧ t.pu = s.pu ∧ t.pending = s.pending)

/-- LEAVE by own state: a LEAVE item and LEAVING from MEMBER, JOINING, SYNCING and MUTED; OFFLINE at once from LISTENING;
nothing in LEAVING; WRONG_STATE out of service. Table and roster stand, but that the entry to OFFLINE stops the silence timers
and the veto count returns to 0. Each claim and purge removed gets OUTCOME VOID WITHDRAWN, in list order; that of the one in
flight waits. From JOINING and SYNCING R149 makes the join mode none; that it is none after a LEAVE from MUTED too is the
model's choice (log entry 18). -/
def Obligations.LeaveByOwnState : Prop :=
  ∀ s : State, s.Sound →
    ((s.ru.state = .configuring ∨ s.ru.state = .offline ∨ s.ru.state = .refused) →
      exec .leave s = .next { s with lp := s.lp.answered .wrongState [] }) ∧
    (s.ru.state = .leaving → exec .leave s = .next { s with lp := s.lp.answered .ok [] }) ∧
    (s.ru.state = .listening →
      ∃ t, exec .leave s = .next t ∧ t.lp.reply = some { result := .ok, response := [] } ∧ t.ru.state = .offline ∧
        t.ru.windowTimer = none ∧ t.sq.items = [] ∧ t.et = s.et ∧ s.rosterFrozen t ∧
        t.lc.vetoCount = 0 ∧ t.cs = s.cs ∧ t.pending = s.pending) ∧
    (∀ cause, ((s.ru.state = .member ∨ s.ru.state = .joining ∨ s.ru.state = .syncing) ∧ cause = .commanded ∨
        s.ru.state = .muted ∧ cause = .vetoLimit) →
      ∃ t, exec .leave s = .next t ∧ t.lp.reply = some { result := .ok, response := [] } ∧ t.ru.state = .leaving ∧
        t.sq.items.Perm (s.sq.items.filter (fun x => x.kind.isPresence || x.kind.isJoin) ++
          [{ kind := .leave cause, cls := 2, age := s.sq.nextAge }]) ∧
        t.ru.presenceTimer = none ∧ t.ru.muteTimer = none ∧ t.ru.attemptTimer = none ∧ t.ru.joinMode = none ∧
        t.ru.roster = s.ru.roster ∧ t.et = s.et ∧ t.lc = s.lc ∧ t.cs = s.cs ∧ t.pending = s.pending ∧
        s.pushes t Record.isReport [] ∧
        s.pushes t Record.isOutcome
          ((s.sq.items.filter fun x => s.lc.inFlight.all fun f => f.item.age != x.age).filterMap withdrawnRecord) ∧
        (∀ q : PointId, (t.point q).queued = false ∧ (t.point q).reminder = .stopped ∧
          (t.point q).qualified = (s.point q).qualified ∧ (t.point q).occurrence = (s.point q).occurrence))

/-! ## Points -/

/-- One sample: the raw level of every point sourced from an input line, and the timer that leads out of its qualified
state. Every other point, and every other block, stands. -/
def Obligations.InputSampleMovesRawLevelsAndTimers : Prop :=
  ∀ (levels : BitVec 16) (s : State),
    ∃ t, exec (.inputSample levels) s = .next t ∧
      t = { s with pu := t.pu } ∧
      ∀ p : PointId,
        (∀ (u : Setup) (k : Fin 16), s.cs.setup = some u → u.points[p].source = .input k →
          ∃ raw : Condition, (raw = .active ↔ levels.getLsbD k.1 ≠ u.points[p].activeLow) ∧
            t.point p =
              if raw = (s.point p).qualified then { s.point p with raw := raw, qualify := none, release := none }
              else if raw = .active then
                { s.point p with raw := raw, qualify := some (match (s.point p).qualify with
                    | none => u.points[p].qualifyTime.toNat
                    | some n => n - 1) }
              else
                { s.point p with raw := raw, release := some (match (s.point p).release with
                    | none => u.points[p].releaseTime.toNat
                    | some n => n - 1) }) ∧
        ((∀ (u : Setup) (k : Fin 16), s.cs.setup = some u → u.points[p].source ≠ .input k) → t.point p = s.point p)

/-- When the samples have brought a qualify timer to 0 the point is ACTIVE, a new occurrence is counted and the pending
reminder count is 0; when they have brought a release timer to 0 it is INACTIVE with both kept. A MEMBER then holds an item for
a used point whose pairs differ. A timer that is stopped or has time left changes nothing (log entry 10). -/
def Obligations.QualificationEndsAsTheTimerSays : Prop :=
  ∀ (p : PointId) (s : State),
    ((s.point p).qualified = .inactive → (s.point p).qualify = some 0 →
      ∃ t, exec (.qualifyTimerExpiry p) s = .next t ∧ (t.point p).qualified = .active ∧
        (t.point p).occurrence = (s.point p).occurrence + 1 ∧ (t.point p).pendingReminders = 0 ∧
        (t.point p).qualify = none ∧ (t.point p).release = none ∧ (t.point p).reminder = (s.point p).reminder ∧
        (s.ru.state = .member → s.pointUsed p = true → t.pairsEqual p = false → (t.point p).queued = true) ∧
        (∀ q : PointId, q ≠ p → t.point q = s.point q) ∧
        t.cs = s.cs ∧ t.et = s.et ∧ t.ru = s.ru ∧ t.lc = s.lc ∧ t.pending = s.pending) ∧
    ((s.point p).qualified = .active → (s.point p).release = some 0 →
      ∃ t, exec (.releaseTimerExpiry p) s = .next t ∧ (t.point p).qualified = .inactive ∧
        (t.point p).occurrence = (s.point p).occurrence ∧
        (t.point p).pendingReminders = (s.point p).pendingReminders ∧
        (t.point p).qualify = none ∧ (t.point p).release = none ∧ (t.point p).reminder = (s.point p).reminder ∧
        (s.ru.state = .member → s.pointUsed p = true → t.pairsEqual p = false → (t.point p).queued = true) ∧
        (∀ q : PointId, q ≠ p → t.point q = s.point q) ∧
        t.cs = s.cs ∧ t.et = s.et ∧ t.ru = s.ru ∧ t.lc = s.lc ∧ t.pending = s.pending) ∧
    ((s.point p).qualify ≠ some 0 → exec (.qualifyTimerExpiry p) s = .next s) ∧
    ((s.point p).release ≠ some 0 → exec (.releaseTimerExpiry p) s = .next s)

/-- At a reminder expiry the timer stops, the pending count rises by one up to 15, and a used point of a MEMBER is queued. The
point's item then has class 0 for a trip category, else the level, lowered by one and not below 0 once the pending count has
reached the limit. -/
def Obligations.ReminderExpiryQueuesThePoint : Prop :=
  ∀ (p : PointId) (s : State),
    (∀ n, (s.point p).reminder = .running n →
      ∃ t, exec (.reminderExpiry p) s = .next t ∧ (t.point p).reminder = .stopped ∧
        (t.point p).pendingReminders.toNat = min 15 ((s.point p).pendingReminders.toNat + 1) ∧
        (t.point p).qualified = (s.point p).qualified ∧ (t.point p).occurrence = (s.point p).occurrence ∧
        (s.ru.state = .member → s.pointUsed p = true → (t.point p).queued = true) ∧
        (∀ q : PointId, q ≠ p → t.point q = s.point q) ∧
        t = { s with pu := t.pu, sq := t.sq } ∧
        (∀ (u : Setup) (f : Profile) (x : Item), s.cs.setup = some u → s.cs.profile = some f → x ∈ t.sq.items →
          x.kind = .point p →
          let k : Category := f.categories[u.points[p].category]
          x.cls.1 =
            if k.trip then 0
            else if k.reminderLimit.toNat ≤ (t.point p).pendingReminders.toNat then k.level.1 - 1
            else k.level.1)) ∧
    ((∀ n, (s.point p).reminder ≠ .running n) → exec (.reminderExpiry p) s = .next s)

/-! ## The line -/

/-- LINE_IDLE and FRAME_START change the line's own marks alone. -/
def Obligations.IdleAndFrameStart : Prop :=
  ∀ s : State,
    (s.lc.receiverOn = true → s.lc.assembling = false → s.lc.inFlight = none →
      exec .lineIdle s = .next { s with lc := { s.lc with lineIdle := true, ltx := .released } }) ∧
    (s.lc.receiverOn = true → s.lc.lineIdle = true →
      exec .frameStart s = .next { s with lc := { s.lc with lineIdle := false, assembling := true } }) ∧
    (s.lc.receiverOn = false → exec .lineIdle s = .next s ∧ exec .frameStart s = .next s)

/-- On an idle line, in a state that sends, the first eligible item of the list starts an attempt with the frame built for
it: the item's class, the own number, the notice. In every other case nothing starts. The model's choices: a FRAME_START before
it in the queue ends the idle (log entry 33), and R146 does not take the PRESENCE item kept at the entry to SYNCING from those
that R114 makes eligible there (log entry 34). -/
def Obligations.AttemptStartsWithTheHeadItem : Prop :=
  ∀ s : State,
    (∀ pre x post, s.lc.receiverOn = true → s.lc.lineIdle = true → s.lc.inFlight = none →
      s.sq.items = pre ++ x :: post → (∀ y ∈ pre, ¬s.mayOffer y) → s.mayOffer x →
      exec .attemptStart s =
        .next { s with lc := { s.lc with
          inFlight := some { item := x, frame :=
            { cls := x.cls, sender := s.cs.stationNumber, notice := s.buildNotice x.kind } },
          ltx := .frame, lineIdle := false } }) ∧
    ((s.lc.receiverOn = false ∨ s.lc.lineIdle = false ∨ s.lc.inFlight ≠ none ∨ ∀ x ∈ s.sq.items, ¬s.mayOffer x) →
      exec .attemptStart s = .next s)

/-- The notice built for each kind of item, from the state as it stands at the attempt's start. The table digest is the CRC
over the 256 entry forms in index order and the roster form, and the roster carried gives each station's roster state, by its
code as the own state is. -/
def Obligations.NoticeIsBuiltFromCurrentState : Prop :=
  [StationState.configuring, .listening, .joining, .member, .syncing, .muted, .leaving, .offline, .refused].map
      StationState.code = [0, 1, 2, 3, 4, 5, 6, 7, 8] ∧
  [RosterState.absent, .joining, .syncing, .present, .lost, .left].map RosterState.code = [0, 1, 2, 3, 4, 5] ∧
  ∀ s : State,
    (∀ (p : PointId) (u : Setup), s.cs.setup = some u →
      ∃ status : Byte, s.buildNotice (.point p) =
          .point { point := BitVec.ofNat 8 p.1, category := BitVec.ofNat 8 u.points[p].category.1,
                   occurrence := (s.point p).occurrence, status := status } ∧
        status.getLsbD 7 = (s.point p).qualified.isActive ∧ status.extractLsb' 0 4 = (s.point p).pendingReminders ∧
        status.extractLsb' 4 3 = 0#3) ∧
    (∀ (i : EntryIndex) (n : Byte), s.buildNotice (.claim i n) =
      .claim { origin := BitVec.ofNat 8 (i.1 / 16), point := BitVec.ofNat 8 (i.1 % 16), occurrence := n }) ∧
    (∀ u : StationId, s.buildNotice (.lost u) =
      .lost (match (s.record u).lastHeard with
        | some n => { target := BitVec.ofNat 8 u.1, lastHeard := n }
        | none => { target := BitVec.ofNat 8 (128 + u.1), lastHeard := 0 })) ∧
    (∀ timer, s.buildNotice (.presence timer) =
      .presence { state := s.ru.state.code, profileDigest := s.cs.profileDigest, tableDigest := s.tableDigest,
                  lineCount := if s.et.countValid then s.et.lineCount else 0, roster := rosterForm s.ru.roster }) ∧
    (∃ form : EntryIndex → List Byte, (∀ i, isEntryForm (form i) i (s.entry i)) ∧
      s.tableDigest = crc16 ((List.finRange 256).flatMap form ++ (rosterForm s.ru.roster).toList)) ∧
    (∀ timer p, s.buildNotice (.presence timer) = .presence p → ∀ u : StationId, carriedState p u = (s.record u).state) ∧
    (∀ u : StationId, (rosterForm s.ru.roster)[u.1 / 2].extractLsb' (4 * (u.1 % 2)) 4 = (s.record u).state.code) ∧
    (∀ m, s.buildNotice (.join m) =
      .join { mode := if m = .join then 0 else 1, profileDigest := s.cs.profileDigest }) ∧
    (∀ c, s.buildNotice (.leave c) = .leave (if c = .commanded then 0 else 1)) ∧
    (∀ o : StationId, s.buildNotice (.purge o) = .purge (BitVec.ofNat 8 o.1)) ∧
    s.buildNotice .snapshot = .snapshot s.segment

/-- An attempt that fails keeps its item: LOST counts a loss and leaves the veto count, ABANDONED and VETOED below exhaustion
are counted and raise it by one. When a LEAVE command has taken the item out of the list meanwhile, the OUTCOME VOID WITHDRAWN
of a claim or a purge is pushed then. After a sender fault the veto slot is still driven when fewer than eleven bit-times
remain. -/
def Obligations.FailedAttemptKeepsItsItem : Prop :=
  ∀ (s : State) (f : InFlight), s.OutputsOk → s.lc.inFlight = some f → s.ru.deferredExpiry = false →
    let c := s.lc.counters
    let port := s.portAfter (s.removedOutcome f)
    exec .arbitrationLost s =
      .next { s with
        lc := { s.lc with
          inFlight := none, ltx := .released, assembling := true,
          counters := { c with arbitrationLosses := bump c.arbitrationLosses } }
        lp := port } ∧
    (∀ n, s.lc.vetoCount + 1 < 8 →
      exec (.senderFault n) s =
        .next { s with
          lc := { s.lc with
            inFlight := none, ltx := if n < 11 then .faultSlot else .released, vetoCount := s.lc.vetoCount + 1,
            counters := { c with ownAbandoned := bump c.ownAbandoned } }
          lp := port }) ∧
    (∀ rx, s.lc.vetoCount + 1 < 8 → s.lc.receiverOn = true →
      exec (.frameVetoed rx) s =
        .next { s with
          lc := { s.lc with
            inFlight := none, ltx := .released, lineIdle := false, assembling := false,
            vetoCount := s.lc.vetoCount + 1,
            counters := { c with framesVetoed := bump c.framesVetoed, ownVetoed := bump c.ownVetoed } }
          lp := port })

/-- As a receiver the station counts a vetoed frame; it drops an abandoned frame without counting it, and a damaged frame whose
slot it reads recessive, which makes the table of a MUTED station doubtful. In a state that vetoes it counts the veto it issued
to a damaged frame whatever level it reads. A frame that it has not been assembling is none of these. A station whose LTX is due
to drive the veto slot of a frame it faulted on releases LTX after that slot and counts neither a vetoed frame nor a veto issued;
that it counts and receives nothing of that frame is the model's choice (log entries 13 and 36). That the line is not idle after
an abandoned frame is log entry 12. -/
def Obligations.OthersFramesAreDropped : Prop :=
  (∀ (s : State) (rx : RxFrame), s.lc.receiverOn = true → s.lc.inFlight = none → s.lc.ltx = .faultSlot →
    exec (.frameVetoed rx) s =
      .next { s with lc := { s.lc with lineIdle := false, assembling := false, ltx := .released } }) ∧
  ∀ (s : State) (rx : RxFrame), s.receives → s.lc.ltx = .released →
    let c := s.lc.counters
    let ended : LineControl := { s.lc with lineIdle := false, assembling := false }
    let issued : Word16 :=
      if rxDamaged rx = true ∧ (s.ru.state = .listening ∨ s.ru.state = .joining ∨ s.ru.state = .syncing ∨
          s.ru.state = .member ∨ s.ru.state = .leaving) then bump c.vetoesIssued
      else c.vetoesIssued
    exec (.frameVetoed rx) s =
      .next { s with lc := { ended with
        counters := { c with framesVetoed := bump c.framesVetoed, vetoesIssued := issued } } } ∧
    exec .frameAbandoned s = .next { s with lc := ended } ∧
    (rxDamaged rx = true →
      exec (.frameDiscardedDamaged rx) s =
        .next { s with
          lc := { ended with counters := { c with vetoesIssued := issued } }
          ru := { s.ru with doubtful := s.ru.doubtful || decide (s.ru.state = .muted) } }) ∧
    let unheard : State := { s with lc := { s.lc with assembling := false } }
    exec (.frameVetoed rx) unheard = .next unheard ∧ exec .frameAbandoned unheard = .next unheard ∧
      exec (.frameDiscardedDamaged rx) unheard = .next unheard

/-- The eighth failed attempt in a row takes MEMBER, JOINING and SYNCING to MUTED, which keeps every item, and LEAVING to
OFFLINE, which keeps none; the veto count returns to 0. At entry to MUTED a running reminder timer is held; OFFLINE stops the
silence timers and freezes the roster; in OFFLINE every one is stopped and no point is queued. The OUTCOME VOID WITHDRAWN of a
claim or purge that a LEAVE command took out of the list during the attempt is pushed then, before those of the items that
OFFLINE removes. The failure is counted as any other: own frames abandoned at a sender fault, own frames vetoed and frames vetoed
at a dominant slot. After a fault with fewer than eleven bit-times to the slot LTX still drives it, in MUTED and OFFLINE too, and
that is the model's choice between rules (log entry 13). That an expiry of the attempt timer which came during that attempt lapses
is the model's choice (log entry 15). -/
def Obligations.EighthFailureMutesTheStation : Prop :=
  ∀ (s : State) (f : InFlight) (c : Instr), s.Sound → s.lc.inFlight = some f → s.lc.vetoCount = 7 →
    ((∃ n, c = .senderFault n) ∨ ∃ rx, c = .frameVetoed rx) →
    ∃ t, exec c s = .next t ∧ t.lc.vetoCount = 0 ∧ t.lc.inFlight = none ∧ t.et = s.et ∧ t.cs = s.cs ∧
      (let k := s.lc.counters
       (∀ n, c = .senderFault n → t.lc = { s.lc with
        inFlight := none, ltx := if n < 11 then .faultSlot else .released, vetoCount := 0
        counters := { k with ownAbandoned := bump k.ownAbandoned } }) ∧
       ∀ rx, c = .frameVetoed rx → t.lc = { s.lc with
        inFlight := none, ltx := .released, lineIdle := false, assembling := false, vetoCount := 0
        counters := { k with framesVetoed := bump k.framesVetoed, ownVetoed := bump k.ownVetoed } }) ∧
      s.pushes t Record.isOutcome
        (s.removedOutcome f ++ if s.ru.state = .leaving then s.sq.items.filterMap withdrawnRecord else []) ∧
      (∀ e : EntryState,
        (s.ru.state = .member ∧ e = .member ∨ s.ru.state = .joining ∧ e = .joining ∨
          s.ru.state = .syncing ∧ e = .syncing) →
        t.ru.state = .muted ∧ t.ru.entryState = some e ∧ t.ru.doubtful = false ∧
          t.ru.muteTimer = some (16 * s.presenceMs) ∧ t.ru.presenceTimer = none ∧ t.ru.attemptTimer = none ∧
          t.ru.roster = s.ru.roster ∧ t.sq.items = s.sq.items ∧
          ∀ q : PointId, t.point q = { s.point q with
            reminder := match (s.point q).reminder with
              | .running n => .held n
              | .stopped => .stopped
              | .held n => .held n }) ∧
      (s.ru.state = .leaving → t.ru.state = .offline ∧ t.sq.items = [] ∧ s.rosterFrozen t ∧
        ∀ q : PointId, (t.point q).reminder = .stopped ∧ (t.point q).queued = false)

/-! ## Layouts -/

/-- The bytes of a frame: the arbitration field with the most significant bit of each field first, the length, the payload, the
check of all of these. The check is the register of R96: from FFFFh, for each byte its eight bits, least significant first,
each shifting the register towards bit 15, with 1021h exclusive-ored where the bit differs from the old bit 15; over 00h it is
E1F0h and over 01h 7078h, low byte first. The code, the payload bytes and the payload lengths of each kind are those of the
tables. A receiver finds a frame damaged exactly when a lead bit was recessive, a tail bit dominant, a spare bit of the
arbitration field dominant, the length over 32 or none of the kind's, or the check received another than the one computed. So a
frame received as built is whole when its payload has a length of its kind. -/
def Obligations.FrameBytesFollowTheLayout : Prop :=
  (∀ f : Frame,
    ∃ b0 b1 : Byte, ∃ payload : List Byte,
      f.bytes = [b0, b1, BitVec.ofNat 8 payload.length] ++ payload ++
        word16Bytes (crc16 ([b0, b1, BitVec.ofNat 8 payload.length] ++ payload)) ∧
      payload = noticePayload f.notice ∧
      b0.toNat % 32 = 2 * (f.cls.1 % 2) + f.cls.1 / 2 + 4 * ((noticeKind f.notice).getLsbD 2).toNat +
        8 * ((noticeKind f.notice).getLsbD 1).toNat + 16 * ((noticeKind f.notice).getLsbD 0).toNat ∧
      b0.extractLsb' 5 3 = 0b111#3 ∧
      b1.toNat % 16 = 8 * (f.sender.1 % 2) + 4 * (f.sender.1 / 2 % 2) + 2 * (f.sender.1 / 4 % 2) + f.sender.1 / 8 ∧
      b1.extractLsb' 4 4 = 0b1111#4) ∧
  (crc16 [] = 0xFFFF#16 ∧ ∀ (sent : List Byte) (b : Byte),
    let feed : Word16 → Bool → Word16 := fun r bit =>
      (r <<< 1) ^^^ (if bit ≠ r.getLsbD 15 then 0x1021#16 else 0x0000#16)
    crc16 (sent ++ [b]) = [0, 1, 2, 3, 4, 5, 6, 7].foldl (fun r k => feed r (b.getLsbD k)) (crc16 sent)) ∧
  (crc16 [0x00#8] = 0xE1F0#16 ∧ word16Bytes (crc16 [0x01#8]) = [0x78#8, 0x70#8]) ∧
  (∀ p, (noticeKind (.presence p)).toNat = 0 ∧ noticePayload (.presence p) =
    [p.state] ++ word16Bytes p.profileDigest ++ word16Bytes p.tableDigest ++ word32Bytes p.lineCount ++ p.roster.toList) ∧
  (∀ p, (noticeKind (.point p)).toNat = 1 ∧ noticePayload (.point p) = [p.point, p.category, p.occurrence, p.status]) ∧
  (∀ p, (noticeKind (.claim p)).toNat = 2 ∧ noticePayload (.claim p) = [p.origin, p.point, p.occurrence]) ∧
  (∀ p, (noticeKind (.lost p)).toNat = 3 ∧ noticePayload (.lost p) = [p.target] ++ word32Bytes p.lastHeard) ∧
  (∀ o, (noticeKind (.purge o)).toNat = 4 ∧ noticePayload (.purge o) = [o]) ∧
  (∀ c, (noticeKind (.leave c)).toNat = 5 ∧ noticePayload (.leave c) = [c]) ∧
  (∀ p, (noticeKind (.join p)).toNat = 6 ∧ noticePayload (.join p) = [p.mode] ++ word16Bytes p.profileDigest) ∧
  (∀ p, (noticeKind (.snapshot p)).toNat = 7 ∧ noticePayload (.snapshot p) =
    word32Bytes p.lineCount ++ [p.first, p.last] ++
      p.entries.flatMap fun e => [e.index, e.status, e.occurrence, e.category, e.acknowledger]) ∧
  (∀ w : Word16, word16Bytes w = [BitVec.ofNat 8 w.toNat, BitVec.ofNat 8 (w.toNat / 2 ^ 8)]) ∧
  (∀ w : Word32, word32Bytes w =
    [BitVec.ofNat 8 w.toNat, BitVec.ofNat 8 (w.toNat / 2 ^ 8), BitVec.ofNat 8 (w.toNat / 2 ^ 16),
      BitVec.ofNat 8 (w.toNat / 2 ^ 24)]) ∧
  (∀ (k : BitVec 3) (n : Nat), payloadLengthOk k n = true ↔
    (k = 0 ∧ n = 17) ∨ (k = 1 ∧ n = 4) ∨ (k = 2 ∧ n = 3) ∨ (k = 3 ∧ n = 5) ∨ (k = 4 ∧ n = 1) ∨ (k = 5 ∧ n = 1) ∨
      (k = 6 ∧ n = 3) ∨ (k = 7 ∧ ∃ j : Nat, j ≤ 5 ∧ n = 6 + 5 * j)) ∧
  (∀ (f : RxFrame) (b0 b1 length c0 c1 : Byte) (payload : List Byte),
    f.bytes.map (·.data) = [b0, b1, length] ++ payload ++ [c0, c1] →
    payload.length = (if length.toNat ≤ 32 then length.toNat else 32) →
    (let kind : BitVec 3 :=
      BitVec.ofNat 3 (4 * (b0.getLsbD 2).toNat + 2 * (b0.getLsbD 3).toNat + (b0.getLsbD 4).toNat)
     rxDamaged f = true ↔ (∃ b ∈ f.bytes, b.lead = .recessive ∨ b.tail = .dominant) ∨
      b0.extractLsb' 5 3 ≠ 0b111#3 ∨ b1.extractLsb' 4 4 ≠ 0b1111#4 ∨ 32 < length.toNat ∨
      payloadLengthOk kind length.toNat = false ∨ word16Bytes (crc16 ([b0, b1, length] ++ payload)) ≠ [c0, c1])) ∧
  (∀ f : Frame, payloadLengthOk (noticeKind f.notice) (noticePayload f.notice).length = true →
    rxDamaged { bytes := f.bytes.map fun b => { lead := .dominant, data := b, tail := .recessive } } = false)

/-- The segment a sweeping station builds is well formed, starts at the cursor, carries the first five non-pristine entries
from there up, ends just below the sixth or at 255 when there is none, and gives a receiver, at every index it covers, the
sender's replicated entry. -/
def Obligations.SegmentGivesTheSendersEntries : Prop :=
  ∀ (s : State) (count : Word32), (∀ i : EntryIndex, (s.entry i).category = none → s.entry i = Entry.pristine) →
    segmentMalformed s.segment = false ∧ s.segment.first.toNat = s.ru.cursor.1 ∧
      s.segment.lineCount = s.et.lineCount ∧ s.segment.entries.length ≤ 5 ∧ segmentCovers s.segment s.ru.cursor = true ∧
      (let standing : List EntryIndex :=
        (List.finRange 256).filter fun i => decide (s.ru.cursor ≤ i ∧ s.entry i ≠ Entry.pristine)
       s.segment.entries.map (fun f => f.index.toNat) = (standing.take 5).map (fun i => i.1) ∧
       (standing.length ≤ 5 → s.segment.last.toNat = 255) ∧
       ∀ i, standing[5]? = some i → s.segment.last.toNat + 1 = i.1) ∧
      ∀ (i : EntryIndex) (e : Entry), segmentCovers s.segment i = true →
        (segmentEntry s.segment count i e).sameReplicated (s.entry i) = true

/-! ## Accepted frames -/

/-- Occurrence numbers compare by d = (b − a) mod 256. -/
def Obligations.OccurrencesCompareModulo256 : Prop :=
  ∀ a b : Byte,
    let d := (b.toNat + 256 - a.toNat) % 256
    (compareOccurrence b a = .newer ↔ 1 ≤ d ∧ d ≤ 127) ∧ (compareOccurrence b a = .older ↔ 128 ≤ d ∧ d ≤ 255) ∧
      (compareOccurrence b a = .same ↔ d = 0)

/-- Line counts compare by (s − m) mod 2^32, and so do raise stamps and the silence mark. -/
def Obligations.LineCountsCompareModulo : Prop :=
  (∀ c m : Word32, later c m = true ↔
    1 ≤ (c.toNat + 2 ^ 32 - m.toNat) % 2 ^ 32 ∧ (c.toNat + 2 ^ 32 - m.toNat) % 2 ^ 32 ≤ 2 ^ 31 - 1) ∧
  ∀ (s : State) (o : OutputId) (r : OutputRule), r.mode = .audible →
    (s.modeValue o r = true ↔ ∃ i : EntryIndex, r.admits i (s.entry i) = true ∧
      ((s.entry i).phase = .raised ∨ (s.entry i).phase = .lapsed) ∧
      1 ≤ ((s.entry i).raiseStamp.toNat + 2 ^ 32 - s.ou.silenceMark.toNat) % 2 ^ 32 ∧
      ((s.entry i).raiseStamp.toNat + 2 ^ 32 - s.ou.silenceMark.toNat) % 2 ^ 32 ≤ 2 ^ 31 - 1)

/-- Every command but those of R3 leaves the table and the line count as they are. -/
def Obligations.TableChangesOnlyAtItsEvents : Prop :=
  ∀ (c : Instr) (s : State), mayChangeTable c = false → ∃ t, exec c s = .next t ∧ t.et = s.et

/-- An accepted frame of another station is counted. Where it is applied, the line count advances by one when it is valid, and
is carried count plus one for a segment that is taken; the sender has then been heard: its suspect flag is clear, and the
silence timer of a sender other than the own number runs with 3P while its record is PRESENT, JOINING or SYNCING, and is
stopped otherwise. A POINT, a CLAIM, a PURGE, a SNAPSHOT and a LOST that names another station leave the state of the sender's
record. Where it is not applied, table, roster, own state and points stand, a PRESENCE in LISTENING apart. But for a PRESENCE
the own state, the join fields, the station's timers, the silence mark, the flashers, the points' levels and the records of
stations that the frame neither comes from nor names stand too. A frame the station has not been assembling is not accepted.
Frames are applied in MEMBER, LEAVING and SYNCING, in JOINING once the own JOIN was accepted, and in MUTED as in the entry
state. Where frames are applied and the own state stays, a LOST item leaves exactly when its target was the sender, has gone,
or the station is no longer its own reference, and a SNAPSHOT item when nobody is JOINING or SYNCING any more or the station is
no longer its own reference. A station that becomes its own reference holds a LOST item for each suspect peer; a sweep that
begins has its cursor at 0 and a SNAPSHOT item, and one under way keeps its cursor. -/
def Obligations.AcceptedFrameIsCountedAndHeard : Prop :=
  (∀ s : State,
    let joined : Prop := s.ru.ownJoin = true
    s.applies = true ↔ s.ru.state = .member ∨ s.ru.state = .leaving ∨ s.ru.state = .syncing ∨
      (s.ru.state = .joining ∧ joined) ∨
      (s.ru.state = .muted ∧ (s.ru.entryState = some .member ∨ s.ru.entryState = some .syncing ∨
        (s.ru.entryState = some .joining ∧ joined)))) ∧
  (∀ (s : State) (sender : StationId) (n : Notice), s.lc.inFlight = none →
    (s.lc.receiverOn = false ∨ s.lc.assembling = false) → exec (acceptanceOf sender n) s = .next s) ∧
  ∀ (s : State) (sender : StationId) (n : Notice), s.receives →
    ∃ t, exec (acceptanceOf sender n) s = .next t ∧
      t.lc.counters.framesAccepted = bump s.lc.counters.framesAccepted ∧ t.cs = s.cs ∧ t.pending = s.pending ∧
      t.lc.inFlight = none ∧ t.lc.receiverOn = true ∧ t.lc.lineIdle = false ∧
      (s.applies = true →
        ((∀ p, n ≠ .snapshot p) ∨ s.takesSegment sender = false →
          t.et.lineCount = s.countAtAcceptance ∧ t.et.countValid = s.et.countValid ∧
          (t.record sender).lastHeard = s.heardAt) ∧
        (∀ p, n = .snapshot p → s.takesSegment sender = true →
          t.et.lineCount = p.lineCount + 1 ∧ t.et.countValid = true ∧
          (t.record sender).lastHeard = some (p.lineCount + 1)) ∧
        (t.record sender).suspect = false ∧ t.lc.vetoCount = s.lc.vetoCount ∧
        (sender ≠ s.cs.stationNumber → (t.record sender).stands →
          (t.record sender).silence = some (3 * s.presenceMs)) ∧
        (s.Sound → (sender = s.cs.stationNumber ∨ ¬(t.record sender).stands) → (t.record sender).silence = none)) ∧
      ((∃ p, n = .point p) ∨ (∃ p, n = .claim p) ∨ (∃ o, n = .purge o) ∨ (∃ p, n = .snapshot p) ∨
          (∃ p, n = .lost p ∧ p.target.toNat % 16 ≠ sender.1) →
        (t.record sender).state = (s.record sender).state) ∧
      (s.Sound → s.applies = true → t.ru.state = s.ru.state →
        let ceased : Prop := s.ru.state = .member ∧ s.namesItself ∧ ¬t.namesItself
        ∀ x ∈ s.sq.items,
          (∀ u : StationId, x.kind = .lost u → (x ∈ t.sq.items ↔ u ≠ sender ∧ (t.record u).stands ∧ ¬ceased)) ∧
          (x.kind = .snapshot → (x ∈ t.sq.items ↔ t.someoneRebuilds ∧ ¬ceased))) ∧
      (¬s.namesItself → t.namesItself →
        ∀ v : StationId, v ≠ t.cs.stationNumber → (t.record v).suspect = true → t.hasItem (· == .lost v) = true) ∧
      (¬s.sweepCondition → t.sweepCondition → t.ru.cursor = 0 ∧ t.hasItem (· == .snapshot) = true) ∧
      (s.sweepCondition → t.sweepCondition → t.ru.cursor = s.ru.cursor) ∧
      (s.applies = false → (s.ru.state = .listening → ∀ p, n ≠ .presence p) →
        t.et = s.et ∧ t.ru = s.ru ∧ t.pu = s.pu ∧
        t.lc.counters = { s.lc.counters with framesAccepted := bump s.lc.counters.framesAccepted }) ∧
      ((∀ p, n ≠ .presence p) →
        t.ru.state = s.ru.state ∧ t.ru.refusal = s.ru.refusal ∧ t.ru.entryState = s.ru.entryState ∧
        t.ru.doubtful = s.ru.doubtful ∧ t.ru.joinMode = s.ru.joinMode ∧ t.ru.attempt = s.ru.attempt ∧
        t.ru.ownJoin = s.ru.ownJoin ∧ t.ru.presenceTimer = s.ru.presenceTimer ∧ t.ru.muteTimer = s.ru.muteTimer ∧
        t.ru.windowTimer = s.ru.windowTimer ∧ t.ou.silenceMark = s.ou.silenceMark ∧ t.ou.fast = s.ou.fast ∧
        t.ou.slow = s.ou.slow ∧ t.lp.reply = s.lp.reply ∧
        (∀ q : PointId, (t.point q).raw = (s.point q).raw ∧ (t.point q).qualified = (s.point q).qualified ∧
          (t.point q).occurrence = (s.point q).occurrence ∧ (t.point q).qualify = (s.point q).qualify ∧
          (t.point q).release = (s.point q).release) ∧
        ∀ v : StationId, v ≠ sender → (∀ p, n = .lost p → p.target.toNat % 16 ≠ v.1) → t.record v = s.record v)

/-- What a POINT notice of another station does to its entry, case by case, and the one ENTRY record it pushes when a
replicated field other than the category changed; every other entry stands. One with a point over 15 or a category over 7
changes no entry and no void counter. The ack mode is that of the category in the profile held. -/
def Obligations.PointNoticeWritesItsEntry : Prop :=
  (∀ (s : State) (f : Profile) (c : CategoryId), s.cs.profile = some f → s.ackMode c = (f.categories[c] : Category).ackMode) ∧
  (∀ (s : State) (sender : StationId) (p : PointPayload), s.receives → s.applies = true →
    (16 ≤ p.point.toNat ∨ 8 ≤ p.category.toNat) →
    ∃ t, exec (.pointAccepted sender p) s = .next t ∧ t.et.table = s.et.table ∧ t.et.lineCount = s.countAtAcceptance ∧
      t.lc.counters = { s.lc.counters with framesAccepted := bump s.lc.counters.framesAccepted } ∧
      s.pushes t Record.isReport []) ∧
  ∀ (s : State) (sender : StationId) (q : PointId) (c : CategoryId) (n status : Byte),
    s.receives → s.applies = true →
    ∃ t, exec (.pointAccepted sender
        { point := BitVec.ofNat 8 q.1, category := BitVec.ofNat 8 c.1, occurrence := n, status := status }) s = .next t ∧
      t.et.lineCount = s.countAtAcceptance ∧
      (let i := entryIndex sender q
       let e := s.entry i
       let m := s.ackMode c
       let check : Phase → Phase := fun ph =>
        if (m = .none ∧ (ph = .held ∨ ph = .lapsed)) ∨ (m = .active ∧ ph = .lapsed) then .quiet else ph
       let stamp := if s.et.countValid then s.et.lineCount + 1 else 0
       let base := { e with orphaned := false, category := some c }
       let order := compareOccurrence n e.occurrence
       (∀ j : EntryIndex, j ≠ i → t.entry j = s.entry j) ∧
       (order = .newer → status.getLsbD 7 = true →
        t.entry i = { base with phase := .raised, condition := .active, occurrence := n, acknowledger := none,
                                reminders := status.extractLsb' 0 4, raiseStamp := stamp }) ∧
       (order = .newer → status.getLsbD 7 = false →
        t.entry i = { base with phase := if m = .latch then .lapsed else .quiet, condition := .inactive,
                                occurrence := n, acknowledger := none, reminders := status.extractLsb' 0 4,
                                raiseStamp := if m = .latch then stamp else e.raiseStamp }) ∧
       (order = .same → status.getLsbD 7 = true →
        t.entry i = { base with phase := check e.phase, condition := .active,
                                reminders := status.extractLsb' 0 4 }) ∧
       (order = .same → status.getLsbD 7 = false →
        t.entry i = { base with phase := if m = .latch ∧ (e.phase = .raised ∨ e.phase = .lapsed) then .lapsed else .quiet,
                                condition := .inactive, reminders := status.extractLsb' 0 4 }) ∧
       (order = .older → t.entry i = { base with phase := check e.phase }) ∧
       t.lc.counters.staleNotices =
        (if order = .older then bump s.lc.counters.staleNotices else s.lc.counters.staleNotices) ∧
       s.pushes t Record.isReport
        (if { t.entry i with category := none, raiseStamp := 0 } ≠ { e with category := none, raiseStamp := 0 } ∧
            s.wantsEntry (t.entry i) = true then
          [t.entryRecord i
            (if order = .newer then .newOccurrence
             else if order = .same ∧ status.getLsbD 7 = false ∧
                ((t.entry i).condition ≠ e.condition ∨ (t.entry i).phase ≠ e.phase) then .fall
             else if order = .same ∧ status.getLsbD 7 = true ∧ (t.entry i).reminders ≠ e.reminders then .reminder
             else if e.orphaned = true then .restored
             else .fall)]
         else []))

/-- A POINT notice with a newer occurrence starts the pulse timer of every PULSE output whose rule matches the entry after
it, while the modes count; other pulse timers stand. -/
def Obligations.NewOccurrenceStartsPulses : Prop :=
  ∀ (s : State) (u : Setup) (sender : StationId) (q : PointId) (c : CategoryId) (n status : Byte) (o : OutputId),
    s.receives → s.cs.setup = some u →
    (s.ru.state = .member ∨ (s.ru.state = .muted ∧ s.ru.entryState = some .member)) →
    ∃ t, exec (.pointAccepted sender
        { point := BitVec.ofNat 8 q.1, category := BitVec.ofNat 8 c.1, occurrence := n, status := status }) s = .next t ∧
      (let e := s.entry (entryIndex sender q)
       let r : OutputRule := u.rules[o]
       t.ou.pulses[o] =
        if compareOccurrence n e.occurrence = .newer ∧ r.mode = .pulse ∧ r.origins.getLsbD sender.1 = true ∧
            r.categories.getLsbD c.1 = true then some (10 * r.pulseTens.toNat)
        else s.ou.pulses[o])

/-- A CLAIM wins by the table of R49 and then changes phase and acknowledger alone and pushes an ENTRY record with cause ACKED;
a void one changes no entry and is counted. One with an origin or a point over 15 changes no entry and no void counter. A claim
takes NO_ACK when its entry's category has ack mode NONE in the profile held. That a claim on an entry HELD with no acknowledger,
which matches no case of R49, is void and counted is the model's choice (log entry 6). -/
def Obligations.ClaimWinsOrIsVoid : Prop :=
  (∀ (s : State) (f : Profile) (e : Entry), s.cs.profile = some f →
    (s.entryAckNone e = true ↔ ∃ c, e.category = some c ∧ (f.categories[c] : Category).ackMode = .none)) ∧
  (∀ (s : State) (sender : StationId) (p : ClaimPayload), s.receives → s.applies = true →
    (16 ≤ p.origin.toNat ∨ 16 ≤ p.point.toNat) →
    ∃ t, exec (.claimAccepted sender p) s = .next t ∧ t.et.table = s.et.table ∧ t.et.lineCount = s.countAtAcceptance ∧
      t.lc.counters = { s.lc.counters with framesAccepted := bump s.lc.counters.framesAccepted } ∧
      s.pushes t Record.isReport []) ∧
  ∀ (s : State) (sender o : StationId) (q : PointId) (n : Byte), s.receives → s.applies = true →
    ∃ t, exec (.claimAccepted sender
        { origin := BitVec.ofNat 8 o.1, point := BitVec.ofNat 8 q.1, occurrence := n }) s = .next t ∧
      t.et.lineCount = s.countAtAcceptance ∧
      (let i := entryIndex o q
       let e := s.entry i
       let wins := e.occurrence = n ∧ s.entryAckNone e = false ∧ e.acknowledger = none ∧
        (e.phase = .raised ∨ e.phase = .lapsed)
       (∀ j : EntryIndex, j ≠ i → t.entry j = s.entry j) ∧
       (wins → t.entry i = { e with phase := if e.phase = .raised then .held else .quiet, acknowledger := some sender } ∧
        t.lc.counters.voidClaims = s.lc.counters.voidClaims ∧
        s.pushes t Record.isReport (if s.wantsEntry e = true then [t.entryRecord i .acked] else [])) ∧
       (¬wins → t.entry i = e ∧ t.lc.counters.voidClaims = bump s.lc.counters.voidClaims ∧
        s.pushes t Record.isReport []))

/-- A PURGE is valid when its origin is LOST, LEFT or ABSENT and then makes the origin's entries that are not pristine QUIET,
INACTIVE, unacknowledged, unreminded and not orphaned, each change with an ENTRY record of cause PURGED; a void one changes no
entry and is counted. One with an origin over 15 changes no entry and no void counter. That the records come in ascending point
number is the model's choice (log entry 35). -/
def Obligations.PurgeClearsADepartedOrigin : Prop :=
  (∀ (s : State) (sender : StationId) (origin : Byte), s.receives → s.applies = true → 16 ≤ origin.toNat →
    ∃ t, exec (.purgeAccepted sender origin) s = .next t ∧ t.et.table = s.et.table ∧
      t.et.lineCount = s.countAtAcceptance ∧
      t.lc.counters = { s.lc.counters with framesAccepted := bump s.lc.counters.framesAccepted } ∧
      s.pushes t Record.isReport []) ∧
  ∀ (s : State) (sender o : StationId), s.receives → s.applies = true →
    ∃ t, exec (.purgeAccepted sender (BitVec.ofNat 8 o.1)) s = .next t ∧ t.et.lineCount = s.countAtAcceptance ∧
      (let valid := (s.record o).state = .lost ∨ (s.record o).state = .left ∨ (s.record o).state = .absent
       (∀ i : EntryIndex, i.1 / 16 ≠ o.1 ∨ s.entry i = Entry.pristine → t.entry i = s.entry i) ∧
       (valid →
        (∀ i : EntryIndex, i.1 / 16 = o.1 → s.entry i ≠ Entry.pristine →
          t.entry i = { s.entry i with phase := .quiet, condition := .inactive, acknowledger := none, reminders := 0,
                                       orphaned := false }) ∧
        t.lc.counters.voidPurges = s.lc.counters.voidPurges ∧
        s.pushes t Record.isReport (s.originRecords t o .purged fun i =>
          decide ({ t.entry i with raiseStamp := 0 } ≠ { s.entry i with raiseStamp := 0 })) ∧
        (o = s.cs.stationNumber → ∀ p : PointId, (t.point p).pendingReminders = 0)) ∧
       (¬valid → t.et.table = s.et.table ∧ t.lc.counters.voidPurges = bump s.lc.counters.voidPurges ∧
        s.pushes t Record.isReport []))

/-- A LOST naming a live station whose last-heard count agrees, or is unknown on either side, makes it LOST and its entries
orphaned, with a ROSTER record and then an ENTRY record of cause ORPHANED for each entry newly orphaned; a void one changes
neither and is counted. A MEMBER named by a valid one queues a PRESENCE and its used points. That the ENTRY records come in
ascending point number is the model's choice (log entry 35). -/
def Obligations.LostDeclaresASilentStation : Prop :=
  ∀ (s : State) (sender : StationId) (p : LostPayload) (u : StationId), s.receives → s.applies = true →
    p.target.toNat % 16 = u.1 →
    ∃ t, exec (.lostAccepted sender p) s = .next t ∧ t.et.lineCount = s.countAtAcceptance ∧
      (let heard := if u = sender then s.heardAt else (s.record u).lastHeard
       let valid := ((s.record u).state = .present ∨ (s.record u).state = .joining ∨ (s.record u).state = .syncing) ∧
        (p.target.getLsbD 7 = true ∨ heard = none ∨ heard = some p.lastHeard)
       (∀ v : StationId, v ≠ u → v ≠ sender → t.record v = s.record v) ∧
       (valid →
        t.record u = { state := .lost, lastHeard := heard, suspect := false, silence := none } ∧
        (∀ i : EntryIndex, t.entry i =
          if i.1 / 16 = u.1 ∧ s.entry i ≠ Entry.pristine then { s.entry i with orphaned := true } else s.entry i) ∧
        t.lc.counters.voidLost = s.lc.counters.voidLost ∧
        s.pushes t Record.isReport (s.rosterRecords u .lost none ++
          s.originRecords t u .orphaned fun i => (t.entry i).orphaned && !(s.entry i).orphaned) ∧
        (u = s.cs.stationNumber → s.ru.state = .member →
          t.hasItem ItemKind.isPresence = true ∧ ∀ q : PointId, s.pointUsed q = true → (t.point q).queued = true)) ∧
       (¬valid → (t.record u).state = (s.record u).state ∧ t.et.table = s.et.table ∧
        t.lc.counters.voidLost = bump s.lc.counters.voidLost ∧ s.pushes t Record.isReport []))

/-- A LEAVE of another station makes its record LEFT and its entries orphaned, with a ROSTER record that carries the cause and
then an ENTRY record of cause ORPHANED for each entry newly orphaned; a cause over 1 has no effect of its own. That the ENTRY
records come in ascending point number is the model's choice (log entry 35). -/
def Obligations.LeaveDepartsItsSender : Prop :=
  ∀ (s : State) (sender : StationId) (cause : Byte), s.receives → s.applies = true →
    ∃ t, exec (.leaveAccepted sender cause) s = .next t ∧ t.et.lineCount = s.countAtAcceptance ∧
      (∀ v : StationId, v ≠ sender → t.record v = s.record v) ∧
      (cause.toNat ≤ 1 → (t.record sender).state = .left ∧ (t.record sender).suspect = false ∧
        (t.record sender).lastHeard = s.heardAt ∧
        ∀ i : EntryIndex, t.entry i =
          if i.1 / 16 = sender.1 ∧ s.entry i ≠ Entry.pristine then { s.entry i with orphaned := true } else s.entry i) ∧
      (cause.toNat ≤ 1 →
        s.pushes t Record.isReport
          (s.rosterRecords sender .left (some (if cause = 0 then .commanded else .vetoLimit)) ++
            s.originRecords t sender .orphaned fun i => (t.entry i).orphaned && !(s.entry i).orphaned)) ∧
      (2 ≤ cause.toNat → (t.record sender).state = (s.record sender).state ∧ t.et.table = s.et.table ∧
        s.pushes t Record.isReport [])

/-- A JOIN makes its sender's record JOINING or SYNCING when the profile digests are equal, with a ROSTER record when that
changes its state, and the silence timer of a station other than the own one runs with 3P. A sweep starts at 0 with a SNAPSHOT
item when the station is a MEMBER and its own reference and some record is JOINING or SYNCING, and this was not so before. No
entry changes. -/
def Obligations.JoinBringsInItsSender : Prop :=
  ∀ (s : State) (sender : StationId) (p : JoinPayload) (st : RosterState), s.receives → s.applies = true →
    (p.mode = 0 ∧ st = .joining ∨ p.mode = 1 ∧ st = .syncing ∨ 2 ≤ p.mode.toNat ∧ st = (s.record sender).state) →
    ∃ t, exec (.joinAccepted sender p) s = .next t ∧ t.et.lineCount = s.countAtAcceptance ∧
      t.et.table = s.et.table ∧ (∀ v : StationId, v ≠ sender → t.record v = s.record v) ∧
      (t.record sender).state = (if p.profileDigest = s.cs.profileDigest then st else (s.record sender).state) ∧
      (sender ≠ s.cs.stationNumber → (t.record sender).state = .joining ∨ (t.record sender).state = .syncing →
        (t.record sender).silence = some (3 * s.presenceMs)) ∧
      s.pushes t Record.isReport (s.rosterRecords sender (t.record sender).state none) ∧
      (¬s.sweepCondition → t.sweepCondition → t.ru.cursor = 0 ∧ t.hasItem (· == .snapshot) = true)

/-- In LISTENING the first PRESENCE carrying MEMBER decides: JOINING with a first JOIN attempt when the profile digests are
equal, REFUSED otherwise, with the silence timers stopped, the roster frozen, the list empty and the veto count 0; any other
PRESENCE decides nothing. -/
def Obligations.PresenceDecidesTheWindow : Prop :=
  ∀ (s : State) (sender : StationId) (p : PresencePayload), s.Sound → s.ru.state = .listening → s.receives →
    (presenceMeaning p = some .member → p.profileDigest = s.cs.profileDigest →
      ∃ t, exec (.presenceAccepted sender p) s = .next t ∧ t.ru.state = .joining ∧ t.ru.windowTimer = none ∧
        t.ru.joinMode = some .join ∧ t.ru.attempt = 1 ∧ t.ru.attemptTimer = some (8 * s.presenceMs) ∧
        t.ru.presenceTimer = some s.presenceMs ∧ t.ru.ownJoin = false ∧ t.et.countValid = false ∧
        (∀ i : EntryIndex, t.entry i = Entry.pristine ∧ t.ru.coverage[i] = false) ∧
        (∀ u : StationId, t.record u = RosterRecord.absent) ∧ t.reference = none ∧
        t.sq.items = [{ kind := .join .join, cls := 3, age := s.sq.nextAge }]) ∧
    (presenceMeaning p = some .member → p.profileDigest ≠ s.cs.profileDigest →
      ∃ t, exec (.presenceAccepted sender p) s = .next t ∧ t.ru.state = .refused ∧
        t.ru.refusal = some .profileMismatch ∧ t.ru.windowTimer = none ∧ t.et = s.et ∧ s.rosterFrozen t ∧
        t.lc.vetoCount = 0 ∧ t.sq.items = []) ∧
    (presenceMeaning p ≠ some .member →
      ∃ t, exec (.presenceAccepted sender p) s = .next t ∧ t.ru = s.ru ∧ t.et = s.et)

/-- A PRESENCE has a meaning when its state byte is 2, 3 or 4 (JOINING, MEMBER, SYNCING) and no nibble of its roster bytes is
over 5. At a station that applies it, a PRESENCE with a meaning and the own profile digest gives its sender's record the
state it carries, with a ROSTER record when that is another, and one with another digest gives it none; no entry changes. A
MEMBER that is not its own reference compares the count and digest that its reference carries, as MEMBER, with its own as
they stood, and starts a resynchronisation when either differs, with OUTCOME VOID WITHDRAWN for each claim and purge removed,
and with the point items and the PRESENCE item kept and no attempt started. Any other PRESENCE that completes no join leaves
own state, join fields, timers, silence mark and points as they are, but for the reminder timers. That the presence timer
starts anew at that change, and that the PRESENCE item kept is offered in SYNCING, are the model's choices between rules (log
entries 14 and 34). -/
def Obligations.PresenceUpdatesItsSenderAndIsCompared : Prop :=
  (∀ p : PresencePayload,
    let known : Prop := ∀ k : Fin 8, p.roster[k].toNat % 16 ≤ 5 ∧ p.roster[k].toNat / 16 ≤ 5
    (presenceMeaning p = some .joining ↔ p.state = 2 ∧ known) ∧ (presenceMeaning p = some .member ↔ p.state = 3 ∧ known) ∧
      (presenceMeaning p = some .syncing ↔ p.state = 4 ∧ known) ∧
      (presenceMeaning p = none ↔ (p.state ≠ 2 ∧ p.state ≠ 3 ∧ p.state ≠ 4) ∨
        ∃ k : Fin 8, 5 < p.roster[k].toNat % 16 ∨ 5 < p.roster[k].toNat / 16)) ∧
  ∀ (s : State) (sender : StationId) (p : PresencePayload), s.receives → s.applies = true →
    ∃ t, exec (.presenceAccepted sender p) s = .next t ∧ t.et.table = s.et.table ∧ t.et.lineCount = s.countAtAcceptance ∧
      (let fromReference : Prop :=
        s.reference = some sender ∧ presenceMeaning p = some .member ∧ p.profileDigest = s.cs.profileDigest
       let compared : Prop := s.ru.state = .member ∧ sender ≠ s.cs.stationNumber ∧ fromReference
       let completes : Prop := (s.ru.state = .syncing ∨ (s.ru.state = .joining ∧ s.ru.ownJoin = true)) ∧
        (∀ i : EntryIndex, s.ru.coverage[i] = true) ∧ fromReference
       let differs : Prop := p.lineCount ≠ s.et.lineCount ∨ p.tableDigest ≠ s.tableDigest
       (¬completes →
        (∀ v : StationId, v ≠ sender → t.record v = s.record v) ∧
        (∀ st, presenceMeaning p = some st → p.profileDigest = s.cs.profileDigest →
          (t.record sender).state = carriedRosterState st ∧
          (sender ≠ s.cs.stationNumber → (t.record sender).silence = some (3 * s.presenceMs))) ∧
        (presenceMeaning p = none ∨ p.profileDigest ≠ s.cs.profileDigest →
          (t.record sender).state = (s.record sender).state) ∧
        s.pushes t Record.isReport (s.rosterRecords sender (t.record sender).state none)) ∧
       (compared → differs →
        t.ru.state = .syncing ∧ t.ru.joinMode = some .resync ∧ t.ru.attempt = 1 ∧
          t.ru.attemptTimer = some (8 * s.presenceMs) ∧ t.ru.presenceTimer = some s.presenceMs ∧
          (∀ i : EntryIndex, t.ru.coverage[i] = false) ∧ t.hasItem (· == .join .resync) = true ∧
          s.pushes t Record.isOutcome (s.sq.items.filterMap withdrawnRecord) ∧
          t.countItems ItemKind.isClaim = 0 ∧ t.countItems ItemKind.isLost = 0 ∧
          t.countItems ItemKind.isPurge = 0 ∧ t.countItems (· == .snapshot) = 0 ∧ s.keepsAtSyncing t) ∧
       (¬(compared ∧ differs) → ¬completes →
        t.ru = { s.ru with roster := t.ru.roster, cursor := t.ru.cursor } ∧ t.ou.silenceMark = s.ou.silenceMark ∧
          t.sq.returnPending = s.sq.returnPending ∧ s.pushes t Record.isOutcome [] ∧
          ∀ q : PointId, t.point q = { s.point q with reminder := (t.point q).reminder } ∧
            ((t.point q).reminder = (s.point q).reminder ∨ (t.point q).reminder = .stopped)))

/-- With the coverage set full, a PRESENCE carrying MEMBER from the reference completes a join or a resync: the roster carried,
with a silence timer of 3P for each record that enters PRESENT, JOINING or SYNCING and none for one that leaves them, and the
occurrence numbers and reminder counts of the own entries are adopted, every used point is queued, a reminder timer starts with
the full interval where it may run and every other stays stopped, and one TABLE_LOADED record is pushed, no ENTRY and no ROSTER
record. A station that is then its own reference holds a LOST item for each suspect peer and begins a sweep where its condition
holds. That a record which passes from one of the three states to another starts its timer anew and keeps its suspect flag is
the model's choice (log entry 29). -/
def Obligations.ReferencePresenceCompletesTheJoin : Prop :=
  ∀ (s : State) (sender : StationId) (p : PresencePayload), s.Sound → s.receives →
    ((s.ru.state = .joining ∧ s.ru.ownJoin = true) ∨ s.ru.state = .syncing) → (∀ i : EntryIndex, s.ru.coverage[i] = true) →
    s.reference = some sender → presenceMeaning p = some .member → p.profileDigest = s.cs.profileDigest →
    ∃ t, exec (.presenceAccepted sender p) s = .next t ∧ t.ru.state = .member ∧ t.et.table = s.et.table ∧
      t.et.lineCount = s.et.lineCount + 1 ∧ t.ou.silenceMark = s.et.lineCount + 1 ∧
      (∀ u : StationId, u ≠ s.cs.stationNumber →
        let heard : RosterRecord :=
          if u = sender then
            { state := .present, lastHeard := some (s.et.lineCount + 1), suspect := false, silence := some (3 * s.presenceMs) }
          else s.record u
        let st := carriedState p u
        (heard.state = st → t.record u = heard) ∧
        (heard.state ≠ st → (st = .present ∨ st = .joining ∨ st = .syncing) →
          t.record u = { heard with state := st, silence := some (3 * s.presenceMs) }) ∧
        (heard.state ≠ st → ¬(st = .present ∨ st = .joining ∨ st = .syncing) →
          t.record u = { heard with state := st, suspect := false, silence := none })) ∧
      t.record s.cs.stationNumber = s.record s.cs.stationNumber ∧
      (t.namesItself →
        ∀ v : StationId, v ≠ s.cs.stationNumber → (t.record v).suspect = true → t.hasItem (· == .lost v) = true) ∧
      (t.sweepCondition → t.ru.cursor = 0 ∧ t.hasItem (· == .snapshot) = true) ∧
      t.ru.joinMode = none ∧ t.ru.attempt = 0 ∧ t.ru.attemptTimer = none ∧
      (∀ i : EntryIndex, t.ru.coverage[i] = false) ∧ t.ru.presenceTimer = some s.presenceMs ∧
      t.countItems ItemKind.isJoin = 0 ∧ t.countItems ItemKind.isPresence = 1 ∧
      (∀ q : PointId, s.pointUsed q = true →
        (t.point q).queued = true ∧
        (s.ownEntry q ≠ Entry.pristine →
          (let n := if compareOccurrence (s.ownEntry q).occurrence (s.point q).occurrence = .newer
            then (s.ownEntry q).occurrence else (s.point q).occurrence
           let same : Prop := n = (s.ownEntry q).occurrence
           let rose : Prop := (s.point q).qualified = .active ∧ (s.ownEntry q).condition = .inactive
           (same ∧ rose → (t.point q).occurrence = n + 1 ∧ (t.point q).pendingReminders = 0) ∧
           (same ∧ ¬rose → (t.point q).occurrence = n ∧ (t.point q).pendingReminders = (s.ownEntry q).reminders) ∧
           (¬same → (t.point q).occurrence = n ∧ (t.point q).pendingReminders = (s.point q).pendingReminders))) ∧
        (s.ownEntry q = Entry.pristine → (t.point q).occurrence = (s.point q).occurrence ∧
          (t.point q).pendingReminders = (s.point q).pendingReminders)) ∧
      (∀ q : PointId,
        (t.point q).reminder = if t.mayRemind q = true then .running (t.reminderMs q) else .stopped) ∧
      s.pushes t Record.isReport [.tableLoaded (s.et.lineCount + 1)] ∧
      t.ou.trip.uncertain = false

/-- A well-formed segment taken from a PRESENT sender overwrites the entries of its range, fills the coverage set and restarts
the attempt timer; a malformed one sets the line count alone; where no content is applied, entries, coverage and attempt timer
stand. In every case no ENTRY and no ROSTER record is pushed. A segment is malformed when its first index is above its last,
its indices are not in ascending order within that range, or a carried entry has category none, an absent acknowledger with
bits 0 to 3 not all 0, or the pristine form. -/
def Obligations.SegmentOverwritesItsRange : Prop :=
  (∀ p : SnapshotPayload, segmentMalformed p = true ↔
    p.last.toNat < p.first.toNat ∨ ¬(p.entries.map fun f => f.index.toNat).Pairwise (· < ·) ∨
      ∃ f ∈ p.entries, f.index.toNat < p.first.toNat ∨ p.last.toNat < f.index.toNat ∨ f.category.getLsbD 3 = true ∨
        (f.acknowledger.getLsbD 4 = true ∧ f.acknowledger.extractLsb' 0 4 ≠ 0#4) ∨
        [f.status, f.occurrence, f.category, f.acknowledger] = [0x00, 0x00, 0x08, 0x10]) ∧
  ∀ (s : State) (sender : StationId) (p : SnapshotPayload), s.receives → s.applies = true →
    ∃ t, exec (.snapshotAccepted sender p) s = .next t ∧ s.pushes t Record.isReport [] ∧
      (let taken := (s.ru.state = .syncing ∨ (s.ru.state = .joining ∧ s.ru.ownJoin = true)) ∧
        (s.record sender).state = .present
       (¬taken → t.et.table = s.et.table ∧ t.et.lineCount = s.countAtAcceptance ∧ t.ru.coverage = s.ru.coverage ∧
        t.ru.attemptTimer = s.ru.attemptTimer) ∧
       (taken → t.et.lineCount = p.lineCount + 1 ∧ t.et.countValid = true ∧
        (t.record sender).lastHeard = some (p.lineCount + 1)) ∧
       (taken → segmentMalformed p = true → t.et.table = s.et.table ∧ t.ru.coverage = s.ru.coverage ∧
        t.ru.attemptTimer = s.ru.attemptTimer) ∧
       (taken → segmentMalformed p = false →
        t.ru.attemptTimer = some (8 * s.presenceMs) ∧
        ∀ i : EntryIndex,
          (i.1 < p.first.toNat ∨ p.last.toNat < i.1 →
            t.entry i = s.entry i ∧ t.ru.coverage[i] = s.ru.coverage[i]) ∧
          (p.first.toNat ≤ i.1 → i.1 ≤ p.last.toNat →
            t.ru.coverage[i] = true ∧
            (∀ f ∈ p.entries, f.index.toNat = i.1 → t.entry i = entryOfForm f (p.lineCount + 1)) ∧
            ((∀ f ∈ p.entries, f.index.toNat ≠ i.1) → t.entry i = Entry.pristine))))

/-- At the acceptance of its own frame the attempt ends, the veto count returns to 0, and the item leaves or takes a new age,
but for a SNAPSHOT, which stays with its class and age while some record is JOINING or SYNCING. The sender applies its own frame as every receiver does: table,
line count, roster, counters, ENTRY and ROSTER records, outputs and points other than the item's own become what a receiver of
the frame in this state would make of them, the own JOIN counting as accepted and the own LEAVE stopping the silence timers
with the entry to OFFLINE; an expiry that waits for the attempt's end in JOINING, or at the third resync attempt, has its own
statement. A LEAVE takes the station OFFLINE, a JOIN sets the own JOIN mark and restarts the attempt timer, a SNAPSHOT moves
the sweep cursor past its last index, a queued PRESENCE clears the return presence mark, and a claim or a purge gets its one
OUTCOME: a claim the first case of R49 that its entry matches, with the winner, a purge DONE when its origin is gone and else VOID
ORIGIN_PRESENT. That a claim on an entry HELD with no acknowledger does not win is the model's choice (log entry 6). That an accepted notice of the own number and of the kind in
flight is the own frame, whatever it carries, and that what is applied is the frame in flight, is the reading of log entry 8. -/
def Obligations.OwnFrameSettlesItsItem : Prop :=
  ∀ (s : State) (f : InFlight) (n : Notice), s.Sound → s.lc.receiverOn = true → s.lc.inFlight = some f →
    noticeKind n = noticeKind f.frame.notice →
    (s.applies = true ∨ f.item.kind.isPresence = true ∨ f.item.kind.isJoin = true) →
    ∃ t, exec (acceptanceOf f.frame.sender n) s = .next t ∧ t.lc.inFlight = none ∧ t.lc.ltx = .released ∧
      t.lc.vetoCount = 0 ∧ t.lc.counters.framesAccepted = bump s.lc.counters.framesAccepted ∧
      (∀ x ∈ t.sq.items, x.age = f.item.age →
        f.item.kind = .snapshot ∧ (s.ru.state = .member → t.someoneRebuilds)) ∧
      (f.item.kind = .snapshot → (∃ p, f.frame.notice = .snapshot p) → f.frame.sender = s.cs.stationNumber →
        s.ru.state = .member → t.someoneRebuilds → ∀ x ∈ s.sq.items, x.age = f.item.age → x ∈ t.sq.items) ∧
      (s.ru.deferredExpiry = false ∨ (s.ru.state = .syncing ∧ s.ru.attempt < 3) →
        let joins : Bool :=
          match f.frame.notice with
          | .join _ => s.ru.state == .joining || s.ru.state == .syncing
          | _ => false
        let receiver : State := { s with
          ru := { s.ru with ownJoin := s.ru.ownJoin || joins }
          lc := { s.lc with inFlight := none, ltx := .released, assembling := true } }
        ∃ v, exec (acceptanceOf f.frame.sender f.frame.notice) receiver = .next v ∧ t.et = v.et ∧
          t.lc.counters = v.lc.counters ∧
          ((∀ c, f.frame.notice ≠ .leave c) → t.ou = v.ou ∧ (∀ u : StationId, t.record u = v.record u) ∧
            ∀ q : PointId, f.item.kind ≠ .point q → t.point q = v.point q) ∧
          (∀ c, f.frame.notice = .leave c → ∀ u : StationId, t.record u = { v.record u with silence := none }) ∧
          (t.lp.marker = none → v.lp.marker = none →
            t.lp.records.filter Record.isReport = v.lp.records.filter Record.isReport)) ∧
      (∀ c, f.frame.notice = .leave c → t.ru.state = .offline ∧ t.sq.items = []) ∧
      (∀ p, f.frame.notice = .join p → (s.ru.state = .joining ∨ s.ru.state = .syncing) → s.ru.deferredExpiry = false →
        t.ru.ownJoin = true ∧ t.ru.attemptTimer = some (8 * s.presenceMs)) ∧
      (∀ p, f.frame.notice = .snapshot p → t.ru.cursor.1 = (p.last.toNat + 1) % 256) ∧
      (f.item.kind.isPresence = true → (∃ x ∈ s.sq.items, x.age = f.item.age) → t.sq.returnPending = false) ∧
      (t.lp.marker = none → ∃ pushed, t.lp.records = s.lp.records ++ pushed ∧
        (∀ i occ, f.item.kind = .claim i occ → ∃ r, Record.outcome (.claim i) r ∈ pushed ∧
          (r = .won s.cs.stationNumber ↔ (s.entry i).occurrence = occ ∧ s.entryAckNone (s.entry i) = false ∧
            (s.entry i).acknowledger = none ∧ ((s.entry i).phase = .raised ∨ (s.entry i).phase = .lapsed))) ∧
        (∀ i occ, f.item.kind = .claim i occ →
          (∀ y ∈ s.sq.items, y.kind.isClaimOf i = true → y.age = f.item.age) →
          ∃ r, pushed.filter (Record.isOutcomeOf (.claim i)) = [.outcome (.claim i) r] ∧ s.isClaimResult (s.entry i) occ r) ∧
        (∀ o, f.item.kind = .purge o → ∃ r, Record.outcome (.purge o) r ∈ pushed ∧
          (r = .done ↔ (s.record o).state = .lost ∨ (s.record o).state = .left ∨ (s.record o).state = .absent)) ∧
        (∀ o, f.item.kind = .purge o → (∀ y ∈ s.sq.items, y.kind.isPurge = true → y.age = f.item.age) →
          pushed.filter (Record.isOutcomeOf (.purge o)) = [.outcome (.purge o)
            (if (s.record o).state = .lost ∨ (s.record o).state = .left ∨ (s.record o).state = .absent then .done
             else .void .originPresent none)]))

/-- A MEMBER's own POINT: when the announced pair then equals the entry's the item leaves and the queued flag is no; when they
differ the item goes to the tail of the class it stands in (log entry 31) with a new age. The pairs are equal when qualified state,
occurrence counter and pending reminder count are the entry's condition, occurrence and reminder count. The reminder timer restarts
where it may run: the point used, its interval not 0, its entry RAISED or LAPSED, the station MEMBER; it stops where the entry is
then HELD or QUIET, and the rest of the point's record stands. An own POINT accepted after a LEAVE command took its item out queues
nothing and changes no point. At an applied frame of another
station that leaves the own state, a reminder timer stops where the own entry is then HELD or QUIET and stands otherwise; the
pending reminder counts stand, but for a valid PURGE of the own origin, which makes them 0; and a point is queued then exactly
when it was, or a MEMBER's announce check finds its own entry changed and its pairs different, or a MEMBER announces every used
point because the frame is a valid LOST that names it. That the reset at that PURGE comes before the check is the model's
choice (log entry 37). -/
def Obligations.OwnPointLeavesOrIsRequeued : Prop :=
  (∀ (s : State) (q : PointId),
    (s.pairsEqual q = true ↔ (s.point q).qualified = (s.ownEntry q).condition ∧
      (s.point q).occurrence = (s.ownEntry q).occurrence ∧ (s.point q).pendingReminders = (s.ownEntry q).reminders) ∧
    (s.mayRemind q = true ↔ ∃ (u : Setup) (f : Profile), s.cs.setup = some u ∧ s.cs.profile = some f ∧
      (u.points[q] : PointSetup).source ≠ .unused ∧
      (f.categories[(u.points[q] : PointSetup).category] : Category).reminderInterval ≠ 0 ∧
      ((s.ownEntry q).phase = .raised ∨ (s.ownEntry q).phase = .lapsed) ∧ s.ru.state = .member) ∧
    ∀ (u : Setup) (f : Profile), s.cs.setup = some u → s.cs.profile = some f →
      s.reminderMs q = 1000 * (f.categories[(u.points[q] : PointSetup).category] : Category).reminderInterval.toNat) ∧
  (∀ (s : State) (sender : StationId) (n : Notice), s.receives → s.applies = true →
    ∃ t, exec (acceptanceOf sender n) s = .next t ∧
      (t.ru.state = s.ru.state → ∀ q : PointId,
        (t.point q).reminder =
          (if (t.ownEntry q).phase = .raised ∨ (t.ownEntry q).phase = .lapsed then (s.point q).reminder else .stopped) ∧
        (s.purgesOwnOrigin n → (t.point q).pendingReminders = 0) ∧
        (¬s.purgesOwnOrigin n → (t.point q).pendingReminders = (s.point q).pendingReminders) ∧
        ((t.point q).queued = true ↔ (s.point q).queued = true ∨
          (s.ru.state = .member ∧ s.pointUsed q = true ∧
            (({ t.ownEntry q with raiseStamp := 0 } ≠ { s.ownEntry q with raiseStamp := 0 } ∧ t.pairsEqual q = false) ∨
              s.losesItself sender n))))) ∧
  (∀ (s : State) (f : InFlight) (q : PointId) (p : PointPayload), s.Sound → s.ru.state = .leaving →
    s.lc.inFlight = some f → f.item.kind = .point q → f.frame.notice = .point p →
    (∀ x ∈ s.sq.items, x.age ≠ f.item.age) →
    ∃ t, exec (.pointAccepted f.frame.sender p) s = .next t ∧ t.ru.state = .leaving ∧ (∀ v : PointId, t.point v = s.point v) ∧
      (∀ x ∈ t.sq.items, x ∈ s.sq.items) ∧ t.sq.nextAge = s.sq.nextAge) ∧
  ∀ (s : State) (f : InFlight) (q : PointId) (p : PointPayload) (x : Item), s.Sound → s.ru.state = .member →
    s.lc.inFlight = some f → f.frame.sender = s.cs.stationNumber → f.item.kind = .point q →
    f.frame.notice = .point p → p.point = BitVec.ofNat 8 q.1 → x ∈ s.sq.items → x.age = f.item.age →
    ∃ t, exec (.pointAccepted s.cs.stationNumber p) s = .next t ∧ t.ru.state = .member ∧
      t.point q = { s.point q with
        queued := !t.pairsEqual q
        reminder :=
          if t.mayRemind q = true then .running (t.reminderMs q)
          else if (t.ownEntry q).phase = .raised ∨ (t.ownEntry q).phase = .lapsed then (s.point q).reminder
          else .stopped } ∧
      (t.pairsEqual q = true → (t.point q).queued = false ∧ t.hasItem (ItemKind.isPointOf q) = false) ∧
      (t.pairsEqual q = false → (t.point q).queued = true ∧
        ∃ y ∈ t.sq.items, y = { kind := .point q, cls := x.cls, age := y.age } ∧ s.sq.nextAge ≤ y.age) ∧
      (t.mayRemind q = true → (t.point q).reminder = .running (t.reminderMs q))

/-- A queued claim of a MEMBER or MUTED station whose entry an accepted frame changed leaves the list unless it could still
win, with an OUTCOME VOID that gives the first case of R49 that now matches; one whose entry stands as it was stays with its
age. So at a frame of another station, and at the own frame of a MEMBER for every claim but the one in flight. That a claim is
looked at where any field of its entry changed is log entry 28; that one whose changed entry is HELD with no acknowledger
leaves is the model's choice (log entry 6). That an accepted notice of the own number and of the kind in flight is the own frame,
whatever it carries, and that what is applied is the frame in flight, is the reading of log entry 8. -/
def Obligations.OvertakenClaimsAreWithdrawn : Prop :=
  (∀ (s : State) (sender : StationId) (n : Notice) (x : Item) (i : EntryIndex) (occ : Byte), s.Sound → s.receives →
    (s.ru.state = .member ∨ s.ru.state = .muted) → (∀ p, n ≠ .presence p) → x ∈ s.sq.items → x.kind = .claim i occ →
    ∃ t, exec (acceptanceOf sender n) s = .next t ∧ s.claimIsChecked t x i occ) ∧
  ∀ (s : State) (f : InFlight) (n : Notice) (x : Item) (i : EntryIndex) (occ : Byte), s.Sound → s.ru.state = .member →
    s.lc.receiverOn = true → s.lc.inFlight = some f → noticeKind n = noticeKind f.frame.notice →
    (∀ p, f.frame.notice ≠ .presence p) → (∀ c, f.frame.notice ≠ .leave c) → x ∈ s.sq.items → x.kind = .claim i occ →
    x.age ≠ f.item.age →
    ∃ t, exec (acceptanceOf f.frame.sender n) s = .next t ∧ s.claimIsChecked t x i occ

/-! ## Timers -/

/-- At its expiry the presence timer restarts with P and a PRESENCE item stands at the tail of class 3, unless one is queued
already; a promotion moves the waiting PRESENCE item to class 1 with its age. A JOINING or SYNCING station may offer the item
queued so. -/
def Obligations.PresenceIsQueuedAndPromoted : Prop :=
  ∀ s : State, s.QueueOk →
    (s.ru.presenceTimer ≠ none →
      ∃ t, exec .presenceTimerExpiry s = .next t ∧
        t = { s with ru := { s.ru with presenceTimer := some s.presenceMs }, sq := t.sq } ∧
        (s.hasItem ItemKind.isPresence = true → t.sq = s.sq) ∧
        (s.hasItem ItemKind.isPresence = false →
          (let x : Item := { kind := .presence (some s.presenceMs), cls := 3, age := s.sq.nextAge }
           t.sq = { s.sq with items := t.sq.items, nextAge := s.sq.nextAge + 1 } ∧ placedAtTail s.sq.items t.sq.items x ∧
            (s.ru.state = .joining ∨ s.ru.state = .syncing → t.mayOffer x)))) ∧
    (∃ t, exec .promotionTimerExpiry s = .next t ∧ t = { s with sq := { s.sq with items := t.sq.items } } ∧
      t.sq.items.Perm (s.sq.items.map fun x =>
        if x.kind.awaitsPromotion = true then { x with kind := .presence none, cls := 1 } else x) ∧
      t.sq.items.Pairwise (fun a b => a.before b = true))

/-- At the expiry of a peer's silence timer its suspect flag is set and the timer stops; a station that is then its own
reference holds a LOST item naming it. Nothing else changes but what the duties of a station that is then its own reference
add: LOST items for suspect peers, and a SNAPSHOT item with the cursor at 0 where a sweep starts, that is where the station is
then a MEMBER and its own reference, some record is JOINING or SYNCING, and this was not so before. -/
def Obligations.SilentPeerBecomesSuspect : Prop :=
  ∀ (s : State) (u : StationId), s.Sound →
    ((s.record u).silence ≠ none →
      ∃ t, exec (.silenceTimerExpiry u) s = .next t ∧
        t = { s with ru := { s.ru with roster := t.ru.roster, cursor := t.ru.cursor }, sq := t.sq } ∧
        (¬(¬s.sweepCondition ∧ t.sweepCondition) → t.ru.cursor = s.ru.cursor) ∧
        (¬s.sweepCondition → t.sweepCondition → t.ru.cursor = 0 ∧ t.hasItem (· == .snapshot) = true) ∧
        t.sq.returnPending = s.sq.returnPending ∧
        (∀ x ∈ s.sq.items, x ∈ t.sq.items) ∧
        (∀ x ∈ t.sq.items, x ∈ s.sq.items ∨
          (t.namesItself ∧ ∃ v : StationId, x.kind = .lost v ∧ x.cls = 1 ∧ (t.record v).suspect = true) ∨
          (¬s.sweepCondition ∧ t.sweepCondition ∧ x.kind = .snapshot ∧ x.cls = 3)) ∧
        t.record u = { s.record u with suspect := true, silence := none } ∧
        (∀ v : StationId, v ≠ u → t.record v = s.record v) ∧ t.ru.state = s.ru.state ∧
        (t.namesItself → t.hasItem (· == .lost u) = true) ∧
        (¬s.namesItself → t.namesItself →
          ∀ v : StationId, v ≠ s.cs.stationNumber → (t.record v).suspect = true → t.hasItem (· == .lost v) = true)) ∧
    ((s.record u).silence = none → exec (.silenceTimerExpiry u) s = .next s)

/-- The exit from MUTED: MEMBER with the return presence mark, a PRESENCE and every used point queued when the entry state was
MEMBER and the table is not doubtful, a held reminder timer running on and a stopped one started where it may run, with LOST
items for suspect peers at the own reference and none elsewhere, and a SNAPSHOT item with the cursor at 0 where the sweep
condition holds and none elsewhere; else SYNCING or JOINING with the JOIN item and the empty coverage set of a first attempt
and every reminder timer stopped. The entry to SYNCING removes claim, LOST, PURGE and SNAPSHOT items, with OUTCOME VOID
WITHDRAWN for each claim and purge, keeps the point items and the PRESENCE item and starts no attempt; that the PRESENCE item is
offered afterwards is the model's choice between rules (log entry 34). The entry to JOINING removes none, and each puts the new
JOIN item at the tail of class 3 in the place of an old one. At the clean exit every item stays with its class and age but for
the LOST and SNAPSHOT items withdrawn there, and no OUTCOME is pushed. The presence timer runs with P. -/
def Obligations.MuteEndsByEntryState : Prop :=
  ∀ s : State, s.Sound → s.ru.state = .muted →
    ∃ t, exec .muteTimerExpiry s = .next t ∧ t.ru.presenceTimer = some s.presenceMs ∧ t.ru.muteTimer = none ∧
      t.cs = s.cs ∧ t.lc = s.lc ∧ t.pending = s.pending ∧
      (s.ru.entryState = some .member → s.ru.doubtful = false →
        t.ru.state = .member ∧ t.sq.returnPending = true ∧ t.hasItem ItemKind.isPresence = true ∧
          (∀ q : PointId, s.pointUsed q = true → (t.point q).queued = true) ∧ t.et = s.et ∧
          t.ru.roster = s.ru.roster ∧
          (∀ q : PointId,
            (∀ n, (s.point q).reminder = .held n → (t.point q).reminder = .running n) ∧
            ((s.point q).reminder = .stopped →
              (t.point q).reminder = if t.mayRemind q = true then .running (t.reminderMs q) else .stopped)) ∧
          (t.namesItself →
            ∀ v : StationId, v ≠ s.cs.stationNumber → (t.record v).suspect = true → t.hasItem (· == .lost v) = true) ∧
          (¬t.namesItself → t.countItems ItemKind.isLost = 0) ∧
          (t.sweepCondition → t.ru.cursor = 0 ∧ t.hasItem (· == .snapshot) = true) ∧
          (¬t.sweepCondition → t.countItems (· == .snapshot) = 0) ∧ s.pushes t Record.isOutcome [] ∧
          (∀ x ∈ s.sq.items, (x.kind.isLost = true → t.namesItself) → (x.kind = .snapshot → t.sweepCondition) →
            x ∈ t.sq.items) ∧
          (∀ x ∈ t.sq.items, x ∈ s.sq.items ∨ x.kind.isPoint = true ∨ x.kind.isPresence = true ∨ x.kind.isLost = true ∨
            x.kind = .snapshot)) ∧
      (s.ru.entryState = some .member ∧ s.ru.doubtful = true ∨ s.ru.entryState = some .syncing →
        t.ru.state = .syncing ∧ t.ru.attempt = 1 ∧ t.ru.joinMode = some .resync ∧
          t.ru.attemptTimer = some (8 * s.presenceMs) ∧ t.et = s.et ∧ t.ru.roster = s.ru.roster ∧
          s.pushes t Record.isOutcome (s.sq.items.filterMap withdrawnRecord) ∧
          t.countItems ItemKind.isClaim = 0 ∧ t.countItems ItemKind.isLost = 0 ∧ t.countItems ItemKind.isPurge = 0 ∧
          t.countItems (· == .snapshot) = 0 ∧ s.keepsAtSyncing t ∧
          placedAtTail (s.sq.items.filter fun x => x.kind.isPoint || x.kind.isPresence || x.kind.isLeave) t.sq.items
            { kind := .join .resync, cls := 3, age := s.sq.nextAge } ∧ t.ru.ownJoin = false ∧
          (∀ i : EntryIndex, t.ru.coverage[i] = false) ∧
          t.countItems ItemKind.isJoin = 1 ∧ t.hasItem (· == .join .resync) = true ∧
          ∀ q : PointId, (t.point q).reminder = .stopped) ∧
      (s.ru.entryState = some .joining →
        t.ru.state = .joining ∧ t.ru.attempt = 1 ∧ t.ru.joinMode = some .join ∧
          t.ru.attemptTimer = some (8 * s.presenceMs) ∧ t.et.countValid = false ∧
          (∀ i : EntryIndex, t.entry i = Entry.pristine) ∧ (∀ u : StationId, t.record u = RosterRecord.absent) ∧
          s.pushes t Record.isOutcome [] ∧
          placedAtTail (s.sq.items.filter fun x => !x.kind.isJoin) t.sq.items
            { kind := .join .join, cls := 3, age := s.sq.nextAge } ∧
          t.ru.ownJoin = false ∧ (∀ i : EntryIndex, t.ru.coverage[i] = false) ∧
          t.countItems ItemKind.isJoin = 1 ∧ t.hasItem (· == .join .join) = true ∧
          ∀ q : PointId, (t.point q).reminder = .stopped)

/-- At the end of the window the station founds a system. Every entry is then QUIET, so no reminder timer may run and none
does. -/
def Obligations.WindowEndFoundsASystem : Prop :=
  ∀ s : State, s.Sound → s.ru.state = .listening →
    ∃ t, exec .windowTimerExpiry s = .next t ∧ t.ru.state = .member ∧ t.et.lineCount = 0 ∧ t.et.countValid = true ∧
      (∀ i : EntryIndex, t.entry i = Entry.pristine) ∧
      (∀ u : StationId, t.record u =
        if u = s.cs.stationNumber then { RosterRecord.absent with state := .present } else RosterRecord.absent) ∧
      t.reference = some s.cs.stationNumber ∧ t.countItems ItemKind.isPresence = 1 ∧
      t.cs = s.cs ∧ t.lc = s.lc ∧ t.pending = s.pending ∧
      t.ru.presenceTimer = some s.presenceMs ∧ t.ou.silenceMark = 0 ∧ t.ou.trip.uncertain = false ∧
      (∀ q : PointId, s.pointUsed q = true → (t.point q).queued = true) ∧ t.ru.joinMode = none ∧ t.ru.attempt = 0 ∧
      ∀ q : PointId, t.mayRemind q = false ∧ (t.point q).reminder = .stopped

/-- A failed attempt: the next of the same mode below number 3; with number 3 REFUSED NO_RESPONSE from JOINING and LISTENING
with a window of 4P from SYNCING, both with the silence timers stopped and the roster frozen. With the own frame in flight the
effect waits for the attempt's end: it comes once that attempt is LOST, has failed below exhaustion, or its frame has been
accepted and applied, the own JOIN among them. That an accepted notice of the own number and of the kind in flight is the own
frame, whatever it carries, and that what is applied is the frame in flight, is the reading of log entry 8. -/
def Obligations.AttemptExpiryRetriesOrGivesUp : Prop :=
  ∀ s : State, s.Sound →
    (s.ru.attemptTimer ≠ none → s.lc.inFlight ≠ none →
      exec .attemptTimerExpiry s = .next { s with ru := { s.ru with attemptTimer := none, deferredExpiry := true } }) ∧
    (s.ru.attemptTimer ≠ none → s.lc.inFlight = none →
      ∃ t, exec .attemptTimerExpiry s = .next t ∧ s.retriesOrGivesUp t ∧ t.lc.counters = s.lc.counters ∧
        (s.ru.state = .syncing ∨ 3 ≤ s.ru.attempt → t.et = s.et) ∧ (3 ≤ s.ru.attempt → s.rosterFrozen t) ∧
        (s.ru.state = .syncing → s.ru.attempt < 3 → t.ru.roster = s.ru.roster)) ∧
    ∀ (f : InFlight) (c : Instr), s.lc.inFlight = some f → s.ru.deferredExpiry = true →
      (c = .arbitrationLost ∨ (s.lc.vetoCount + 1 < 8 ∧ ((∃ n, c = .senderFault n) ∨ ∃ rx, c = .frameVetoed rx)) →
        ∃ t, exec c s = .next t ∧ s.retriesOrGivesUp t ∧ t.lc.inFlight = none ∧
          (let k := s.lc.counters
           (c = .arbitrationLost → t.lc.counters = { k with arbitrationLosses := bump k.arbitrationLosses }) ∧
           (∀ n, c = .senderFault n → t.lc.counters = { k with ownAbandoned := bump k.ownAbandoned }) ∧
           ∀ rx, c = .frameVetoed rx →
            t.lc.counters = { k with framesVetoed := bump k.framesVetoed, ownVetoed := bump k.ownVetoed }) ∧
          (s.ru.state = .syncing ∨ 3 ≤ s.ru.attempt → t.et = s.et) ∧ (3 ≤ s.ru.attempt → s.rosterFrozen t) ∧
          (s.ru.state = .syncing → s.ru.attempt < 3 → t.ru.roster = s.ru.roster)) ∧
      (∀ n, c = acceptanceOf f.frame.sender n → noticeKind n = noticeKind f.frame.notice →
        f.frame.sender = s.cs.stationNumber → (∀ x, f.frame.notice ≠ .leave x) →
        ∃ t, exec c s = .next t ∧ s.retriesOrGivesUp t ∧ t.lc.inFlight = none ∧ t.lc.vetoCount = 0 ∧
          t.lc.counters.framesAccepted = bump s.lc.counters.framesAccepted ∧
          (s.ru.state = .syncing → (∀ p, f.frame.notice ≠ .snapshot p) → t.et.lineCount = s.countAtAcceptance))

/-- A pulse timer stops at its end; a flasher passes to its other phase. A reference PRESENCE adds one to each alignment
count, and restarts the flasher whose count reaches the smallest k with k × P at least its cycle. That it also restarts one whose
count is past that interval, as a count kept across a PROFILE LOAD that raises P can be, is the model's choice (log entry 39). A
PRESENCE of a station other than the reference, one with an undefined field or with another profile digest, and any PRESENCE at a
station that applies no frame leave both flashers. -/
def Obligations.PulsesEndAndFlashersTurnAndAlign : Prop :=
  ∀ s : State, s.OutputsOk →
    (∀ o : OutputId, s.ou.pulses[o] ≠ none →
      ∃ t, exec (.pulseTimerExpiry o) s = .next t ∧ t = { s with ou := { s.ou with pulses := t.ou.pulses, pins := t.ou.pins } } ∧
        t.ou.pulses[o] = none ∧ ∀ k : OutputId, k ≠ o → t.ou.pulses[k] = s.ou.pulses[k]) ∧
    (∃ t, exec (.flasherPhaseChange .fast) s = .next t ∧
      t = { s with ou := { s.ou with fast := { s.ou.fast with on := !s.ou.fast.on, remaining := 250 }, pins := t.ou.pins } }) ∧
    (∃ t, exec (.flasherPhaseChange .slow) s = .next t ∧
      t = { s with ou := { s.ou with slow := { s.ou.slow with on := !s.ou.slow.on, remaining := 1000 }, pins := t.ou.pins } }) ∧
    (∀ (sender : StationId) (p : PresencePayload), s.receives → s.applies = true → s.reference = some sender →
      presenceMeaning p ≠ none → p.profileDigest = s.cs.profileDigest → 0 < s.presenceMs →
      ∃ t, exec (.presenceAccepted sender p) s = .next t ∧
        t.ou.fast = (if 500 ≤ (s.ou.fast.alignment + 1) * s.presenceMs then { on := true, remaining := 250, alignment := 0 }
          else { s.ou.fast with alignment := s.ou.fast.alignment + 1 }) ∧
        t.ou.slow = (if 2000 ≤ (s.ou.slow.alignment + 1) * s.presenceMs then { on := true, remaining := 1000, alignment := 0 }
          else { s.ou.slow with alignment := s.ou.slow.alignment + 1 })) ∧
    (∀ (sender : StationId) (p : PresencePayload), s.receives →
      (s.reference ≠ some sender ∨ s.applies = false ∨ presenceMeaning p = none ∨ p.profileDigest ≠ s.cs.profileDigest) →
      ∃ t, exec (.presenceAccepted sender p) s = .next t ∧ t.ou.fast = s.ou.fast ∧ t.ou.slow = s.ou.slow)

/-- At its expiry the prompt timer releases ATTN for 1 ms and restarts; at the end of the release ATTN is asserted again while
the queue holds an item, and a timer that stopped meanwhile starts. -/
def Obligations.PromptReleasesAttnForOneMillisecond : Prop :=
  ∀ s : State,
    (s.lp.promptTimer ≠ none →
      exec .promptTimerExpiry s =
        .next { s with lp := { s.lp with attn := false, releaseTimer := some 1, promptTimer := s.promptPeriod } }) ∧
    (s.lp.releaseTimer ≠ none → (s.lp.records ≠ [] ∨ s.lp.marker ≠ none) →
      exec .attnReleaseEnd s =
        .next { s with lp := { s.lp with
          attn := true, releaseTimer := none,
          promptTimer := if s.lp.promptTimer = none then s.promptPeriod else s.lp.promptTimer } }) ∧
    (s.lp.releaseTimer ≠ none → s.lp.records = [] → s.lp.marker = none →
      exec .attnReleaseEnd s = .next { s with lp := { s.lp with releaseTimer := none } })

/-! ## Trip state, outputs and reports -/

/-- After every step the trip set is what R63, R66 and R68 make of the state reached; that this holds at events R64 does not
list, a founding among them, is the reading of log entry 19. -/
def Obligations.TripReasonsFollowTheState : Prop :=
  ∀ s t : State, s.OutputsOk → step s = .next t →
    (t.ou.trip.table = true ↔
      ∃ (i : EntryIndex) (c : CategoryId) (f : Profile), (t.entry i).phase ≠ .quiet ∧ (t.entry i).category = some c ∧
        t.cs.profile = some f ∧ (f.categories[c] : Category).trip = true) ∧
    (t.ou.trip.ownPoint = true ↔
      ∃ (q : PointId) (u : Setup) (f : Profile), t.cs.setup = some u ∧ (u.points[q] : PointSetup).source ≠ .unused ∧
        (t.point q).qualified = .active ∧ t.cs.profile = some f ∧
        (f.categories[(u.points[q] : PointSetup).category] : Category).trip = true) ∧
    (t.ou.trip.uncertain = true ↔
      t.cs.setup ≠ none ∧ (t.ru.state = .listening ∨ t.ru.state = .joining ∨ t.ru.state = .syncing ∨
        t.ru.state = .leaving ∨ t.ru.state = .offline ∨ t.ru.state = .refused ∨
        (t.ru.state = .muted ∧ (t.ru.entryState = some .joining ∨ t.ru.entryState = some .syncing))))

/-- After every step each pin stands as R74, R77, R78, R81, R84 and R86 make it of the state reached: undriven without rules,
else the output value through the polarity; no pulse timer runs where the modes do not count. -/
def Obligations.PinsFollowTheState : Prop :=
  ∀ (s t : State) (o : OutputId), s.OutputsOk → step s = .next t →
    (t.cs.setup = none → t.ou.pins[o] = .undriven) ∧ (t.modesCount = false → t.ou.pulses[o] = none) ∧
    ∀ u : Setup, t.cs.setup = some u →
      let r : OutputRule := u.rules[o]
      let matched : EntryIndex → Prop := fun i =>
        t.entry i ≠ Entry.pristine ∧ r.origins.getLsbD (i.1 / 16) = true ∧
          (∃ c, (t.entry i).category = some c ∧ r.categories.getLsbD c.1 = true) ∧
          ((t.entry i).orphaned = false ∨ r.includeOrphaned = true)
      let some_ : (Entry → Prop) → Prop := fun q => ∃ i, matched i ∧ q (t.entry i)
      let modeOn : Prop :=
        match r.mode with
        | .off => False
        | .level => (r.basis = .condition ∧ some_ (·.condition = .active)) ∨ (r.basis = .phase ∧ some_ (·.phase ≠ .quiet))
        | .annunciate =>
          (some_ (·.phase = .raised) ∧ t.ou.fast.on = true) ∨
          (¬some_ (·.phase = .raised) ∧ some_ (·.phase = .lapsed) ∧ t.ou.slow.on = true) ∨
          (¬some_ (·.phase = .raised) ∧ ¬some_ (·.phase = .lapsed) ∧ some_ (·.phase = .held))
        | .audible => some_ fun e => (e.phase = .raised ∨ e.phase = .lapsed) ∧ later e.raiseStamp t.ou.silenceMark = true
        | .pulse => t.ou.pulses[o] ≠ none
      let counts : Prop := t.ru.state = .member ∨ (t.ru.state = .muted ∧ t.ru.entryState = some .member)
      let tripped : Prop := t.ou.trip ≠ TripReasons.clear
      let on : Prop :=
        (r.tripForcing = true ∧ (tripped ∨ ¬counts) ∧ r.safeOn = true) ∨
        (counts ∧ (r.tripForcing = false ∨ ¬tripped) ∧ modeOn)
      (t.ou.pins[o] = .high ↔ (on ↔ r.activeLow = false)) ∧ (t.ou.pins[o] = .low ↔ ¬(on ↔ r.activeLow = false))

/-- An event other than a hardware reset that changes the own state or the trip set pushes exactly one STATION record, and
pushes it last; an event that leaves both pushes none. The completion of a NOTIFY READ, which removes the head, pushes nothing
and changes neither. That a later JOIN attempt which changes the trip set is such an event is the model's choice between two
rules (log entry 20). -/
def Obligations.StationRecordReportsEachChange : Prop :=
  ∀ (c : Instr) (s : State), (∀ ids, c ≠ .hardwareReset ids) →
    ∃ t, exec c s = .next t ∧
      (let changed : Prop := t.ru.state ≠ s.ru.state ∨ t.ou.trip ≠ s.ou.trip
       let report : Record := .station t.ru.state t.ru.refusal t.ou.trip
       (changed → t.lp.marker ≠ none ∨ t.lp.records.getLast? = some report) ∧
       (c ≠ .notifyReadComplete →
        (changed → s.pushes t Record.isStation [report]) ∧ (¬changed → s.pushes t Record.isStation [])) ∧
       (c = .notifyReadComplete →
        ¬changed ∧ (t.lp.records = s.lp.records ∨ ∃ head, s.lp.records = head :: t.lp.records)))

/-! ## Invariants -/

/-- The state after reset satisfies every invariant. -/
def Obligations.ResetStateIsSound : Prop := State.reset.Sound

/-- Every step keeps the notification queue's form, ATTN and the prompt timer as R169 to R174 give them. -/
def Obligations.EveryStepKeepsTheLocalPort : Prop :=
  ∀ s t : State, s.PortOk → step s = .next t → t.PortOk

/-- From a sound state every step leads to a sound state. -/
def Obligations.EveryStepKeepsSoundness : Prop :=
  ∀ s t : State, s.Sound → step s = .next t → t.Sound
end

