-- ==== Sys2Proof/Laws/State.lean ====
section
/-! SUPPORT. One lemma per field per update of State, true by rfl, so that no proof unfolds a record update; and the
lemmas of `vset` and `vmap`. -/

namespace Sys2Proof.Machine

section Updates
variable (s : State)
@[simp] theorem State.onCs_cs (f : ConfigStore → ConfigStore) : (s.onCs f).cs = f s.cs := rfl
@[simp] theorem State.onCs_et (f : ConfigStore → ConfigStore) : (s.onCs f).et = s.et := rfl
@[simp] theorem State.onCs_ru (f : ConfigStore → ConfigStore) : (s.onCs f).ru = s.ru := rfl
@[simp] theorem State.onCs_pu (f : ConfigStore → ConfigStore) : (s.onCs f).pu = s.pu := rfl
@[simp] theorem State.onCs_sq (f : ConfigStore → ConfigStore) : (s.onCs f).sq = s.sq := rfl
@[simp] theorem State.onCs_lc (f : ConfigStore → ConfigStore) : (s.onCs f).lc = s.lc := rfl
@[simp] theorem State.onCs_ou (f : ConfigStore → ConfigStore) : (s.onCs f).ou = s.ou := rfl
@[simp] theorem State.onCs_lp (f : ConfigStore → ConfigStore) : (s.onCs f).lp = s.lp := rfl
@[simp] theorem State.onCs_pending (f : ConfigStore → ConfigStore) : (s.onCs f).pending = s.pending := rfl
@[simp] theorem State.onCs_freeCount (f : ConfigStore → ConfigStore) : (s.onCs f).freeCount = s.freeCount := rfl

@[simp] theorem State.onEt_cs (f : EventTable → EventTable) : (s.onEt f).cs = s.cs := rfl
@[simp] theorem State.onEt_et (f : EventTable → EventTable) : (s.onEt f).et = f s.et := rfl
@[simp] theorem State.onEt_ru (f : EventTable → EventTable) : (s.onEt f).ru = s.ru := rfl
@[simp] theorem State.onEt_pu (f : EventTable → EventTable) : (s.onEt f).pu = s.pu := rfl
@[simp] theorem State.onEt_sq (f : EventTable → EventTable) : (s.onEt f).sq = s.sq := rfl
@[simp] theorem State.onEt_lc (f : EventTable → EventTable) : (s.onEt f).lc = s.lc := rfl
@[simp] theorem State.onEt_ou (f : EventTable → EventTable) : (s.onEt f).ou = s.ou := rfl
@[simp] theorem State.onEt_lp (f : EventTable → EventTable) : (s.onEt f).lp = s.lp := rfl
@[simp] theorem State.onEt_pending (f : EventTable → EventTable) : (s.onEt f).pending = s.pending := rfl
@[simp] theorem State.onEt_freeCount (f : EventTable → EventTable) : (s.onEt f).freeCount = s.freeCount := rfl

@[simp] theorem State.onRu_cs (f : RosterUnit → RosterUnit) : (s.onRu f).cs = s.cs := rfl
@[simp] theorem State.onRu_et (f : RosterUnit → RosterUnit) : (s.onRu f).et = s.et := rfl
@[simp] theorem State.onRu_ru (f : RosterUnit → RosterUnit) : (s.onRu f).ru = f s.ru := rfl
@[simp] theorem State.onRu_pu (f : RosterUnit → RosterUnit) : (s.onRu f).pu = s.pu := rfl
@[simp] theorem State.onRu_sq (f : RosterUnit → RosterUnit) : (s.onRu f).sq = s.sq := rfl
@[simp] theorem State.onRu_lc (f : RosterUnit → RosterUnit) : (s.onRu f).lc = s.lc := rfl
@[simp] theorem State.onRu_ou (f : RosterUnit → RosterUnit) : (s.onRu f).ou = s.ou := rfl
@[simp] theorem State.onRu_lp (f : RosterUnit → RosterUnit) : (s.onRu f).lp = s.lp := rfl
@[simp] theorem State.onRu_pending (f : RosterUnit → RosterUnit) : (s.onRu f).pending = s.pending := rfl
@[simp] theorem State.onRu_freeCount (f : RosterUnit → RosterUnit) : (s.onRu f).freeCount = s.freeCount := rfl

@[simp] theorem State.onPu_cs (f : Vector PointRecord 16 → Vector PointRecord 16) : (s.onPu f).cs = s.cs := rfl
@[simp] theorem State.onPu_et (f : Vector PointRecord 16 → Vector PointRecord 16) : (s.onPu f).et = s.et := rfl
@[simp] theorem State.onPu_ru (f : Vector PointRecord 16 → Vector PointRecord 16) : (s.onPu f).ru = s.ru := rfl
@[simp] theorem State.onPu_pu (f : Vector PointRecord 16 → Vector PointRecord 16) : (s.onPu f).pu = f s.pu := rfl
@[simp] theorem State.onPu_sq (f : Vector PointRecord 16 → Vector PointRecord 16) : (s.onPu f).sq = s.sq := rfl
@[simp] theorem State.onPu_lc (f : Vector PointRecord 16 → Vector PointRecord 16) : (s.onPu f).lc = s.lc := rfl
@[simp] theorem State.onPu_ou (f : Vector PointRecord 16 → Vector PointRecord 16) : (s.onPu f).ou = s.ou := rfl
@[simp] theorem State.onPu_lp (f : Vector PointRecord 16 → Vector PointRecord 16) : (s.onPu f).lp = s.lp := rfl
@[simp] theorem State.onPu_pending (f : Vector PointRecord 16 → Vector PointRecord 16) : (s.onPu f).pending = s.pending := rfl
@[simp] theorem State.onPu_freeCount (f : Vector PointRecord 16 → Vector PointRecord 16) : (s.onPu f).freeCount = s.freeCount := rfl

@[simp] theorem State.onSq_cs (f : SendQueue → SendQueue) : (s.onSq f).cs = s.cs := rfl
@[simp] theorem State.onSq_et (f : SendQueue → SendQueue) : (s.onSq f).et = s.et := rfl
@[simp] theorem State.onSq_ru (f : SendQueue → SendQueue) : (s.onSq f).ru = s.ru := rfl
@[simp] theorem State.onSq_pu (f : SendQueue → SendQueue) : (s.onSq f).pu = s.pu := rfl
@[simp] theorem State.onSq_sq (f : SendQueue → SendQueue) : (s.onSq f).sq = f s.sq := rfl
@[simp] theorem State.onSq_lc (f : SendQueue → SendQueue) : (s.onSq f).lc = s.lc := rfl
@[simp] theorem State.onSq_ou (f : SendQueue → SendQueue) : (s.onSq f).ou = s.ou := rfl
@[simp] theorem State.onSq_lp (f : SendQueue → SendQueue) : (s.onSq f).lp = s.lp := rfl
@[simp] theorem State.onSq_pending (f : SendQueue → SendQueue) : (s.onSq f).pending = s.pending := rfl
@[simp] theorem State.onSq_freeCount (f : SendQueue → SendQueue) : (s.onSq f).freeCount = s.freeCount := rfl

@[simp] theorem State.onLc_cs (f : LineControl → LineControl) : (s.onLc f).cs = s.cs := rfl
@[simp] theorem State.onLc_et (f : LineControl → LineControl) : (s.onLc f).et = s.et := rfl
@[simp] theorem State.onLc_ru (f : LineControl → LineControl) : (s.onLc f).ru = s.ru := rfl
@[simp] theorem State.onLc_pu (f : LineControl → LineControl) : (s.onLc f).pu = s.pu := rfl
@[simp] theorem State.onLc_sq (f : LineControl → LineControl) : (s.onLc f).sq = s.sq := rfl
@[simp] theorem State.onLc_lc (f : LineControl → LineControl) : (s.onLc f).lc = f s.lc := rfl
@[simp] theorem State.onLc_ou (f : LineControl → LineControl) : (s.onLc f).ou = s.ou := rfl
@[simp] theorem State.onLc_lp (f : LineControl → LineControl) : (s.onLc f).lp = s.lp := rfl
@[simp] theorem State.onLc_pending (f : LineControl → LineControl) : (s.onLc f).pending = s.pending := rfl
@[simp] theorem State.onLc_freeCount (f : LineControl → LineControl) : (s.onLc f).freeCount = s.freeCount := rfl

@[simp] theorem State.onOu_cs (f : OutputUnit → OutputUnit) : (s.onOu f).cs = s.cs := rfl
@[simp] theorem State.onOu_et (f : OutputUnit → OutputUnit) : (s.onOu f).et = s.et := rfl
@[simp] theorem State.onOu_ru (f : OutputUnit → OutputUnit) : (s.onOu f).ru = s.ru := rfl
@[simp] theorem State.onOu_pu (f : OutputUnit → OutputUnit) : (s.onOu f).pu = s.pu := rfl
@[simp] theorem State.onOu_sq (f : OutputUnit → OutputUnit) : (s.onOu f).sq = s.sq := rfl
@[simp] theorem State.onOu_lc (f : OutputUnit → OutputUnit) : (s.onOu f).lc = s.lc := rfl
@[simp] theorem State.onOu_ou (f : OutputUnit → OutputUnit) : (s.onOu f).ou = f s.ou := rfl
@[simp] theorem State.onOu_lp (f : OutputUnit → OutputUnit) : (s.onOu f).lp = s.lp := rfl
@[simp] theorem State.onOu_pending (f : OutputUnit → OutputUnit) : (s.onOu f).pending = s.pending := rfl
@[simp] theorem State.onOu_freeCount (f : OutputUnit → OutputUnit) : (s.onOu f).freeCount = s.freeCount := rfl

@[simp] theorem State.onLp_cs (f : LocalPort → LocalPort) : (s.onLp f).cs = s.cs := rfl
@[simp] theorem State.onLp_et (f : LocalPort → LocalPort) : (s.onLp f).et = s.et := rfl
@[simp] theorem State.onLp_ru (f : LocalPort → LocalPort) : (s.onLp f).ru = s.ru := rfl
@[simp] theorem State.onLp_pu (f : LocalPort → LocalPort) : (s.onLp f).pu = s.pu := rfl
@[simp] theorem State.onLp_sq (f : LocalPort → LocalPort) : (s.onLp f).sq = s.sq := rfl
@[simp] theorem State.onLp_lc (f : LocalPort → LocalPort) : (s.onLp f).lc = s.lc := rfl
@[simp] theorem State.onLp_ou (f : LocalPort → LocalPort) : (s.onLp f).ou = s.ou := rfl
@[simp] theorem State.onLp_lp (f : LocalPort → LocalPort) : (s.onLp f).lp = f s.lp := rfl
@[simp] theorem State.onLp_pending (f : LocalPort → LocalPort) : (s.onLp f).pending = s.pending := rfl
@[simp] theorem State.onLp_freeCount (f : LocalPort → LocalPort) : (s.onLp f).freeCount = s.freeCount := rfl

@[simp] theorem State.drawFree_cs : s.drawFree.cs = s.cs := rfl
@[simp] theorem State.drawFree_et : s.drawFree.et = s.et := rfl
@[simp] theorem State.drawFree_ru : s.drawFree.ru = s.ru := rfl
@[simp] theorem State.drawFree_pu : s.drawFree.pu = s.pu := rfl
@[simp] theorem State.drawFree_sq : s.drawFree.sq = s.sq := rfl
@[simp] theorem State.drawFree_lc : s.drawFree.lc = s.lc := rfl
@[simp] theorem State.drawFree_ou : s.drawFree.ou = s.ou := rfl
@[simp] theorem State.drawFree_lp : s.drawFree.lp = s.lp := rfl
@[simp] theorem State.drawFree_pending : s.drawFree.pending = s.pending := rfl
@[simp] theorem State.drawFree_freeCount : s.drawFree.freeCount = s.freeCount + 1 := rfl

@[simp] theorem State.setEntry_cs (i : EntryIndex) (e : Entry) :
    (s.setEntry i e).cs = s.cs := rfl
@[simp] theorem State.setEntry_et (i : EntryIndex) (e : Entry) :
    (s.setEntry i e).et = { s.et with table := vset s.et.table i e } := rfl
@[simp] theorem State.setEntry_ru (i : EntryIndex) (e : Entry) :
    (s.setEntry i e).ru = s.ru := rfl
@[simp] theorem State.setEntry_pu (i : EntryIndex) (e : Entry) :
    (s.setEntry i e).pu = s.pu := rfl
@[simp] theorem State.setEntry_sq (i : EntryIndex) (e : Entry) :
    (s.setEntry i e).sq = s.sq := rfl
@[simp] theorem State.setEntry_lc (i : EntryIndex) (e : Entry) :
    (s.setEntry i e).lc = s.lc := rfl
@[simp] theorem State.setEntry_ou (i : EntryIndex) (e : Entry) :
    (s.setEntry i e).ou = s.ou := rfl
@[simp] theorem State.setEntry_lp (i : EntryIndex) (e : Entry) :
    (s.setEntry i e).lp = s.lp := rfl
@[simp] theorem State.setEntry_pending (i : EntryIndex) (e : Entry) :
    (s.setEntry i e).pending = s.pending := rfl
@[simp] theorem State.setEntry_freeCount (i : EntryIndex) (e : Entry) :
    (s.setEntry i e).freeCount = s.freeCount := rfl

@[simp] theorem State.onPoint_cs (p : PointId) (g : PointRecord → PointRecord) :
    (s.onPoint p g).cs = s.cs := rfl
@[simp] theorem State.onPoint_et (p : PointId) (g : PointRecord → PointRecord) :
    (s.onPoint p g).et = s.et := rfl
@[simp] theorem State.onPoint_ru (p : PointId) (g : PointRecord → PointRecord) :
    (s.onPoint p g).ru = s.ru := rfl
@[simp] theorem State.onPoint_pu (p : PointId) (g : PointRecord → PointRecord) :
    (s.onPoint p g).pu = vset s.pu p (g s.pu[p]) := rfl
@[simp] theorem State.onPoint_sq (p : PointId) (g : PointRecord → PointRecord) :
    (s.onPoint p g).sq = s.sq := rfl
@[simp] theorem State.onPoint_lc (p : PointId) (g : PointRecord → PointRecord) :
    (s.onPoint p g).lc = s.lc := rfl
@[simp] theorem State.onPoint_ou (p : PointId) (g : PointRecord → PointRecord) :
    (s.onPoint p g).ou = s.ou := rfl
@[simp] theorem State.onPoint_lp (p : PointId) (g : PointRecord → PointRecord) :
    (s.onPoint p g).lp = s.lp := rfl
@[simp] theorem State.onPoint_pending (p : PointId) (g : PointRecord → PointRecord) :
    (s.onPoint p g).pending = s.pending := rfl
@[simp] theorem State.onPoint_freeCount (p : PointId) (g : PointRecord → PointRecord) :
    (s.onPoint p g).freeCount = s.freeCount := rfl

@[simp] theorem State.onPoints_cs (g : PointId → PointRecord → PointRecord) :
    (s.onPoints g).cs = s.cs := rfl
@[simp] theorem State.onPoints_et (g : PointId → PointRecord → PointRecord) :
    (s.onPoints g).et = s.et := rfl
@[simp] theorem State.onPoints_ru (g : PointId → PointRecord → PointRecord) :
    (s.onPoints g).ru = s.ru := rfl
@[simp] theorem State.onPoints_pu (g : PointId → PointRecord → PointRecord) :
    (s.onPoints g).pu = vmap g s.pu := rfl
@[simp] theorem State.onPoints_sq (g : PointId → PointRecord → PointRecord) :
    (s.onPoints g).sq = s.sq := rfl
@[simp] theorem State.onPoints_lc (g : PointId → PointRecord → PointRecord) :
    (s.onPoints g).lc = s.lc := rfl
@[simp] theorem State.onPoints_ou (g : PointId → PointRecord → PointRecord) :
    (s.onPoints g).ou = s.ou := rfl
@[simp] theorem State.onPoints_lp (g : PointId → PointRecord → PointRecord) :
    (s.onPoints g).lp = s.lp := rfl
@[simp] theorem State.onPoints_pending (g : PointId → PointRecord → PointRecord) :
    (s.onPoints g).pending = s.pending := rfl
@[simp] theorem State.onPoints_freeCount (g : PointId → PointRecord → PointRecord) :
    (s.onPoints g).freeCount = s.freeCount := rfl

@[simp] theorem State.onRecord_cs (t : StationId) (g : RosterRecord → RosterRecord) :
    (s.onRecord t g).cs = s.cs := rfl
@[simp] theorem State.onRecord_et (t : StationId) (g : RosterRecord → RosterRecord) :
    (s.onRecord t g).et = s.et := rfl
@[simp] theorem State.onRecord_ru (t : StationId) (g : RosterRecord → RosterRecord) :
    (s.onRecord t g).ru = { s.ru with roster := vset s.ru.roster t (g s.ru.roster[t]) } := rfl
@[simp] theorem State.onRecord_pu (t : StationId) (g : RosterRecord → RosterRecord) :
    (s.onRecord t g).pu = s.pu := rfl
@[simp] theorem State.onRecord_sq (t : StationId) (g : RosterRecord → RosterRecord) :
    (s.onRecord t g).sq = s.sq := rfl
@[simp] theorem State.onRecord_lc (t : StationId) (g : RosterRecord → RosterRecord) :
    (s.onRecord t g).lc = s.lc := rfl
@[simp] theorem State.onRecord_ou (t : StationId) (g : RosterRecord → RosterRecord) :
    (s.onRecord t g).ou = s.ou := rfl
@[simp] theorem State.onRecord_lp (t : StationId) (g : RosterRecord → RosterRecord) :
    (s.onRecord t g).lp = s.lp := rfl
@[simp] theorem State.onRecord_pending (t : StationId) (g : RosterRecord → RosterRecord) :
    (s.onRecord t g).pending = s.pending := rfl
@[simp] theorem State.onRecord_freeCount (t : StationId) (g : RosterRecord → RosterRecord) :
    (s.onRecord t g).freeCount = s.freeCount := rfl

@[simp] theorem State.onCounters_cs (g : Counters → Counters) :
    (s.onCounters g).cs = s.cs := rfl
@[simp] theorem State.onCounters_et (g : Counters → Counters) :
    (s.onCounters g).et = s.et := rfl
@[simp] theorem State.onCounters_ru (g : Counters → Counters) :
    (s.onCounters g).ru = s.ru := rfl
@[simp] theorem State.onCounters_pu (g : Counters → Counters) :
    (s.onCounters g).pu = s.pu := rfl
@[simp] theorem State.onCounters_sq (g : Counters → Counters) :
    (s.onCounters g).sq = s.sq := rfl
@[simp] theorem State.onCounters_lc (g : Counters → Counters) :
    (s.onCounters g).lc = { s.lc with counters := g s.lc.counters } := rfl
@[simp] theorem State.onCounters_ou (g : Counters → Counters) :
    (s.onCounters g).ou = s.ou := rfl
@[simp] theorem State.onCounters_lp (g : Counters → Counters) :
    (s.onCounters g).lp = s.lp := rfl
@[simp] theorem State.onCounters_pending (g : Counters → Counters) :
    (s.onCounters g).pending = s.pending := rfl
@[simp] theorem State.onCounters_freeCount (g : Counters → Counters) :
    (s.onCounters g).freeCount = s.freeCount := rfl

end Updates

/-! ## Vectors -/

@[simp] theorem vset_get {α : Type} {n : Nat} (v : Vector α n) (i : Fin n) (a : α) (k : Nat) (h : k < n) :
    (vset v i a)[k] = if i.1 = k then a else v[k] := by
  simp [vset, Vector.getElem_set]

@[simp] theorem vmap_get {α β : Type} {n : Nat} (f : Fin n → α → β) (v : Vector α n) (k : Nat) (h : k < n) :
    (vmap f v)[k] = f ⟨k, h⟩ v[k] := by
  simp [vmap]

theorem vset_self {α : Type} {n : Nat} (v : Vector α n) (i : Fin n) (a : α) : (vset v i a)[i] = a := by simp

theorem vset_other {α : Type} {n : Nat} (v : Vector α n) (i j : Fin n) (a : α) (h : j ≠ i) : (vset v i a)[j] = v[j] := by
  have : i.1 ≠ j.1 := fun e => h (Fin.ext e.symm)
  simp [this]

/-! ## Entries, points and records after an update -/

@[simp] theorem State.entry_setEntry_self (s : State) (i : EntryIndex) (e : Entry) : (s.setEntry i e).entry i = e :=
  vset_self s.et.table i e

theorem State.entry_setEntry_other (s : State) (i j : EntryIndex) (e : Entry) (h : j ≠ i) :
    (s.setEntry i e).entry j = s.entry j := vset_other s.et.table i j e h

@[simp] theorem State.point_onPoint_self (s : State) (p : PointId) (g : PointRecord → PointRecord) :
    (s.onPoint p g).point p = g (s.point p) := vset_self s.pu p (g s.pu[p])

theorem State.point_onPoint_other (s : State) (p q : PointId) (g : PointRecord → PointRecord) (h : q ≠ p) :
    (s.onPoint p g).point q = s.point q := vset_other s.pu p q (g s.pu[p]) h

@[simp] theorem State.point_onPoints (s : State) (p : PointId) (g : PointId → PointRecord → PointRecord) :
    (s.onPoints g).point p = g p (s.point p) := by
  simp [State.point]

@[simp] theorem State.record_onRecord_self (s : State) (t : StationId) (g : RosterRecord → RosterRecord) :
    (s.onRecord t g).record t = g (s.record t) := vset_self s.ru.roster t (g s.ru.roster[t])

theorem State.record_onRecord_other (s : State) (t u : StationId) (g : RosterRecord → RosterRecord) (h : u ≠ t) :
    (s.onRecord t g).record u = s.record u := vset_other s.ru.roster t u (g s.ru.roster[t]) h

end Sys2Proof.Machine
end

