-- ==== Sys2Proof/Laws/Frames.lean ====
section
/-! SUPPORT. What each named operation leaves alone: one lemma per operation, a conjunction of one equation per block it
does not touch, which simp takes apart. -/

namespace Sys2Proof.Machine

/-- What every step of a fold keeps, the fold keeps. -/
theorem State.foldl_keeps {α β : Type} (field : State → β) (step : State → α → State)
    (keeps : ∀ u a, field (step u a) = field u) :
    ∀ (items : List α) (start : State), field (items.foldl step start) = field start
  | [], _ => rfl
  | a :: rest, start => (State.foldl_keeps field step keeps rest (step start a)).trans (keeps start a)

@[simp] theorem State.answer_frame (s : State) (r : ResultCode) (l : List Byte) :
    (s.answer r l).cs = s.cs ∧ (s.answer r l).et = s.et ∧ (s.answer r l).ru = s.ru ∧ (s.answer r l).pu = s.pu ∧
    (s.answer r l).sq = s.sq ∧ (s.answer r l).lc = s.lc ∧ (s.answer r l).ou = s.ou ∧
    (s.answer r l).pending = s.pending ∧ (s.answer r l).freeCount = s.freeCount := by
  and_intros <;> simp only [State.answer] <;> simp

@[simp] theorem State.push_frame (s : State) (r : Record) :
    (s.push r).cs = s.cs ∧ (s.push r).et = s.et ∧ (s.push r).ru = s.ru ∧ (s.push r).pu = s.pu ∧
    (s.push r).sq = s.sq ∧ (s.push r).lc = s.lc ∧ (s.push r).ou = s.ou ∧ (s.push r).pending = s.pending ∧
    (s.push r).freeCount = s.freeCount := by
  and_intros <;> simp only [State.push] <;> simp

@[simp] theorem State.pushEntry_frame (s : State) (i : EntryIndex) (c : EntryCause) :
    (s.pushEntry i c).cs = s.cs ∧ (s.pushEntry i c).et = s.et ∧ (s.pushEntry i c).ru = s.ru ∧
    (s.pushEntry i c).pu = s.pu ∧ (s.pushEntry i c).sq = s.sq ∧ (s.pushEntry i c).lc = s.lc ∧
    (s.pushEntry i c).ou = s.ou ∧ (s.pushEntry i c).pending = s.pending ∧ (s.pushEntry i c).freeCount = s.freeCount := by
  and_intros <;> simp only [State.pushEntry] <;> (repeat' split) <;> simp

@[simp] theorem State.enqueue_frame (s : State) (k : ItemKind) (c : Fin 4) :
    (s.enqueue k c).cs = s.cs ∧ (s.enqueue k c).et = s.et ∧ (s.enqueue k c).ru = s.ru ∧ (s.enqueue k c).pu = s.pu ∧
    (s.enqueue k c).lc = s.lc ∧ (s.enqueue k c).ou = s.ou ∧ (s.enqueue k c).lp = s.lp ∧
    (s.enqueue k c).pending = s.pending ∧ (s.enqueue k c).freeCount = s.freeCount := by
  and_intros <;> simp only [State.enqueue] <;> simp

@[simp] theorem State.requestPresence_frame (s : State) :
    (s.requestPresence).cs = s.cs ∧ (s.requestPresence).et = s.et ∧ (s.requestPresence).ru = s.ru ∧
    (s.requestPresence).pu = s.pu ∧ (s.requestPresence).lc = s.lc ∧ (s.requestPresence).ou = s.ou ∧
    (s.requestPresence).lp = s.lp ∧ (s.requestPresence).pending = s.pending ∧
    (s.requestPresence).freeCount = s.freeCount := by
  and_intros <;> simp only [State.requestPresence] <;> (repeat' split) <;> simp

@[simp] theorem State.requestLost_frame (s : State) (t : StationId) :
    (s.requestLost t).cs = s.cs ∧ (s.requestLost t).et = s.et ∧ (s.requestLost t).ru = s.ru ∧
    (s.requestLost t).pu = s.pu ∧ (s.requestLost t).lc = s.lc ∧ (s.requestLost t).ou = s.ou ∧
    (s.requestLost t).lp = s.lp ∧ (s.requestLost t).pending = s.pending ∧ (s.requestLost t).freeCount = s.freeCount := by
  and_intros <;> simp only [State.requestLost] <;> (repeat' split) <;> simp

@[simp] theorem State.requestSnapshot_frame (s : State) :
    (s.requestSnapshot).cs = s.cs ∧ (s.requestSnapshot).et = s.et ∧ (s.requestSnapshot).ru = s.ru ∧
    (s.requestSnapshot).pu = s.pu ∧ (s.requestSnapshot).lc = s.lc ∧ (s.requestSnapshot).ou = s.ou ∧
    (s.requestSnapshot).lp = s.lp ∧ (s.requestSnapshot).pending = s.pending ∧
    (s.requestSnapshot).freeCount = s.freeCount := by
  and_intros <;> simp only [State.requestSnapshot] <;> (repeat' split) <;> simp

@[simp] theorem State.replaceJoin_frame (s : State) (m : JoinMode) :
    (s.replaceJoin m).cs = s.cs ∧ (s.replaceJoin m).et = s.et ∧ (s.replaceJoin m).ru = s.ru ∧
    (s.replaceJoin m).pu = s.pu ∧ (s.replaceJoin m).lc = s.lc ∧ (s.replaceJoin m).ou = s.ou ∧
    (s.replaceJoin m).lp = s.lp ∧ (s.replaceJoin m).pending = s.pending ∧ (s.replaceJoin m).freeCount = s.freeCount := by
  and_intros <;> simp only [State.replaceJoin] <;> simp

@[simp] theorem State.withdraw_frame (s : State) (k : ItemKind → Bool) :
    (s.withdraw k).cs = s.cs ∧ (s.withdraw k).et = s.et ∧ (s.withdraw k).ru = s.ru ∧ (s.withdraw k).pu = s.pu ∧
    (s.withdraw k).lc = s.lc ∧ (s.withdraw k).ou = s.ou ∧ (s.withdraw k).lp = s.lp ∧
    (s.withdraw k).pending = s.pending ∧ (s.withdraw k).freeCount = s.freeCount := by
  and_intros <;> simp only [State.withdraw] <;> simp

@[simp] theorem State.reportRemoved_frame (s : State) (x : Item) :
    (s.reportRemoved x).cs = s.cs ∧ (s.reportRemoved x).et = s.et ∧ (s.reportRemoved x).ru = s.ru ∧
    (s.reportRemoved x).sq = s.sq ∧ (s.reportRemoved x).lc = s.lc ∧ (s.reportRemoved x).ou = s.ou ∧
    (s.reportRemoved x).pending = s.pending ∧ (s.reportRemoved x).freeCount = s.freeCount := by
  and_intros <;> unfold State.reportRemoved <;> (repeat' split) <;> simp

@[simp] theorem State.removeItems_frame (s : State) (k : ItemKind → Bool) :
    (s.removeItems k).cs = s.cs ∧ (s.removeItems k).et = s.et ∧ (s.removeItems k).ru = s.ru ∧
    (s.removeItems k).lc = s.lc ∧ (s.removeItems k).ou = s.ou ∧ (s.removeItems k).pending = s.pending ∧
    (s.removeItems k).freeCount = s.freeCount := by
  and_intros <;> unfold State.removeItems
  · exact (State.foldl_keeps State.cs _ (fun u x => by simp) _ _).trans (by simp)
  · exact (State.foldl_keeps State.et _ (fun u x => by simp) _ _).trans (by simp)
  · exact (State.foldl_keeps State.ru _ (fun u x => by simp) _ _).trans (by simp)
  · exact (State.foldl_keeps State.lc _ (fun u x => by simp) _ _).trans (by simp)
  · exact (State.foldl_keeps State.ou _ (fun u x => by simp) _ _).trans (by simp)
  · exact (State.foldl_keeps State.pending _ (fun u x => by simp) _ _).trans (by simp)
  · exact (State.foldl_keeps State.freeCount _ (fun u x => by simp) _ _).trans (by simp)

@[simp] theorem State.dropItem_frame (s : State) (x : Item) :
    (s.dropItem x).cs = s.cs ∧ (s.dropItem x).et = s.et ∧ (s.dropItem x).ru = s.ru ∧ (s.dropItem x).pu = s.pu ∧
    (s.dropItem x).lc = s.lc ∧ (s.dropItem x).ou = s.ou ∧ (s.dropItem x).lp = s.lp ∧
    (s.dropItem x).pending = s.pending ∧ (s.dropItem x).freeCount = s.freeCount := by
  and_intros <;> simp only [State.dropItem] <;> simp

@[simp] theorem State.reclassItems_frame (s : State) (k : ItemKind → Bool) (c : Fin 4) :
    (s.reclassItems k c).cs = s.cs ∧ (s.reclassItems k c).et = s.et ∧ (s.reclassItems k c).ru = s.ru ∧
    (s.reclassItems k c).pu = s.pu ∧ (s.reclassItems k c).lc = s.lc ∧ (s.reclassItems k c).ou = s.ou ∧
    (s.reclassItems k c).lp = s.lp ∧ (s.reclassItems k c).pending = s.pending ∧
    (s.reclassItems k c).freeCount = s.freeCount := by
  and_intros <;> simp only [State.reclassItems] <;> simp

@[simp] theorem State.reclassPoint_frame (s : State) (p : PointId) :
    (s.reclassPoint p).cs = s.cs ∧ (s.reclassPoint p).et = s.et ∧ (s.reclassPoint p).ru = s.ru ∧
    (s.reclassPoint p).pu = s.pu ∧ (s.reclassPoint p).lc = s.lc ∧ (s.reclassPoint p).ou = s.ou ∧
    (s.reclassPoint p).lp = s.lp ∧ (s.reclassPoint p).pending = s.pending ∧
    (s.reclassPoint p).freeCount = s.freeCount := by
  and_intros <;> simp only [State.reclassPoint] <;> simp

@[simp] theorem State.queuePoint_frame (s : State) (p : PointId) :
    (s.queuePoint p).cs = s.cs ∧ (s.queuePoint p).et = s.et ∧ (s.queuePoint p).ru = s.ru ∧
    (s.queuePoint p).lc = s.lc ∧ (s.queuePoint p).ou = s.ou ∧ (s.queuePoint p).lp = s.lp ∧
    (s.queuePoint p).pending = s.pending ∧ (s.queuePoint p).freeCount = s.freeCount := by
  and_intros <;> simp only [State.queuePoint] <;> simp

@[simp] theorem State.announceCheck_frame (s : State) (p : PointId) (f : Bool) :
    (s.announceCheck p f).cs = s.cs ∧ (s.announceCheck p f).et = s.et ∧ (s.announceCheck p f).ru = s.ru ∧
    (s.announceCheck p f).lc = s.lc ∧ (s.announceCheck p f).ou = s.ou ∧ (s.announceCheck p f).lp = s.lp ∧
    (s.announceCheck p f).pending = s.pending ∧ (s.announceCheck p f).freeCount = s.freeCount := by
  and_intros <;> simp only [State.announceCheck] <;> (repeat' split) <;> simp

@[simp] theorem State.reannounceAll_frame (s : State) :
    (s.reannounceAll).cs = s.cs ∧ (s.reannounceAll).et = s.et ∧ (s.reannounceAll).ru = s.ru ∧
    (s.reannounceAll).lc = s.lc ∧ (s.reannounceAll).ou = s.ou ∧ (s.reannounceAll).lp = s.lp ∧
    (s.reannounceAll).pending = s.pending ∧ (s.reannounceAll).freeCount = s.freeCount := by
  and_intros <;> unfold State.reannounceAll
  · exact (State.foldl_keeps State.cs _ (fun u x => by split <;> simp) _ _).trans (by simp)
  · exact (State.foldl_keeps State.et _ (fun u x => by split <;> simp) _ _).trans (by simp)
  · exact (State.foldl_keeps State.ru _ (fun u x => by split <;> simp) _ _).trans (by simp)
  · exact (State.foldl_keeps State.lc _ (fun u x => by split <;> simp) _ _).trans (by simp)
  · exact (State.foldl_keeps State.ou _ (fun u x => by split <;> simp) _ _).trans (by simp)
  · exact (State.foldl_keeps State.lp _ (fun u x => by split <;> simp) _ _).trans (by simp)
  · exact (State.foldl_keeps State.pending _ (fun u x => by split <;> simp) _ _).trans (by simp)
  · exact (State.foldl_keeps State.freeCount _ (fun u x => by split <;> simp) _ _).trans (by simp)

@[simp] theorem State.qualifyTo_frame (s : State) (p : PointId) (c : Condition) :
    (s.qualifyTo p c).cs = s.cs ∧ (s.qualifyTo p c).et = s.et ∧ (s.qualifyTo p c).ru = s.ru ∧
    (s.qualifyTo p c).lc = s.lc ∧ (s.qualifyTo p c).ou = s.ou ∧ (s.qualifyTo p c).lp = s.lp ∧
    (s.qualifyTo p c).pending = s.pending ∧ (s.qualifyTo p c).freeCount = s.freeCount := by
  and_intros <;> simp only [State.qualifyTo] <;> (repeat' split) <;> simp

@[simp] theorem State.stopReminders_frame (s : State) :
    (s.stopReminders).cs = s.cs ∧ (s.stopReminders).et = s.et ∧ (s.stopReminders).ru = s.ru ∧
    (s.stopReminders).sq = s.sq ∧ (s.stopReminders).lc = s.lc ∧ (s.stopReminders).ou = s.ou ∧
    (s.stopReminders).lp = s.lp ∧ (s.stopReminders).pending = s.pending ∧ (s.stopReminders).freeCount = s.freeCount := by
  and_intros <;> simp only [State.stopReminders] <;> simp

@[simp] theorem State.holdReminders_frame (s : State) :
    (s.holdReminders).cs = s.cs ∧ (s.holdReminders).et = s.et ∧ (s.holdReminders).ru = s.ru ∧
    (s.holdReminders).sq = s.sq ∧ (s.holdReminders).lc = s.lc ∧ (s.holdReminders).ou = s.ou ∧
    (s.holdReminders).lp = s.lp ∧ (s.holdReminders).pending = s.pending ∧ (s.holdReminders).freeCount = s.freeCount := by
  and_intros <;> simp only [State.holdReminders] <;> simp

@[simp] theorem State.startReminder_frame (s : State) (p : PointId) :
    (s.startReminder p).cs = s.cs ∧ (s.startReminder p).et = s.et ∧ (s.startReminder p).ru = s.ru ∧
    (s.startReminder p).sq = s.sq ∧ (s.startReminder p).lc = s.lc ∧ (s.startReminder p).ou = s.ou ∧
    (s.startReminder p).lp = s.lp ∧ (s.startReminder p).pending = s.pending ∧
    (s.startReminder p).freeCount = s.freeCount := by
  and_intros <;> simp only [State.startReminder] <;> (repeat' split) <;> simp

@[simp] theorem State.startReminders_frame (s : State) :
    (s.startReminders).cs = s.cs ∧ (s.startReminders).et = s.et ∧ (s.startReminders).ru = s.ru ∧
    (s.startReminders).sq = s.sq ∧ (s.startReminders).lc = s.lc ∧ (s.startReminders).ou = s.ou ∧
    (s.startReminders).lp = s.lp ∧ (s.startReminders).pending = s.pending ∧
    (s.startReminders).freeCount = s.freeCount := by
  and_intros <;> simp only [State.startReminders] <;> simp

@[simp] theorem State.resumeReminders_frame (s : State) :
    (s.resumeReminders).cs = s.cs ∧ (s.resumeReminders).et = s.et ∧ (s.resumeReminders).ru = s.ru ∧
    (s.resumeReminders).sq = s.sq ∧ (s.resumeReminders).lc = s.lc ∧ (s.resumeReminders).ou = s.ou ∧
    (s.resumeReminders).lp = s.lp ∧ (s.resumeReminders).pending = s.pending ∧
    (s.resumeReminders).freeCount = s.freeCount := by
  and_intros <;> simp only [State.resumeReminders] <;> simp

@[simp] theorem State.stopSettledReminders_frame (s : State) :
    (s.stopSettledReminders).cs = s.cs ∧ (s.stopSettledReminders).et = s.et ∧ (s.stopSettledReminders).ru = s.ru ∧
    (s.stopSettledReminders).sq = s.sq ∧ (s.stopSettledReminders).lc = s.lc ∧ (s.stopSettledReminders).ou = s.ou ∧
    (s.stopSettledReminders).lp = s.lp ∧ (s.stopSettledReminders).pending = s.pending ∧
    (s.stopSettledReminders).freeCount = s.freeCount := by
  and_intros <;> simp only [State.stopSettledReminders] <;> simp

@[simp] theorem State.adoptOccurrences_frame (s : State) :
    (s.adoptOccurrences).cs = s.cs ∧ (s.adoptOccurrences).et = s.et ∧ (s.adoptOccurrences).ru = s.ru ∧
    (s.adoptOccurrences).lc = s.lc ∧ (s.adoptOccurrences).ou = s.ou ∧ (s.adoptOccurrences).lp = s.lp ∧
    (s.adoptOccurrences).pending = s.pending ∧ (s.adoptOccurrences).freeCount = s.freeCount := by
  and_intros <;> unfold State.adoptOccurrences
  · exact (State.foldl_keeps State.cs _ (fun u x => by simp) _ _).trans (by simp)
  · exact (State.foldl_keeps State.et _ (fun u x => by simp) _ _).trans (by simp)
  · exact (State.foldl_keeps State.ru _ (fun u x => by simp) _ _).trans (by simp)
  · exact (State.foldl_keeps State.lc _ (fun u x => by simp) _ _).trans (by simp)
  · exact (State.foldl_keeps State.ou _ (fun u x => by simp) _ _).trans (by simp)
  · exact (State.foldl_keeps State.lp _ (fun u x => by simp) _ _).trans (by simp)
  · exact (State.foldl_keeps State.pending _ (fun u x => by simp) _ _).trans (by simp)
  · exact (State.foldl_keeps State.freeCount _ (fun u x => by simp) _ _).trans (by simp)

@[simp] theorem State.resetPending_frame (s : State) :
    (s.resetPending).cs = s.cs ∧ (s.resetPending).et = s.et ∧ (s.resetPending).ru = s.ru ∧
    (s.resetPending).lc = s.lc ∧ (s.resetPending).ou = s.ou ∧ (s.resetPending).lp = s.lp ∧
    (s.resetPending).pending = s.pending ∧ (s.resetPending).freeCount = s.freeCount := by
  and_intros <;> unfold State.resetPending
  · exact (State.foldl_keeps State.cs _ (fun u x => by simp) _ _).trans (by simp)
  · exact (State.foldl_keeps State.et _ (fun u x => by simp) _ _).trans (by simp)
  · exact (State.foldl_keeps State.ru _ (fun u x => by simp) _ _).trans (by simp)
  · exact (State.foldl_keeps State.lc _ (fun u x => by simp) _ _).trans (by simp)
  · exact (State.foldl_keeps State.ou _ (fun u x => by simp) _ _).trans (by simp)
  · exact (State.foldl_keeps State.lp _ (fun u x => by simp) _ _).trans (by simp)
  · exact (State.foldl_keeps State.pending _ (fun u x => by simp) _ _).trans (by simp)
  · exact (State.foldl_keeps State.freeCount _ (fun u x => by simp) _ _).trans (by simp)

@[simp] theorem State.clearTable_frame (s : State) :
    (s.clearTable).cs = s.cs ∧ (s.clearTable).ru = s.ru ∧ (s.clearTable).pu = s.pu ∧ (s.clearTable).sq = s.sq ∧
    (s.clearTable).lc = s.lc ∧ (s.clearTable).ou = s.ou ∧ (s.clearTable).lp = s.lp ∧
    (s.clearTable).pending = s.pending ∧ (s.clearTable).freeCount = s.freeCount := by
  and_intros <;> simp only [State.clearTable] <;> simp

@[simp] theorem State.advanceCount_frame (s : State) :
    (s.advanceCount).cs = s.cs ∧ (s.advanceCount).ru = s.ru ∧ (s.advanceCount).pu = s.pu ∧
    (s.advanceCount).sq = s.sq ∧ (s.advanceCount).lc = s.lc ∧ (s.advanceCount).ou = s.ou ∧
    (s.advanceCount).lp = s.lp ∧ (s.advanceCount).pending = s.pending ∧ (s.advanceCount).freeCount = s.freeCount := by
  and_intros <;> simp only [State.advanceCount] <;> simp

@[simp] theorem State.orphanEntry_frame (s : State) (i : EntryIndex) :
    (s.orphanEntry i).cs = s.cs ∧ (s.orphanEntry i).ru = s.ru ∧ (s.orphanEntry i).pu = s.pu ∧
    (s.orphanEntry i).sq = s.sq ∧ (s.orphanEntry i).lc = s.lc ∧ (s.orphanEntry i).ou = s.ou ∧
    (s.orphanEntry i).pending = s.pending ∧ (s.orphanEntry i).freeCount = s.freeCount := by
  and_intros <;> simp only [State.orphanEntry] <;> (repeat' split) <;> simp

@[simp] theorem State.orphanOrigin_frame (s : State) (o : StationId) :
    (s.orphanOrigin o).cs = s.cs ∧ (s.orphanOrigin o).ru = s.ru ∧ (s.orphanOrigin o).pu = s.pu ∧
    (s.orphanOrigin o).sq = s.sq ∧ (s.orphanOrigin o).lc = s.lc ∧ (s.orphanOrigin o).ou = s.ou ∧
    (s.orphanOrigin o).pending = s.pending ∧ (s.orphanOrigin o).freeCount = s.freeCount := by
  and_intros <;> unfold State.orphanOrigin
  · exact (State.foldl_keeps State.cs _ (fun u x => by simp) _ _).trans (by simp)
  · exact (State.foldl_keeps State.ru _ (fun u x => by simp) _ _).trans (by simp)
  · exact (State.foldl_keeps State.pu _ (fun u x => by simp) _ _).trans (by simp)
  · exact (State.foldl_keeps State.sq _ (fun u x => by simp) _ _).trans (by simp)
  · exact (State.foldl_keeps State.lc _ (fun u x => by simp) _ _).trans (by simp)
  · exact (State.foldl_keeps State.ou _ (fun u x => by simp) _ _).trans (by simp)
  · exact (State.foldl_keeps State.pending _ (fun u x => by simp) _ _).trans (by simp)
  · exact (State.foldl_keeps State.freeCount _ (fun u x => by simp) _ _).trans (by simp)

@[simp] theorem State.purgeEntry_frame (s : State) (i : EntryIndex) :
    (s.purgeEntry i).cs = s.cs ∧ (s.purgeEntry i).ru = s.ru ∧ (s.purgeEntry i).pu = s.pu ∧
    (s.purgeEntry i).sq = s.sq ∧ (s.purgeEntry i).lc = s.lc ∧ (s.purgeEntry i).ou = s.ou ∧
    (s.purgeEntry i).pending = s.pending ∧ (s.purgeEntry i).freeCount = s.freeCount := by
  and_intros <;> simp only [State.purgeEntry] <;> (repeat' split) <;> simp

@[simp] theorem State.purgeOrigin_frame (s : State) (o : StationId) :
    (s.purgeOrigin o).cs = s.cs ∧ (s.purgeOrigin o).ru = s.ru ∧ (s.purgeOrigin o).pu = s.pu ∧
    (s.purgeOrigin o).sq = s.sq ∧ (s.purgeOrigin o).lc = s.lc ∧ (s.purgeOrigin o).ou = s.ou ∧
    (s.purgeOrigin o).pending = s.pending ∧ (s.purgeOrigin o).freeCount = s.freeCount := by
  and_intros <;> unfold State.purgeOrigin
  · exact (State.foldl_keeps State.cs _ (fun u x => by simp) _ _).trans (by simp)
  · exact (State.foldl_keeps State.ru _ (fun u x => by simp) _ _).trans (by simp)
  · exact (State.foldl_keeps State.pu _ (fun u x => by simp) _ _).trans (by simp)
  · exact (State.foldl_keeps State.sq _ (fun u x => by simp) _ _).trans (by simp)
  · exact (State.foldl_keeps State.lc _ (fun u x => by simp) _ _).trans (by simp)
  · exact (State.foldl_keeps State.ou _ (fun u x => by simp) _ _).trans (by simp)
  · exact (State.foldl_keeps State.pending _ (fun u x => by simp) _ _).trans (by simp)
  · exact (State.foldl_keeps State.freeCount _ (fun u x => by simp) _ _).trans (by simp)

@[simp] theorem State.clearRoster_frame (s : State) :
    (s.clearRoster).cs = s.cs ∧ (s.clearRoster).et = s.et ∧ (s.clearRoster).pu = s.pu ∧ (s.clearRoster).sq = s.sq ∧
    (s.clearRoster).lc = s.lc ∧ (s.clearRoster).ou = s.ou ∧ (s.clearRoster).lp = s.lp ∧
    (s.clearRoster).pending = s.pending ∧ (s.clearRoster).freeCount = s.freeCount := by
  and_intros <;> simp only [State.clearRoster] <;> simp

@[simp] theorem State.setRoster_frame (s : State) (t : StationId) (st : RosterState) (c : Option LeaveCause) :
    (s.setRoster t st c).cs = s.cs ∧ (s.setRoster t st c).et = s.et ∧ (s.setRoster t st c).pu = s.pu ∧
    (s.setRoster t st c).sq = s.sq ∧ (s.setRoster t st c).lc = s.lc ∧ (s.setRoster t st c).ou = s.ou ∧
    (s.setRoster t st c).pending = s.pending ∧ (s.setRoster t st c).freeCount = s.freeCount := by
  and_intros <;> simp only [State.setRoster] <;> (repeat' split) <;> simp

@[simp] theorem State.hearSender_frame (s : State) (t : StationId) :
    (s.hearSender t).cs = s.cs ∧ (s.hearSender t).et = s.et ∧ (s.hearSender t).pu = s.pu ∧
    (s.hearSender t).sq = s.sq ∧ (s.hearSender t).lc = s.lc ∧ (s.hearSender t).ou = s.ou ∧
    (s.hearSender t).lp = s.lp ∧ (s.hearSender t).pending = s.pending ∧ (s.hearSender t).freeCount = s.freeCount := by
  and_intros <;> simp only [State.hearSender] <;> (repeat' split) <;> simp

@[simp] theorem State.stopSilence_frame (s : State) :
    (s.stopSilence).cs = s.cs ∧ (s.stopSilence).et = s.et ∧ (s.stopSilence).pu = s.pu ∧ (s.stopSilence).sq = s.sq ∧
    (s.stopSilence).lc = s.lc ∧ (s.stopSilence).ou = s.ou ∧ (s.stopSilence).lp = s.lp ∧
    (s.stopSilence).pending = s.pending ∧ (s.stopSilence).freeCount = s.freeCount := by
  and_intros <;> simp only [State.stopSilence] <;> simp

@[simp] theorem State.clearJoinState_frame (s : State) :
    (s.clearJoinState).cs = s.cs ∧ (s.clearJoinState).et = s.et ∧ (s.clearJoinState).pu = s.pu ∧
    (s.clearJoinState).sq = s.sq ∧ (s.clearJoinState).lc = s.lc ∧ (s.clearJoinState).ou = s.ou ∧
    (s.clearJoinState).lp = s.lp ∧ (s.clearJoinState).pending = s.pending ∧
    (s.clearJoinState).freeCount = s.freeCount := by
  and_intros <;> simp only [State.clearJoinState] <;> simp

@[simp] theorem State.clearVetoes_frame (s : State) :
    (s.clearVetoes).cs = s.cs ∧ (s.clearVetoes).et = s.et ∧ (s.clearVetoes).ru = s.ru ∧ (s.clearVetoes).pu = s.pu ∧
    (s.clearVetoes).sq = s.sq ∧ (s.clearVetoes).ou = s.ou ∧ (s.clearVetoes).lp = s.lp ∧
    (s.clearVetoes).pending = s.pending ∧ (s.clearVetoes).freeCount = s.freeCount := by
  and_intros <;> simp only [State.clearVetoes] <;> simp

@[simp] theorem State.endFlight_frame (s : State) :
    (s.endFlight).cs = s.cs ∧ (s.endFlight).et = s.et ∧ (s.endFlight).ru = s.ru ∧ (s.endFlight).pu = s.pu ∧
    (s.endFlight).sq = s.sq ∧ (s.endFlight).ou = s.ou ∧ (s.endFlight).lp = s.lp ∧
    (s.endFlight).pending = s.pending ∧ (s.endFlight).freeCount = s.freeCount := by
  and_intros <;> simp only [State.endFlight] <;> simp

@[simp] theorem State.endFrame_frame (s : State) :
    (s.endFrame).cs = s.cs ∧ (s.endFrame).et = s.et ∧ (s.endFrame).ru = s.ru ∧ (s.endFrame).pu = s.pu ∧
    (s.endFrame).sq = s.sq ∧ (s.endFrame).ou = s.ou ∧ (s.endFrame).lp = s.lp ∧ (s.endFrame).pending = s.pending ∧
    (s.endFrame).freeCount = s.freeCount := by
  and_intros <;> simp only [State.endFrame] <;> simp

@[simp] theorem State.enter_frame (s : State) (st : StationState) :
    (s.enter st).cs = s.cs ∧ (s.enter st).et = s.et ∧ (s.enter st).pu = s.pu ∧ (s.enter st).lc = s.lc ∧
    (s.enter st).ou = s.ou ∧ (s.enter st).lp = s.lp ∧ (s.enter st).pending = s.pending ∧
    (s.enter st).freeCount = s.freeCount := by
  and_intros <;> simp only [State.enter] <;> simp

@[simp] theorem State.stopRuTimers_frame (s : State) :
    (s.stopRuTimers).cs = s.cs ∧ (s.stopRuTimers).et = s.et ∧ (s.stopRuTimers).pu = s.pu ∧
    (s.stopRuTimers).sq = s.sq ∧ (s.stopRuTimers).lc = s.lc ∧ (s.stopRuTimers).ou = s.ou ∧
    (s.stopRuTimers).lp = s.lp ∧ (s.stopRuTimers).pending = s.pending ∧ (s.stopRuTimers).freeCount = s.freeCount := by
  and_intros <;> simp only [State.stopRuTimers] <;> simp

@[simp] theorem State.enterOut_frame (s : State) (st : StationState) (r : Option RefusalReason) :
    (s.enterOut st r).cs = s.cs ∧ (s.enterOut st r).et = s.et ∧ (s.enterOut st r).ou = s.ou ∧
    (s.enterOut st r).pending = s.pending ∧ (s.enterOut st r).freeCount = s.freeCount := by
  and_intros <;> simp only [State.enterOut] <;> simp

@[simp] theorem State.enterMuted_frame (s : State) (e : EntryState) :
    (s.enterMuted e).cs = s.cs ∧ (s.enterMuted e).et = s.et ∧ (s.enterMuted e).lc = s.lc ∧
    (s.enterMuted e).ou = s.ou ∧ (s.enterMuted e).lp = s.lp ∧ (s.enterMuted e).pending = s.pending ∧
    (s.enterMuted e).freeCount = s.freeCount := by
  and_intros <;> simp only [State.enterMuted] <;> simp

@[simp] theorem State.startAttempt_frame (s : State) (m : JoinMode) (n : Nat) :
    (s.startAttempt m n).cs = s.cs ∧ (s.startAttempt m n).et = s.et ∧ (s.startAttempt m n).pu = s.pu ∧
    (s.startAttempt m n).lc = s.lc ∧ (s.startAttempt m n).ou = s.ou ∧ (s.startAttempt m n).lp = s.lp ∧
    (s.startAttempt m n).pending = s.pending ∧ (s.startAttempt m n).freeCount = s.freeCount := by
  and_intros <;> simp only [State.startAttempt] <;> simp

@[simp] theorem State.startJoinAttempt_frame (s : State) (n : Nat) :
    (s.startJoinAttempt n).cs = s.cs ∧ (s.startJoinAttempt n).pu = s.pu ∧ (s.startJoinAttempt n).lc = s.lc ∧
    (s.startJoinAttempt n).ou = s.ou ∧ (s.startJoinAttempt n).lp = s.lp ∧
    (s.startJoinAttempt n).pending = s.pending ∧ (s.startJoinAttempt n).freeCount = s.freeCount := by
  and_intros <;> simp only [State.startJoinAttempt] <;> simp

@[simp] theorem State.startResyncAttempt_frame (s : State) (n : Nat) :
    (s.startResyncAttempt n).cs = s.cs ∧ (s.startResyncAttempt n).et = s.et ∧ (s.startResyncAttempt n).pu = s.pu ∧
    (s.startResyncAttempt n).lc = s.lc ∧ (s.startResyncAttempt n).ou = s.ou ∧ (s.startResyncAttempt n).lp = s.lp ∧
    (s.startResyncAttempt n).pending = s.pending ∧ (s.startResyncAttempt n).freeCount = s.freeCount := by
  and_intros <;> simp only [State.startResyncAttempt] <;> simp

@[simp] theorem State.startPresenceTimer_frame (s : State) :
    (s.startPresenceTimer).cs = s.cs ∧ (s.startPresenceTimer).et = s.et ∧ (s.startPresenceTimer).pu = s.pu ∧
    (s.startPresenceTimer).sq = s.sq ∧ (s.startPresenceTimer).lc = s.lc ∧ (s.startPresenceTimer).ou = s.ou ∧
    (s.startPresenceTimer).lp = s.lp ∧ (s.startPresenceTimer).pending = s.pending ∧
    (s.startPresenceTimer).freeCount = s.freeCount := by
  and_intros <;> simp only [State.startPresenceTimer] <;> simp

@[simp] theorem State.enterJoining_frame (s : State) :
    (s.enterJoining).cs = s.cs ∧ (s.enterJoining).lc = s.lc ∧ (s.enterJoining).ou = s.ou ∧
    (s.enterJoining).lp = s.lp ∧ (s.enterJoining).pending = s.pending ∧ (s.enterJoining).freeCount = s.freeCount := by
  and_intros <;> simp only [State.enterJoining] <;> simp

@[simp] theorem State.enterSyncing_frame (s : State) :
    (s.enterSyncing).cs = s.cs ∧ (s.enterSyncing).et = s.et ∧ (s.enterSyncing).lc = s.lc ∧
    (s.enterSyncing).ou = s.ou ∧ (s.enterSyncing).pending = s.pending ∧ (s.enterSyncing).freeCount = s.freeCount := by
  and_intros <;> simp only [State.enterSyncing] <;> simp

@[simp] theorem State.fallToListening_frame (s : State) :
    (s.fallToListening).cs = s.cs ∧ (s.fallToListening).et = s.et ∧ (s.fallToListening).lc = s.lc ∧
    (s.fallToListening).ou = s.ou ∧ (s.fallToListening).pending = s.pending ∧
    (s.fallToListening).freeCount = s.freeCount := by
  and_intros <;> simp only [State.fallToListening] <;> simp

@[simp] theorem State.attemptFailed_frame (s : State) :
    (s.attemptFailed).cs = s.cs ∧ (s.attemptFailed).ou = s.ou ∧ (s.attemptFailed).pending = s.pending ∧
    (s.attemptFailed).freeCount = s.freeCount := by
  and_intros <;> unfold State.attemptFailed <;> (repeat' split) <;> simp

@[simp] theorem State.takeDeferredExpiry_frame (s : State) :
    (s.takeDeferredExpiry).cs = s.cs ∧ (s.takeDeferredExpiry).ou = s.ou ∧
    (s.takeDeferredExpiry).pending = s.pending ∧ (s.takeDeferredExpiry).freeCount = s.freeCount := by
  and_intros <;> simp only [State.takeDeferredExpiry] <;> (repeat' split) <;> simp

@[simp] theorem State.found_frame (s : State) :
    (s.found).cs = s.cs ∧ (s.found).lc = s.lc ∧ (s.found).lp = s.lp ∧ (s.found).pending = s.pending ∧
    (s.found).freeCount = s.freeCount := by
  and_intros <;> simp only [State.found] <;> simp

@[simp] theorem State.adoptRoster_frame (s : State) (p : PresencePayload) :
    (s.adoptRoster p).cs = s.cs ∧ (s.adoptRoster p).et = s.et ∧ (s.adoptRoster p).pu = s.pu ∧
    (s.adoptRoster p).sq = s.sq ∧ (s.adoptRoster p).lc = s.lc ∧ (s.adoptRoster p).ou = s.ou ∧
    (s.adoptRoster p).lp = s.lp ∧ (s.adoptRoster p).pending = s.pending ∧ (s.adoptRoster p).freeCount = s.freeCount := by
  and_intros <;> simp only [State.adoptRoster] <;> simp

@[simp] theorem State.complete_frame (s : State) (p : PresencePayload) :
    (s.complete p).cs = s.cs ∧ (s.complete p).et = s.et ∧ (s.complete p).lc = s.lc ∧
    (s.complete p).pending = s.pending ∧ (s.complete p).freeCount = s.freeCount := by
  and_intros <;> simp only [State.complete] <;> simp

@[simp] theorem State.requestAllLost_frame (s : State) :
    (s.requestAllLost).cs = s.cs ∧ (s.requestAllLost).et = s.et ∧ (s.requestAllLost).ru = s.ru ∧
    (s.requestAllLost).pu = s.pu ∧ (s.requestAllLost).lc = s.lc ∧ (s.requestAllLost).ou = s.ou ∧
    (s.requestAllLost).lp = s.lp ∧ (s.requestAllLost).pending = s.pending ∧
    (s.requestAllLost).freeCount = s.freeCount := by
  and_intros <;> unfold State.requestAllLost
  · exact (State.foldl_keeps State.cs _ (fun u x => by split <;> simp) _ _).trans (by simp)
  · exact (State.foldl_keeps State.et _ (fun u x => by split <;> simp) _ _).trans (by simp)
  · exact (State.foldl_keeps State.ru _ (fun u x => by split <;> simp) _ _).trans (by simp)
  · exact (State.foldl_keeps State.pu _ (fun u x => by split <;> simp) _ _).trans (by simp)
  · exact (State.foldl_keeps State.lc _ (fun u x => by split <;> simp) _ _).trans (by simp)
  · exact (State.foldl_keeps State.ou _ (fun u x => by split <;> simp) _ _).trans (by simp)
  · exact (State.foldl_keeps State.lp _ (fun u x => by split <;> simp) _ _).trans (by simp)
  · exact (State.foldl_keeps State.pending _ (fun u x => by split <;> simp) _ _).trans (by simp)
  · exact (State.foldl_keeps State.freeCount _ (fun u x => by split <;> simp) _ _).trans (by simp)

@[simp] theorem State.startSweep_frame (s : State) :
    (s.startSweep).cs = s.cs ∧ (s.startSweep).et = s.et ∧ (s.startSweep).pu = s.pu ∧ (s.startSweep).lc = s.lc ∧
    (s.startSweep).ou = s.ou ∧ (s.startSweep).lp = s.lp ∧ (s.startSweep).pending = s.pending ∧
    (s.startSweep).freeCount = s.freeCount := by
  and_intros <;> simp only [State.startSweep] <;> simp

@[simp] theorem State.takeDuties_frame (s : State) (old : State) :
    (State.takeDuties old s).cs = s.cs ∧ (State.takeDuties old s).et = s.et ∧ (State.takeDuties old s).pu = s.pu ∧
    (State.takeDuties old s).lc = s.lc ∧ (State.takeDuties old s).ou = s.ou ∧ (State.takeDuties old s).lp = s.lp ∧
    (State.takeDuties old s).pending = s.pending ∧ (State.takeDuties old s).freeCount = s.freeCount := by
  and_intros <;> simp only [State.takeDuties] <;> (repeat' split) <;> simp

@[simp] theorem State.settleTrip_frame (s : State) :
    (s.settleTrip).cs = s.cs ∧ (s.settleTrip).et = s.et ∧ (s.settleTrip).ru = s.ru ∧ (s.settleTrip).pu = s.pu ∧
    (s.settleTrip).sq = s.sq ∧ (s.settleTrip).lc = s.lc ∧ (s.settleTrip).lp = s.lp ∧
    (s.settleTrip).pending = s.pending ∧ (s.settleTrip).freeCount = s.freeCount := by
  and_intros <;> simp only [State.settleTrip] <;> (repeat' split) <;> simp

@[simp] theorem State.reportStation_frame (s : State) (old : State) :
    (State.reportStation old s).cs = s.cs ∧ (State.reportStation old s).et = s.et ∧
    (State.reportStation old s).ru = s.ru ∧ (State.reportStation old s).pu = s.pu ∧
    (State.reportStation old s).sq = s.sq ∧ (State.reportStation old s).lc = s.lc ∧
    (State.reportStation old s).ou = s.ou ∧ (State.reportStation old s).pending = s.pending ∧
    (State.reportStation old s).freeCount = s.freeCount := by
  and_intros <;> simp only [State.reportStation] <;> simp

@[simp] theorem State.drivePins_frame (s : State) :
    (s.drivePins).cs = s.cs ∧ (s.drivePins).et = s.et ∧ (s.drivePins).ru = s.ru ∧ (s.drivePins).pu = s.pu ∧
    (s.drivePins).sq = s.sq ∧ (s.drivePins).lc = s.lc ∧ (s.drivePins).lp = s.lp ∧
    (s.drivePins).pending = s.pending ∧ (s.drivePins).freeCount = s.freeCount := by
  and_intros <;> simp only [State.drivePins] <;> simp

@[simp] theorem State.close_frame (s : State) (old : State) :
    (State.close old s).cs = s.cs ∧ (State.close old s).et = s.et ∧ (State.close old s).ru = s.ru ∧
    (State.close old s).pu = s.pu ∧ (State.close old s).sq = s.sq ∧ (State.close old s).lc = s.lc ∧
    (State.close old s).pending = s.pending ∧ (State.close old s).freeCount = s.freeCount := by
  and_intros <;> simp only [State.close] <;> simp

@[simp] theorem State.exhausted_frame (s : State) :
    (s.exhausted).cs = s.cs ∧ (s.exhausted).et = s.et ∧ (s.exhausted).ou = s.ou ∧
    (s.exhausted).pending = s.pending ∧ (s.exhausted).freeCount = s.freeCount := by
  and_intros <;> unfold State.exhausted <;> (repeat' split) <;> simp

@[simp] theorem State.countFailure_frame (s : State) :
    (s.countFailure).cs = s.cs ∧ (s.countFailure).et = s.et ∧ (s.countFailure).ou = s.ou ∧
    (s.countFailure).pending = s.pending ∧ (s.countFailure).freeCount = s.freeCount := by
  and_intros <;> simp only [State.countFailure] <;> (repeat' split) <;> simp

@[simp] theorem State.reportFailed_frame (s : State) (x : Item) :
    (s.reportFailed x).cs = s.cs ∧ (s.reportFailed x).et = s.et ∧ (s.reportFailed x).ru = s.ru ∧
    (s.reportFailed x).pu = s.pu ∧ (s.reportFailed x).sq = s.sq ∧ (s.reportFailed x).lc = s.lc ∧
    (s.reportFailed x).ou = s.ou ∧ (s.reportFailed x).pending = s.pending ∧
    (s.reportFailed x).freeCount = s.freeCount := by
  and_intros <;> simp only [State.reportFailed] <;> (repeat' split) <;> simp

@[simp] theorem State.setSoft_frame (s : State) (p : PointId) (c : Condition) :
    (s.setSoft p c).cs = s.cs ∧ (s.setSoft p c).et = s.et ∧ (s.setSoft p c).ru = s.ru ∧ (s.setSoft p c).lc = s.lc ∧
    (s.setSoft p c).ou = s.ou ∧ (s.setSoft p c).lp = s.lp ∧ (s.setSoft p c).pending = s.pending ∧
    (s.setSoft p c).freeCount = s.freeCount := by
  and_intros <;> simp only [State.setSoft] <;> (repeat' split) <;> simp

@[simp] theorem State.unloadPoints_frame (s : State) :
    (s.unloadPoints).cs = s.cs ∧ (s.unloadPoints).et = s.et ∧ (s.unloadPoints).ru = s.ru ∧
    (s.unloadPoints).sq = s.sq ∧ (s.unloadPoints).lc = s.lc ∧ (s.unloadPoints).ou = s.ou ∧
    (s.unloadPoints).lp = s.lp ∧ (s.unloadPoints).pending = s.pending ∧ (s.unloadPoints).freeCount = s.freeCount := by
  and_intros <;> simp only [State.unloadPoints] <;> simp

@[simp] theorem State.stopPulses_frame (s : State) :
    (s.stopPulses).cs = s.cs ∧ (s.stopPulses).et = s.et ∧ (s.stopPulses).ru = s.ru ∧ (s.stopPulses).pu = s.pu ∧
    (s.stopPulses).sq = s.sq ∧ (s.stopPulses).lc = s.lc ∧ (s.stopPulses).lp = s.lp ∧
    (s.stopPulses).pending = s.pending ∧ (s.stopPulses).freeCount = s.freeCount := by
  and_intros <;> simp only [State.stopPulses] <;> simp

@[simp] theorem State.startReceiver_frame (s : State) :
    (s.startReceiver).cs = s.cs ∧ (s.startReceiver).et = s.et ∧ (s.startReceiver).ru = s.ru ∧
    (s.startReceiver).pu = s.pu ∧ (s.startReceiver).sq = s.sq ∧ (s.startReceiver).ou = s.ou ∧
    (s.startReceiver).lp = s.lp ∧ (s.startReceiver).pending = s.pending ∧ (s.startReceiver).freeCount = s.freeCount := by
  and_intros <;> simp only [State.startReceiver] <;> simp

@[simp] theorem State.takeProfile_frame (s : State) (p : Profile) :
    (s.takeProfile p).et = s.et ∧ (s.takeProfile p).ru = s.ru ∧ (s.takeProfile p).sq = s.sq ∧
    (s.takeProfile p).pending = s.pending ∧ (s.takeProfile p).freeCount = s.freeCount := by
  and_intros <;> simp only [State.takeProfile] <;> simp

@[simp] theorem State.resetPoints_frame (s : State) :
    (s.resetPoints).cs = s.cs ∧ (s.resetPoints).et = s.et ∧ (s.resetPoints).ru = s.ru ∧ (s.resetPoints).sq = s.sq ∧
    (s.resetPoints).lc = s.lc ∧ (s.resetPoints).ou = s.ou ∧ (s.resetPoints).lp = s.lp ∧
    (s.resetPoints).pending = s.pending ∧ (s.resetPoints).freeCount = s.freeCount := by
  and_intros <;> simp only [State.resetPoints] <;> simp

@[simp] theorem State.restartPrompt_frame (s : State) :
    (s.restartPrompt).cs = s.cs ∧ (s.restartPrompt).et = s.et ∧ (s.restartPrompt).ru = s.ru ∧
    (s.restartPrompt).pu = s.pu ∧ (s.restartPrompt).sq = s.sq ∧ (s.restartPrompt).lc = s.lc ∧
    (s.restartPrompt).ou = s.ou ∧ (s.restartPrompt).pending = s.pending ∧ (s.restartPrompt).freeCount = s.freeCount := by
  and_intros <;> simp only [State.restartPrompt] <;> simp

@[simp] theorem State.takeSetup_frame (s : State) (u : Setup) :
    (s.takeSetup u).et = s.et ∧ (s.takeSetup u).ru = s.ru ∧ (s.takeSetup u).sq = s.sq ∧ (s.takeSetup u).lc = s.lc ∧
    (s.takeSetup u).pending = s.pending ∧ (s.takeSetup u).freeCount = s.freeCount := by
  and_intros <;> simp only [State.takeSetup] <;> simp

@[simp] theorem State.startStation_frame (s : State) :
    (s.startStation).cs = s.cs ∧ (s.startStation).ou = s.ou ∧ (s.startStation).pending = s.pending ∧
    (s.startStation).freeCount = s.freeCount := by
  and_intros <;> simp only [State.startStation] <;> simp

@[simp] theorem State.startLeaving_frame (s : State) (c : LeaveCause) :
    (s.startLeaving c).cs = s.cs ∧ (s.startLeaving c).et = s.et ∧ (s.startLeaving c).lc = s.lc ∧
    (s.startLeaving c).ou = s.ou ∧ (s.startLeaving c).pending = s.pending ∧
    (s.startLeaving c).freeCount = s.freeCount := by
  and_intros <;> simp only [State.startLeaving] <;> simp

@[simp] theorem State.remind_frame (s : State) (p : PointId) :
    (s.remind p).cs = s.cs ∧ (s.remind p).et = s.et ∧ (s.remind p).ru = s.ru ∧ (s.remind p).lc = s.lc ∧
    (s.remind p).ou = s.ou ∧ (s.remind p).lp = s.lp ∧ (s.remind p).pending = s.pending ∧
    (s.remind p).freeCount = s.freeCount := by
  and_intros <;> simp only [State.remind] <;> simp

@[simp] theorem State.attempt_frame (s : State) (x : Item) :
    (s.attempt x).cs = s.cs ∧ (s.attempt x).et = s.et ∧ (s.attempt x).ru = s.ru ∧ (s.attempt x).pu = s.pu ∧
    (s.attempt x).sq = s.sq ∧ (s.attempt x).ou = s.ou ∧ (s.attempt x).lp = s.lp ∧
    (s.attempt x).pending = s.pending ∧ (s.attempt x).freeCount = s.freeCount := by
  and_intros <;> simp only [State.attempt] <;> simp

@[simp] theorem State.loseArbitration_frame (s : State) (f : InFlight) :
    (s.loseArbitration f).cs = s.cs ∧ (s.loseArbitration f).ou = s.ou ∧ (s.loseArbitration f).pending = s.pending ∧
    (s.loseArbitration f).freeCount = s.freeCount := by
  and_intros <;> simp only [State.loseArbitration] <;> simp

@[simp] theorem State.failAttempt_frame (s : State) (f : InFlight) :
    (s.failAttempt f).cs = s.cs ∧ (s.failAttempt f).ou = s.ou ∧ (s.failAttempt f).pending = s.pending ∧
    (s.failAttempt f).freeCount = s.freeCount := by
  and_intros <;> simp only [State.failAttempt] <;> simp

@[simp] theorem State.faultAsSender_frame (s : State) (f : InFlight) (n : Nat) :
    (s.faultAsSender f n).cs = s.cs ∧ (s.faultAsSender f n).ou = s.ou ∧ (s.faultAsSender f n).pending = s.pending ∧
    (s.faultAsSender f n).freeCount = s.freeCount := by
  and_intros <;> simp only [State.faultAsSender] <;> (repeat' split) <;> simp

@[simp] theorem State.ownFrameVetoed_frame (s : State) (f : InFlight) :
    (s.ownFrameVetoed f).cs = s.cs ∧ (s.ownFrameVetoed f).ou = s.ou ∧ (s.ownFrameVetoed f).pending = s.pending ∧
    (s.ownFrameVetoed f).freeCount = s.freeCount := by
  and_intros <;> simp only [State.ownFrameVetoed] <;> simp

@[simp] theorem State.issueVeto_frame (s : State) (rx : RxFrame) :
    (s.issueVeto rx).cs = s.cs ∧ (s.issueVeto rx).et = s.et ∧ (s.issueVeto rx).ru = s.ru ∧ (s.issueVeto rx).pu = s.pu ∧
    (s.issueVeto rx).sq = s.sq ∧ (s.issueVeto rx).ou = s.ou ∧ (s.issueVeto rx).lp = s.lp ∧
    (s.issueVeto rx).pending = s.pending ∧ (s.issueVeto rx).freeCount = s.freeCount := by
  and_intros <;> simp only [State.issueVeto] <;> simp

@[simp] theorem State.receivedFrameVetoed_frame (s : State) (rx : RxFrame) :
    (s.receivedFrameVetoed rx).cs = s.cs ∧ (s.receivedFrameVetoed rx).et = s.et ∧
    (s.receivedFrameVetoed rx).ru = s.ru ∧ (s.receivedFrameVetoed rx).pu = s.pu ∧
    (s.receivedFrameVetoed rx).sq = s.sq ∧ (s.receivedFrameVetoed rx).ou = s.ou ∧
    (s.receivedFrameVetoed rx).lp = s.lp ∧ (s.receivedFrameVetoed rx).pending = s.pending ∧
    (s.receivedFrameVetoed rx).freeCount = s.freeCount := by
  and_intros <;> simp only [State.receivedFrameVetoed] <;> simp

@[simp] theorem State.discardDamaged_frame (s : State) (rx : RxFrame) :
    (s.discardDamaged rx).cs = s.cs ∧ (s.discardDamaged rx).et = s.et ∧ (s.discardDamaged rx).pu = s.pu ∧
    (s.discardDamaged rx).sq = s.sq ∧ (s.discardDamaged rx).ou = s.ou ∧ (s.discardDamaged rx).lp = s.lp ∧
    (s.discardDamaged rx).pending = s.pending ∧ (s.discardDamaged rx).freeCount = s.freeCount := by
  and_intros <;> simp only [State.discardDamaged] <;> (repeat' split) <;> simp

@[simp] theorem State.startPulses_frame (s : State) (i : EntryIndex) :
    (s.startPulses i).cs = s.cs ∧ (s.startPulses i).et = s.et ∧ (s.startPulses i).ru = s.ru ∧
    (s.startPulses i).pu = s.pu ∧ (s.startPulses i).sq = s.sq ∧ (s.startPulses i).lc = s.lc ∧
    (s.startPulses i).lp = s.lp ∧ (s.startPulses i).pending = s.pending ∧ (s.startPulses i).freeCount = s.freeCount := by
  and_intros <;> simp only [State.startPulses] <;> simp

@[simp] theorem State.applyPoint_frame (s : State) (t : StationId) (n : PointStatement) :
    (s.applyPoint t n).cs = s.cs ∧ (s.applyPoint t n).ru = s.ru ∧ (s.applyPoint t n).pu = s.pu ∧
    (s.applyPoint t n).sq = s.sq ∧ (s.applyPoint t n).pending = s.pending ∧
    (s.applyPoint t n).freeCount = s.freeCount := by
  and_intros <;> simp only [State.applyPoint] <;> (repeat' split) <;> simp

@[simp] theorem State.applyClaim_frame (s : State) (t : StationId) (i : EntryIndex) (n : Byte) :
    (s.applyClaim t i n).cs = s.cs ∧ (s.applyClaim t i n).ru = s.ru ∧ (s.applyClaim t i n).pu = s.pu ∧
    (s.applyClaim t i n).sq = s.sq ∧ (s.applyClaim t i n).ou = s.ou ∧ (s.applyClaim t i n).pending = s.pending ∧
    (s.applyClaim t i n).freeCount = s.freeCount := by
  and_intros <;> unfold State.applyClaim <;> (repeat' split) <;> simp

@[simp] theorem State.applyLost_frame (s : State) (t : StationId) (c : Option Word32) :
    (s.applyLost t c).cs = s.cs ∧ (s.applyLost t c).pu = s.pu ∧ (s.applyLost t c).sq = s.sq ∧
    (s.applyLost t c).ou = s.ou ∧ (s.applyLost t c).pending = s.pending ∧ (s.applyLost t c).freeCount = s.freeCount := by
  and_intros <;> simp only [State.applyLost] <;> (repeat' split) <;> simp

@[simp] theorem State.applyPurge_frame (s : State) (o : StationId) :
    (s.applyPurge o).cs = s.cs ∧ (s.applyPurge o).ru = s.ru ∧ (s.applyPurge o).pu = s.pu ∧
    (s.applyPurge o).sq = s.sq ∧ (s.applyPurge o).ou = s.ou ∧ (s.applyPurge o).pending = s.pending ∧
    (s.applyPurge o).freeCount = s.freeCount := by
  and_intros <;> simp only [State.applyPurge] <;> (repeat' split) <;> simp

@[simp] theorem State.applyLeave_frame (s : State) (t : StationId) (c : LeaveCause) :
    (s.applyLeave t c).cs = s.cs ∧ (s.applyLeave t c).pu = s.pu ∧ (s.applyLeave t c).sq = s.sq ∧
    (s.applyLeave t c).lc = s.lc ∧ (s.applyLeave t c).ou = s.ou ∧ (s.applyLeave t c).pending = s.pending ∧
    (s.applyLeave t c).freeCount = s.freeCount := by
  and_intros <;> simp only [State.applyLeave] <;> simp

@[simp] theorem State.applyJoin_frame (s : State) (t : StationId) (m : JoinMode) (d : Word16) :
    (s.applyJoin t m d).cs = s.cs ∧ (s.applyJoin t m d).et = s.et ∧ (s.applyJoin t m d).pu = s.pu ∧
    (s.applyJoin t m d).sq = s.sq ∧ (s.applyJoin t m d).lc = s.lc ∧ (s.applyJoin t m d).ou = s.ou ∧
    (s.applyJoin t m d).pending = s.pending ∧ (s.applyJoin t m d).freeCount = s.freeCount := by
  and_intros <;> simp only [State.applyJoin] <;> (repeat' split) <;> simp

@[simp] theorem State.applyPresence_frame (s : State) (t : StationId) (p : PresencePayload) :
    (s.applyPresence t p).cs = s.cs ∧ (s.applyPresence t p).et = s.et ∧ (s.applyPresence t p).pu = s.pu ∧
    (s.applyPresence t p).sq = s.sq ∧ (s.applyPresence t p).lc = s.lc ∧ (s.applyPresence t p).ou = s.ou ∧
    (s.applyPresence t p).pending = s.pending ∧ (s.applyPresence t p).freeCount = s.freeCount := by
  and_intros <;> unfold State.applyPresence <;> (repeat' split) <;> simp

@[simp] theorem State.applySegment_frame (s : State) (p : SnapshotPayload) :
    (s.applySegment p).cs = s.cs ∧ (s.applySegment p).pu = s.pu ∧ (s.applySegment p).sq = s.sq ∧
    (s.applySegment p).lc = s.lc ∧ (s.applySegment p).ou = s.ou ∧ (s.applySegment p).lp = s.lp ∧
    (s.applySegment p).pending = s.pending ∧ (s.applySegment p).freeCount = s.freeCount := by
  and_intros <;> simp only [State.applySegment] <;> simp

@[simp] theorem State.countFrame_frame (s : State) (t : StationId) (n : Notice) :
    (s.countFrame t n).cs = s.cs ∧ (s.countFrame t n).ru = s.ru ∧ (s.countFrame t n).pu = s.pu ∧
    (s.countFrame t n).sq = s.sq ∧ (s.countFrame t n).lc = s.lc ∧ (s.countFrame t n).ou = s.ou ∧
    (s.countFrame t n).lp = s.lp ∧ (s.countFrame t n).pending = s.pending ∧
    (s.countFrame t n).freeCount = s.freeCount := by
  and_intros <;> unfold State.countFrame <;> (repeat' split) <;> simp

@[simp] theorem State.applyKind_frame (s : State) (t : StationId) (k : Bool) (n : Notice) :
    (s.applyKind t k n).cs = s.cs ∧ (s.applyKind t k n).pu = s.pu ∧ (s.applyKind t k n).sq = s.sq ∧
    (s.applyKind t k n).pending = s.pending ∧ (s.applyKind t k n).freeCount = s.freeCount := by
  and_intros <;> unfold State.applyKind <;> (repeat' split) <;> simp

@[simp] theorem State.applyCore_frame (s : State) (t : StationId) (n : Notice) :
    (s.applyCore t n).cs = s.cs ∧ (s.applyCore t n).pu = s.pu ∧ (s.applyCore t n).sq = s.sq ∧
    (s.applyCore t n).pending = s.pending ∧ (s.applyCore t n).freeCount = s.freeCount := by
  and_intros <;> simp only [State.applyCore] <;> simp

@[simp] theorem State.settlePurged_frame (s : State) (old : State) (n : Notice) :
    (State.settlePurged old s n).cs = s.cs ∧ (State.settlePurged old s n).et = s.et ∧
    (State.settlePurged old s n).ru = s.ru ∧ (State.settlePurged old s n).lc = s.lc ∧
    (State.settlePurged old s n).ou = s.ou ∧ (State.settlePurged old s n).lp = s.lp ∧
    (State.settlePurged old s n).pending = s.pending ∧ (State.settlePurged old s n).freeCount = s.freeCount := by
  and_intros <;> unfold State.settlePurged <;> (repeat' split) <;> simp

@[simp] theorem State.checkChanged_frame (s : State) (old : State) :
    (State.checkChanged old s).cs = s.cs ∧ (State.checkChanged old s).et = s.et ∧
    (State.checkChanged old s).ru = s.ru ∧ (State.checkChanged old s).lc = s.lc ∧
    (State.checkChanged old s).ou = s.ou ∧ (State.checkChanged old s).lp = s.lp ∧
    (State.checkChanged old s).pending = s.pending ∧ (State.checkChanged old s).freeCount = s.freeCount := by
  and_intros <;> unfold State.checkChanged
  · exact (State.foldl_keeps State.cs _ (fun u x => by split <;> simp) _ _).trans (by simp)
  · exact (State.foldl_keeps State.et _ (fun u x => by split <;> simp) _ _).trans (by simp)
  · exact (State.foldl_keeps State.ru _ (fun u x => by split <;> simp) _ _).trans (by simp)
  · exact (State.foldl_keeps State.lc _ (fun u x => by split <;> simp) _ _).trans (by simp)
  · exact (State.foldl_keeps State.ou _ (fun u x => by split <;> simp) _ _).trans (by simp)
  · exact (State.foldl_keeps State.lp _ (fun u x => by split <;> simp) _ _).trans (by simp)
  · exact (State.foldl_keeps State.pending _ (fun u x => by split <;> simp) _ _).trans (by simp)
  · exact (State.foldl_keeps State.freeCount _ (fun u x => by split <;> simp) _ _).trans (by simp)

@[simp] theorem State.requeue_frame (s : State) (x : Item) :
    (s.requeue x).cs = s.cs ∧ (s.requeue x).et = s.et ∧ (s.requeue x).ru = s.ru ∧ (s.requeue x).pu = s.pu ∧
    (s.requeue x).lc = s.lc ∧ (s.requeue x).ou = s.ou ∧ (s.requeue x).lp = s.lp ∧
    (s.requeue x).pending = s.pending ∧ (s.requeue x).freeCount = s.freeCount := by
  and_intros <;> simp only [State.requeue] <;> simp

@[simp] theorem State.settlePoint_frame (s : State) (x : Item) (p : PointId) :
    (s.settlePoint x p).cs = s.cs ∧ (s.settlePoint x p).et = s.et ∧ (s.settlePoint x p).ru = s.ru ∧
    (s.settlePoint x p).lc = s.lc ∧ (s.settlePoint x p).ou = s.ou ∧ (s.settlePoint x p).lp = s.lp ∧
    (s.settlePoint x p).pending = s.pending ∧ (s.settlePoint x p).freeCount = s.freeCount := by
  and_intros <;> unfold State.settlePoint <;> (repeat' split) <;> simp

@[simp] theorem State.settleOwnPoint_frame (s : State) (o : Option Item) :
    (s.settleOwnPoint o).cs = s.cs ∧ (s.settleOwnPoint o).et = s.et ∧ (s.settleOwnPoint o).ru = s.ru ∧
    (s.settleOwnPoint o).lc = s.lc ∧ (s.settleOwnPoint o).ou = s.ou ∧ (s.settleOwnPoint o).lp = s.lp ∧
    (s.settleOwnPoint o).pending = s.pending ∧ (s.settleOwnPoint o).freeCount = s.freeCount := by
  and_intros <;> unfold State.settleOwnPoint <;> (repeat' split) <;> simp

@[simp] theorem State.recoverFromLost_frame (s : State) (old : State) (n : Notice) :
    (State.recoverFromLost old s n).cs = s.cs ∧ (State.recoverFromLost old s n).et = s.et ∧
    (State.recoverFromLost old s n).ru = s.ru ∧ (State.recoverFromLost old s n).lc = s.lc ∧
    (State.recoverFromLost old s n).ou = s.ou ∧ (State.recoverFromLost old s n).lp = s.lp ∧
    (State.recoverFromLost old s n).pending = s.pending ∧ (State.recoverFromLost old s n).freeCount = s.freeCount := by
  and_intros <;> unfold State.recoverFromLost <;> (repeat' split) <;> simp

@[simp] theorem State.settlePoints_frame (s : State) (old : State) (o : Option Item) (n : Notice) :
    (State.settlePoints old s o n).cs = s.cs ∧ (State.settlePoints old s o n).et = s.et ∧
    (State.settlePoints old s o n).ru = s.ru ∧ (State.settlePoints old s o n).lc = s.lc ∧
    (State.settlePoints old s o n).ou = s.ou ∧ (State.settlePoints old s o n).lp = s.lp ∧
    (State.settlePoints old s o n).pending = s.pending ∧ (State.settlePoints old s o n).freeCount = s.freeCount := by
  and_intros <;> simp only [State.settlePoints] <;> simp

@[simp] theorem State.settleOwn_frame (s : State) (old : State) (x : Item) :
    (State.settleOwn old s x).cs = s.cs ∧ (State.settleOwn old s x).et = s.et ∧
    (State.settleOwn old s x).ru = s.ru ∧ (State.settleOwn old s x).pu = s.pu ∧
    (State.settleOwn old s x).lc = s.lc ∧ (State.settleOwn old s x).ou = s.ou ∧
    (State.settleOwn old s x).pending = s.pending ∧ (State.settleOwn old s x).freeCount = s.freeCount := by
  and_intros <;> unfold State.settleOwn <;> (repeat' split) <;> simp

@[simp] theorem State.checkClaim_frame (s : State) (old : State) (x : Item) :
    (State.checkClaim old s x).cs = s.cs ∧ (State.checkClaim old s x).et = s.et ∧
    (State.checkClaim old s x).ru = s.ru ∧ (State.checkClaim old s x).pu = s.pu ∧
    (State.checkClaim old s x).lc = s.lc ∧ (State.checkClaim old s x).ou = s.ou ∧
    (State.checkClaim old s x).pending = s.pending ∧ (State.checkClaim old s x).freeCount = s.freeCount := by
  and_intros <;> unfold State.checkClaim <;> (repeat' split) <;> simp

@[simp] theorem State.settleItem_frame (s : State) (old : State) (o : Option Item) (x : Item) :
    (State.settleItem old o s x).cs = s.cs ∧ (State.settleItem old o s x).et = s.et ∧
    (State.settleItem old o s x).ru = s.ru ∧ (State.settleItem old o s x).pu = s.pu ∧
    (State.settleItem old o s x).lc = s.lc ∧ (State.settleItem old o s x).ou = s.ou ∧
    (State.settleItem old o s x).pending = s.pending ∧ (State.settleItem old o s x).freeCount = s.freeCount := by
  and_intros <;> unfold State.settleItem <;> (repeat' split) <;> simp

@[simp] theorem State.settleRemoved_frame (s : State) (old : State) (o : Option Item) :
    (State.settleRemoved old s o).cs = s.cs ∧ (State.settleRemoved old s o).et = s.et ∧
    (State.settleRemoved old s o).ru = s.ru ∧ (State.settleRemoved old s o).pu = s.pu ∧
    (State.settleRemoved old s o).sq = s.sq ∧ (State.settleRemoved old s o).lc = s.lc ∧
    (State.settleRemoved old s o).ou = s.ou ∧ (State.settleRemoved old s o).pending = s.pending ∧
    (State.settleRemoved old s o).freeCount = s.freeCount := by
  and_intros <;> unfold State.settleRemoved <;> (repeat' split) <;> simp

@[simp] theorem State.moveCursor_frame (s : State) (o : Option Item) (n : Notice) :
    (s.moveCursor o n).cs = s.cs ∧ (s.moveCursor o n).et = s.et ∧ (s.moveCursor o n).pu = s.pu ∧
    (s.moveCursor o n).sq = s.sq ∧ (s.moveCursor o n).lc = s.lc ∧ (s.moveCursor o n).ou = s.ou ∧
    (s.moveCursor o n).lp = s.lp ∧ (s.moveCursor o n).pending = s.pending ∧
    (s.moveCursor o n).freeCount = s.freeCount := by
  and_intros <;> unfold State.moveCursor <;> (repeat' split) <;> simp

@[simp] theorem State.withdrawOvertaken_frame (s : State) (t : StationId) :
    (s.withdrawOvertaken t).cs = s.cs ∧ (s.withdrawOvertaken t).et = s.et ∧ (s.withdrawOvertaken t).ru = s.ru ∧
    (s.withdrawOvertaken t).pu = s.pu ∧ (s.withdrawOvertaken t).lc = s.lc ∧ (s.withdrawOvertaken t).ou = s.ou ∧
    (s.withdrawOvertaken t).lp = s.lp ∧ (s.withdrawOvertaken t).pending = s.pending ∧
    (s.withdrawOvertaken t).freeCount = s.freeCount := by
  and_intros <;> simp only [State.withdrawOvertaken] <;> (repeat' split) <;> simp

@[simp] theorem State.settleQueue_frame (s : State) (old : State) (t : StationId) (o : Option Item) (n : Notice) :
    (State.settleQueue old s t o n).cs = s.cs ∧ (State.settleQueue old s t o n).et = s.et ∧
    (State.settleQueue old s t o n).pu = s.pu ∧ (State.settleQueue old s t o n).lc = s.lc ∧
    (State.settleQueue old s t o n).ou = s.ou ∧ (State.settleQueue old s t o n).pending = s.pending ∧
    (State.settleQueue old s t o n).freeCount = s.freeCount := by
  and_intros <;> simp only [State.settleQueue]
  · simp only [State.withdrawOvertaken_frame, State.moveCursor_frame, State.settleRemoved_frame]; exact (State.foldl_keeps State.cs _ (fun u x => by simp) _ _).trans (by simp)
  · simp only [State.withdrawOvertaken_frame, State.moveCursor_frame, State.settleRemoved_frame]; exact (State.foldl_keeps State.et _ (fun u x => by simp) _ _).trans (by simp)
  · simp only [State.withdrawOvertaken_frame, State.moveCursor_frame, State.settleRemoved_frame]; exact (State.foldl_keeps State.pu _ (fun u x => by simp) _ _).trans (by simp)
  · simp only [State.withdrawOvertaken_frame, State.moveCursor_frame, State.settleRemoved_frame]; exact (State.foldl_keeps State.lc _ (fun u x => by simp) _ _).trans (by simp)
  · simp only [State.withdrawOvertaken_frame, State.moveCursor_frame, State.settleRemoved_frame]; exact (State.foldl_keeps State.ou _ (fun u x => by simp) _ _).trans (by simp)
  · simp only [State.withdrawOvertaken_frame, State.moveCursor_frame, State.settleRemoved_frame]; exact (State.foldl_keeps State.pending _ (fun u x => by simp) _ _).trans (by simp)
  · simp only [State.withdrawOvertaken_frame, State.moveCursor_frame, State.settleRemoved_frame]; exact (State.foldl_keeps State.freeCount _ (fun u x => by simp) _ _).trans (by simp)

@[simp] theorem State.alignFlashers_frame (s : State) :
    (s.alignFlashers).cs = s.cs ∧ (s.alignFlashers).et = s.et ∧ (s.alignFlashers).ru = s.ru ∧
    (s.alignFlashers).pu = s.pu ∧ (s.alignFlashers).sq = s.sq ∧ (s.alignFlashers).lc = s.lc ∧
    (s.alignFlashers).lp = s.lp ∧ (s.alignFlashers).pending = s.pending ∧ (s.alignFlashers).freeCount = s.freeCount := by
  and_intros <;> simp only [State.alignFlashers] <;> simp

@[simp] theorem State.decideWindow_frame (s : State) (p : PresencePayload) :
    (s.decideWindow p).cs = s.cs ∧ (s.decideWindow p).ou = s.ou ∧ (s.decideWindow p).pending = s.pending ∧
    (s.decideWindow p).freeCount = s.freeCount := by
  and_intros <;> simp only [State.decideWindow] <;> (repeat' split) <;> simp

@[simp] theorem State.hearReference_frame (s : State) (old : State) (p : PresencePayload) (st : StationState) :
    (State.hearReference old s p st).cs = s.cs ∧ (State.hearReference old s p st).et = s.et ∧
    (State.hearReference old s p st).lc = s.lc ∧ (State.hearReference old s p st).pending = s.pending ∧
    (State.hearReference old s p st).freeCount = s.freeCount := by
  and_intros <;> simp only [State.hearReference] <;> (repeat' split) <;> simp

@[simp] theorem State.settlePresence_frame (s : State) (old : State) (t : StationId) (p : PresencePayload) :
    (State.settlePresence old s t p).cs = s.cs ∧ (State.settlePresence old s t p).pending = s.pending ∧
    (State.settlePresence old s t p).freeCount = s.freeCount := by
  refine ⟨?_, ?_, ?_⟩ <;> unfold State.settlePresence <;> (repeat' split) <;> simp

@[simp] theorem State.settleMembership_frame (s : State) (old : State) (t : StationId) (o : Option Item) (n : Notice) :
    (State.settleMembership old s t o n).cs = s.cs ∧ (State.settleMembership old s t o n).pending = s.pending ∧
    (State.settleMembership old s t o n).freeCount = s.freeCount := by
  refine ⟨?_, ?_, ?_⟩ <;> unfold State.settleMembership <;> (repeat' split) <;> simp

@[simp] theorem State.takeFrame_frame (s : State) (o : Option Item) :
    (s.takeFrame o).cs = s.cs ∧ (s.takeFrame o).et = s.et ∧ (s.takeFrame o).ru = s.ru ∧ (s.takeFrame o).pu = s.pu ∧
    (s.takeFrame o).sq = s.sq ∧ (s.takeFrame o).ou = s.ou ∧ (s.takeFrame o).lp = s.lp ∧
    (s.takeFrame o).pending = s.pending ∧ (s.takeFrame o).freeCount = s.freeCount := by
  and_intros <;> simp only [State.takeFrame] <;> (repeat' split) <;> simp

@[simp] theorem State.markOwnJoin_frame (s : State) (o : Option Item) (n : Notice) :
    (s.markOwnJoin o n).cs = s.cs ∧ (s.markOwnJoin o n).et = s.et ∧ (s.markOwnJoin o n).pu = s.pu ∧
    (s.markOwnJoin o n).sq = s.sq ∧ (s.markOwnJoin o n).lc = s.lc ∧ (s.markOwnJoin o n).ou = s.ou ∧
    (s.markOwnJoin o n).lp = s.lp ∧ (s.markOwnJoin o n).pending = s.pending ∧
    (s.markOwnJoin o n).freeCount = s.freeCount := by
  and_intros <;> unfold State.markOwnJoin <;> (repeat' split) <;> simp

@[simp] theorem State.applyFrame_frame (s : State) (old : State) (t : StationId) (o : Option Item) (n : Notice) :
    (State.applyFrame old s t o n).cs = s.cs ∧ (State.applyFrame old s t o n).pending = s.pending ∧
    (State.applyFrame old s t o n).freeCount = s.freeCount := by
  refine ⟨?_, ?_, ?_⟩ <;> simp only [State.applyFrame] <;> (repeat' split) <;> simp

@[simp] theorem State.acceptFrame_frame (s : State) (t : StationId) (o : Option Item) (n : Notice) :
    (s.acceptFrame t o n).cs = s.cs ∧ (s.acceptFrame t o n).pending = s.pending ∧
    (s.acceptFrame t o n).freeCount = s.freeCount := by
  refine ⟨?_, ?_, ?_⟩ <;> simp only [State.acceptFrame] <;> (repeat' split) <;> simp

@[simp] theorem State.accept_frame (s : State) (t : StationId) (n : Notice) :
    (s.accept t n).cs = s.cs ∧ (s.accept t n).pending = s.pending ∧ (s.accept t n).freeCount = s.freeCount := by
  refine ⟨?_, ?_, ?_⟩ <;> unfold State.accept <;> (repeat' split) <;> simp

@[simp] theorem State.suspect_frame (s : State) (t : StationId) :
    (s.suspect t).cs = s.cs ∧ (s.suspect t).et = s.et ∧ (s.suspect t).pu = s.pu ∧ (s.suspect t).lc = s.lc ∧
    (s.suspect t).ou = s.ou ∧ (s.suspect t).lp = s.lp ∧ (s.suspect t).pending = s.pending ∧
    (s.suspect t).freeCount = s.freeCount := by
  and_intros <;> simp only [State.suspect] <;> (repeat' split) <;> simp

@[simp] theorem State.cleanExit_frame (s : State) :
    (s.cleanExit).cs = s.cs ∧ (s.cleanExit).et = s.et ∧ (s.cleanExit).lc = s.lc ∧ (s.cleanExit).ou = s.ou ∧
    (s.cleanExit).lp = s.lp ∧ (s.cleanExit).pending = s.pending ∧ (s.cleanExit).freeCount = s.freeCount := by
  and_intros <;> simp only [State.cleanExit] <;> (repeat' split) <;> simp

@[simp] theorem State.leaveMuted_frame (s : State) :
    (s.leaveMuted).cs = s.cs ∧ (s.leaveMuted).lc = s.lc ∧ (s.leaveMuted).ou = s.ou ∧
    (s.leaveMuted).pending = s.pending ∧ (s.leaveMuted).freeCount = s.freeCount := by
  and_intros <;> unfold State.leaveMuted <;> (repeat' split) <;> simp

@[simp] theorem State.expireAttempt_frame (s : State) :
    (s.expireAttempt).cs = s.cs ∧ (s.expireAttempt).ou = s.ou ∧ (s.expireAttempt).pending = s.pending ∧
    (s.expireAttempt).freeCount = s.freeCount := by
  and_intros <;> simp only [State.expireAttempt] <;> (repeat' split) <;> simp

@[simp] theorem State.tick_frame (s : State) :
    (s.tick).cs = s.cs ∧ (s.tick).et = s.et ∧ (s.tick).lc = s.lc ∧ (s.tick).pending = s.pending ∧
    (s.tick).freeCount = s.freeCount := by
  and_intros <;> simp only [State.tick] <;> simp

end Sys2Proof.Machine
end

