-- ==== Sys2Proof/Laws/Ops.lean ====
section
/-! SUPPORT. What the shared operations do, said once each: the close of an event, a pushed record, a placed item, the entry
form, the bytes of the local port. A proof about a command cites these and the frame lemmas, and does not unfold the operations. -/

namespace Sys2Proof.Machine

/-- Every command ends in a next state. -/
theorem exec_next (c : Instr) (s : State) : ∃ t, exec c s = .next t := by cases c <;> exact ⟨_, rfl⟩

/-! ## The close of an event -/

/-- The trip reasons rest on configuration, table, points, own state and entry state alone. -/
theorem State.tripReasons_congr {s t : State} (hc : t.cs = s.cs) (he : t.et = s.et) (hp : t.pu = s.pu)
    (hs : t.ru.state = s.ru.state) (hn : t.ru.entryState = s.ru.entryState) : t.tripReasons = s.tripReasons := by
  simp only [State.tripReasons, State.tripTable, State.tripOwnPoint, State.tripUncertain, State.entry, State.isTripEntry,
    State.isTripCategory, State.category, State.pointUsed, State.pointSource, State.pointSetup, State.pointCategory,
    State.point, hc, he, hp, hs, hn]

theorem State.modesCount_congr {s t : State} (hs : t.ru.state = s.ru.state) (hn : t.ru.entryState = s.ru.entryState) :
    t.modesCount = s.modesCount := by simp only [State.modesCount, hs, hn]

/-- The pins rest on configuration, table, own state, entry state and the Output Unit's marks alone. -/
theorem State.outputPins_congr {s t : State} (hc : t.cs = s.cs) (he : t.et = s.et) (hs : t.ru.state = s.ru.state)
    (hn : t.ru.entryState = s.ru.entryState) (h1 : t.ou.trip = s.ou.trip) (h2 : t.ou.silenceMark = s.ou.silenceMark)
    (h3 : t.ou.fast.on = s.ou.fast.on) (h4 : t.ou.slow.on = s.ou.slow.on) (h5 : t.ou.pulses = s.ou.pulses) :
    t.outputPins = s.outputPins := by
  have hm : t.modesCount = s.modesCount := State.modesCount_congr hs hn
  have hr : ∀ o, t.rule o = s.rule o := fun o => by simp only [State.rule, hc]
  have hq : ∀ r q, t.someMatched r q = s.someMatched r q := fun r q => by simp only [State.someMatched, State.entry, he]
  have hv : ∀ o r, t.modeValue o r = s.modeValue o r := fun o r => by
    simp only [State.modeValue, State.annunciateValue, hq, h2, h3, h4, h5]
  have hp : t.outputPin = s.outputPin := by
    funext o
    simp only [State.outputPin, State.outputValue, hm, hr, hv, h1]
  simp only [State.outputPins, hp]

@[simp] theorem State.settleTrip_ou (s : State) :
    s.settleTrip.ou = { s.ou with trip := s.tripReasons,
                                  pulses := if s.modesCount then s.ou.pulses else Vector.replicate 8 none } := rfl

/-- What the close leaves in the Output Unit, the pins apart. -/
theorem State.close_ou (old s : State) :
    (State.close old s).ou = { s.ou with
      trip := s.tripReasons, pulses := if s.modesCount then s.ou.pulses else Vector.replicate 8 none,
      pins := (State.close old s).ou.pins } := by
  simp [State.close, State.drivePins]

/-- After the close the Output Unit agrees with the rest of the state. -/
theorem State.close_outputsOk (old s : State) : (State.close old s).OutputsOk := by
  have ht : (State.close old s).tripReasons = s.tripReasons :=
    State.tripReasons_congr (by simp) (by simp) (by simp) (by simp) (by simp)
  have hm : (State.close old s).modesCount = s.modesCount := State.modesCount_congr (by simp) (by simp)
  refine ⟨?_, ?_, ?_⟩
  · rw [ht, State.close_ou]
  · have hp : (State.close old s).ou.pins = (State.reportStation old s.settleTrip).outputPins := rfl
    rw [hp]
    refine (State.outputPins_congr ?_ ?_ ?_ ?_ ?_ ?_ ?_ ?_ ?_).symm <;> simp [State.close, State.drivePins]
  · intro h
    rw [State.close_ou]
    simp [hm ▸ h]

/-- The close pushes one STATION record when own state or trip set changed, and leaves the port alone otherwise (R72). -/
theorem State.close_lp (old s : State) :
    (State.close old s).lp =
      if s.ru.state ≠ old.ru.state ∨ s.tripReasons ≠ old.ou.trip then
        s.lp.push s.promptPeriod (.station s.ru.state s.ru.refusal s.tripReasons)
      else s.lp := by
  simp only [State.close, State.drivePins_frame, State.reportStation, State.onLp_lp, State.settleTrip_frame,
    State.settleTrip_ou, State.promptPeriod]

/-- The close of an event that changed nothing the Output Unit reads does nothing. -/
theorem State.close_idle {old s : State} (ho : old.OutputsOk) (hc : s.cs = old.cs) (he : s.et = old.et)
    (hp : s.pu = old.pu) (hs : s.ru.state = old.ru.state) (hn : s.ru.entryState = old.ru.entryState)
    (hu : s.ou = old.ou) : State.close old s = s := by
  have ht : s.tripReasons = old.tripReasons := State.tripReasons_congr hc he hp hs hn
  have hm : s.modesCount = old.modesCount := State.modesCount_congr hs hn
  have hx : s.outputPins = old.outputPins :=
    State.outputPins_congr hc he hs hn (by rw [hu]) (by rw [hu]) (by rw [hu]) (by rw [hu]) (by rw [hu])
  have h1 : s.settleTrip = s := by
    have : s.settleTrip.ou = s.ou := by
      rw [State.settleTrip_ou, ht, hm, ← ho.1, hu]
      by_cases h : old.modesCount = true
      · simp [h]
      · have h' : old.modesCount = false := by simpa using h
        rw [← ho.2.2 h']
        simp
    simp only [State.settleTrip, State.onOu] at this ⊢
    rw [this]
  have h2 : State.reportStation old s = s := by
    have : ¬(s.ru.state ≠ old.ru.state ∨ s.ou.trip ≠ old.ou.trip) := by rw [hs, hu]; simp
    simp only [State.reportStation, this, if_false, State.onLp]
  rw [State.close, h1, h2]
  have : s.drivePins.ou = s.ou := by
    change { s.ou with pins := s.outputPins } = s.ou
    rw [hx, ← ho.2.1, hu]
  simp only [State.drivePins, State.onOu] at this ⊢
  rw [this]

/-- The reply fixed by a command outlives the close of its event. -/
@[simp] theorem LocalPort.push_reply (l : LocalPort) (p : Option Nat) (r : Record) : (l.push p r).reply = l.reply := by
  simp only [LocalPort.push, LocalPort.store]
  repeat' split
  all_goals rfl

theorem State.close_reply (old s : State) : (State.close old s).lp.reply = s.lp.reply := by
  rw [State.close_lp]
  split <;> simp

/-! ## Pushing a record (R169, R170) -/

/-- A push only adds records at the tail. -/
theorem LocalPort.push_records (l : LocalPort) (p : Option Nat) (r : Record) :
    (l.push p r).records = if l.marker = none ∧ l.records.length < 31 then l.records ++ [r] else l.records := by
  simp only [LocalPort.push, LocalPort.store]
  cases l.marker <;> simp <;> (repeat' split) <;> rfl

theorem LocalPort.push_marker (l : LocalPort) (p : Option Nat) (r : Record) :
    (l.push p r).marker =
      match l.marker with
      | some n => some (min 255 (n + 1))
      | none => if l.records.length < 31 then none else some 1 := by
  simp only [LocalPort.push, LocalPort.store]
  cases h : l.marker <;> simp <;> (repeat' split) <;> simp_all

/-- After a push the queue holds an item. -/
theorem LocalPort.push_holdsItem (l : LocalPort) (p : Option Nat) (r : Record) : (l.push p r).holdsItem = true := by
  simp only [LocalPort.holdsItem, LocalPort.push_records, LocalPort.push_marker]
  cases l.marker <;> simp
  by_cases h : l.records.length < 31
  · simp [h]
  · exact Or.inr (Nat.le_of_not_lt h)

@[simp] theorem LocalPort.push_releaseTimer (l : LocalPort) (p : Option Nat) (r : Record) :
    (l.push p r).releaseTimer = l.releaseTimer := by
  simp only [LocalPort.push, LocalPort.store]
  repeat' split
  all_goals rfl

theorem LocalPort.push_attn (l : LocalPort) (p : Option Nat) (r : Record) :
    (l.push p r).attn = if l.holdsItem || l.releaseTimer.isSome then l.attn else true := by
  simp only [LocalPort.push, LocalPort.store]
  repeat' split
  all_goals simp_all

theorem LocalPort.push_promptTimer (l : LocalPort) (p : Option Nat) (r : Record) :
    (l.push p r).promptTimer = if l.holdsItem || l.releaseTimer.isSome then l.promptTimer else p := by
  simp only [LocalPort.push, LocalPort.store]
  repeat' split
  all_goals simp_all

/-- A read under way stays a read of the same item, and counts the records dropped behind the marker. -/
theorem LocalPort.push_openRead (l : LocalPort) (p : Option Nat) (r : Record) :
    (l.push p r).openRead =
      if l.marker.isSome then l.openRead.map fun o => { o with dropped := min 255 (o.dropped + 1) } else l.openRead := by
  simp only [LocalPort.push, LocalPort.store]
  cases h : l.marker <;> simp <;> (repeat' split) <;> rfl

/-- A push keeps the Local Port's invariant (R169 to R174). -/
theorem State.push_portOk {s : State} (h : s.PortOk) (r : Record) : (s.push r).PortOk := by
  obtain ⟨⟨h1, h2⟩, h3, h4, h5⟩ := h
  have hper : (s.push r).promptPeriod = s.promptPeriod := by simp [State.promptPeriod]
  have hlp : (s.push r).lp = s.lp.push s.promptPeriod r := rfl
  refine ⟨⟨?_, ?_⟩, ?_, ?_, ?_⟩
  · rw [hlp, LocalPort.push_records]
    split
    · rename_i h; simp; omega
    · exact h1
  · rw [hlp, LocalPort.push_marker]
    intro n hn
    have counted := h2
    revert hn counted
    cases s.lp.marker <;> (repeat' split) <;> simp <;> omega
  · intro o ho
    rw [hlp, LocalPort.push_openRead] at ho
    rw [hlp, LocalPort.push_records, LocalPort.push_marker]
    cases hm : s.lp.marker with
    | none =>
      simp only [hm, Option.isSome_none, Bool.false_eq_true, if_false] at ho
      obtain ⟨g1, g2, g3⟩ := h3 o ho
      refine ⟨g1, fun hk => ?_, fun hk => ?_⟩
      · have := (g2 hk).2
        simp [hm] at this
      · split <;> simp [g3 hk]
    | some k =>
      simp only [hm, Option.isSome_some, if_true, Option.mem_def, Option.map_eq_some_iff] at ho
      obtain ⟨o', ho', rfl⟩ := ho
      obtain ⟨g1, g2, g3⟩ := h3 o' ho'
      refine ⟨by simp only; omega, fun hk => ?_, fun hk => ?_⟩
      · simp [(g2 hk).1]
      · simpa using g3 hk
  · have : (s.push r).lp.holdsItem = true := by rw [hlp]; exact LocalPort.push_holdsItem _ _ _
    change (s.push r).lp.attn = _
    rw [this, hlp, LocalPort.push_attn, LocalPort.push_releaseTimer]
    have h4' : s.lp.attn = (s.lp.holdsItem && s.lp.releaseTimer.isNone) := h4
    rw [h4']
    cases s.lp.holdsItem <;> cases s.lp.releaseTimer <;> rfl
  · intro hx
    have : (s.push r).lp.holdsItem = true := by rw [hlp]; exact LocalPort.push_holdsItem _ _ _
    refine ⟨this, ?_⟩
    rw [hlp, LocalPort.push_promptTimer] at hx
    rw [hper]
    split at hx
    · exact (h5 hx).2
    · exact hx

/-! ## The list of items (R113) -/

theorem insertItem_perm (x : Item) (l : List Item) : (insertItem x l).Perm (x :: l) := by
  induction l with
  | nil => exact List.Perm.refl _
  | cons y rest ih =>
    simp only [insertItem]
    split
    · exact List.Perm.refl _
    · exact (ih.cons y).trans (List.Perm.swap x y rest)

@[simp] theorem mem_insertItem (x y : Item) (l : List Item) : y ∈ insertItem x l ↔ y = x ∨ y ∈ l := by
  simp [(insertItem_perm x l).mem_iff]

/-- Of two items of different ages one stands before the other. -/
theorem Item.before_total {a b : Item} (h : a.age ≠ b.age) (hn : a.before b = false) : b.before a = true := by
  simp only [Item.before, Bool.or_eq_false_iff, Bool.and_eq_false_iff, decide_eq_false_iff_not, beq_eq_false_iff_ne,
    Bool.or_eq_true, Bool.and_eq_true, decide_eq_true_eq, beq_iff_eq] at *
  omega

theorem Item.before_trans {a b c : Item} (h1 : a.before b = true) (h2 : b.before c = true) : a.before c = true := by
  simp only [Item.before, Bool.or_eq_true, Bool.and_eq_true, decide_eq_true_eq, beq_iff_eq] at *
  omega

/-- Placing an item of a new age keeps the list in order. -/
theorem insertItem_ordered (x : Item) (l : List Item) (hl : l.Pairwise fun a b => a.before b = true)
    (ha : ∀ y ∈ l, y.age ≠ x.age) : (insertItem x l).Pairwise fun a b => a.before b = true := by
  induction l with
  | nil => simp [insertItem]
  | cons y rest ih =>
    rw [List.pairwise_cons] at hl
    simp only [insertItem]
    split
    · rename_i hb
      refine List.pairwise_cons.2 ⟨fun z hz => ?_, List.pairwise_cons.2 hl⟩
      rcases List.mem_cons.1 hz with rfl | hz
      · exact hb
      · exact Item.before_trans hb (hl.1 z hz)
    · rename_i hb
      refine List.pairwise_cons.2 ⟨fun z hz => ?_, ih hl.2 fun z hz => ha z (List.mem_cons_of_mem y hz)⟩
      rcases (mem_insertItem x z rest).1 hz with rfl | hz
      · exact Item.before_total (fun e => ha y List.mem_cons_self e.symm) (by simpa using hb)
      · exact hl.1 z hz

/-- A new item, younger than every other, stands behind all items of its class and of those below it. -/
theorem insertItem_tail (x : Item) (l : List Item) (hl : l.Pairwise fun a b => a.before b = true)
    (ha : ∀ y ∈ l, y.age < x.age) :
    ∃ pre post, l = pre ++ post ∧ insertItem x l = pre ++ x :: post ∧ (∀ y ∈ pre, y.cls ≤ x.cls) ∧
      ∀ y ∈ post, x.cls < y.cls := by
  induction l with
  | nil => exact ⟨[], [], by simp [insertItem]⟩
  | cons y rest ih =>
    rw [List.pairwise_cons] at hl
    have hy := ha y List.mem_cons_self
    simp only [insertItem]
    split
    · rename_i hb
      have hc : x.cls < y.cls := by
        simp only [Item.before, Bool.or_eq_true, Bool.and_eq_true, decide_eq_true_eq, beq_iff_eq] at hb
        omega
      refine ⟨[], y :: rest, rfl, rfl, by simp, fun z hz => ?_⟩
      rcases List.mem_cons.1 hz with rfl | hz
      · exact hc
      · have h := hl.1 z hz
        simp only [Item.before, Bool.or_eq_true, Bool.and_eq_true, decide_eq_true_eq, beq_iff_eq] at h
        omega
    · rename_i hb
      obtain ⟨pre, post, split, placed, below, above⟩ := ih hl.2 fun z hz => ha z (List.mem_cons_of_mem y hz)
      refine ⟨y :: pre, post, by simp [split], by simp [placed], fun z hz => ?_, above⟩
      rcases List.mem_cons.1 hz with rfl | hz
      · simp only [Item.before, Bool.or_eq_true, Bool.and_eq_true, decide_eq_true_eq, beq_iff_eq] at hb
        omega
      · exact below z hz

@[simp] theorem State.enqueue_sq (s : State) (k : ItemKind) (c : Fin 4) :
    (s.enqueue k c).sq = { s.sq with
      items := insertItem { kind := k, cls := c, age := s.sq.nextAge } s.sq.items, nextAge := s.sq.nextAge + 1 } := rfl

/-- The list keeps its order, its ages and its next age when a new item is queued. -/
theorem SendQueue.enqueue_keeps (q : SendQueue) (k : ItemKind) (c : Fin 4)
    (h1 : q.items.Pairwise fun a b => a.before b = true) (h2 : (q.items.map Item.age).Nodup)
    (h3 : ∀ x ∈ q.items, x.age < q.nextAge) :
    ((q.enqueue k c).items.Pairwise fun a b => a.before b = true) ∧ ((q.enqueue k c).items.map Item.age).Nodup ∧
      ∀ x ∈ (q.enqueue k c).items, x.age < (q.enqueue k c).nextAge := by
  refine ⟨insertItem_ordered _ _ h1 fun y hy => Nat.ne_of_lt (h3 y hy), ?_, fun x hx => ?_⟩
  · refine (((insertItem_perm _ _).map Item.age).nodup_iff).2 ?_
    rw [List.map_cons, List.nodup_cons]
    refine ⟨fun h => ?_, h2⟩
    obtain ⟨y, hy, he⟩ := List.mem_map.1 h
    exact Nat.lt_irrefl _ (he ▸ h3 y hy)
  · rcases (mem_insertItem _ x q.items).1 hx with rfl | hx
    · exact Nat.lt_succ_self _
    · exact Nat.lt_succ_of_lt (h3 x hx)

@[simp] theorem State.withdraw_items (s : State) (k : ItemKind → Bool) :
    (s.withdraw k).sq.items = s.sq.items.filter fun x => !k x.kind || s.flies x := rfl

@[simp] theorem State.enter_sq (s : State) (st : StationState) :
    (s.enter st).sq = { s.sq with returnPending := s.sq.returnPending && st == .member } := rfl

/-! ## What is offered (R114) -/

/-- The items a MEMBER offers: all, or PRESENCE alone while the return presence is pending. -/
theorem State.eligible_member {s : State} (h : s.ru.state = .member) (k : ItemKind) :
    s.eligible k = (!s.sq.returnPending || k.isPresence) := by simp only [State.eligible, h]

/-- The items a station offers while it joins or rebuilds its table. -/
theorem State.eligible_attempting {s : State} (h : s.ru.state = .joining ∨ s.ru.state = .syncing) (k : ItemKind) :
    s.eligible k = (k.isPresence || k.isJoin || k.isLeave) := by
  rcases h with h | h <;> simp only [State.eligible, h]

/-- The head item stands in the list and is eligible. -/
theorem State.headItem_mem {s : State} {x : Item} (h : s.headItem = some x) : x ∈ s.sq.items ∧ s.eligible x.kind = true :=
  ⟨List.mem_of_find?_eq_some h, by simpa using List.find?_some h⟩

/-! ## Layouts -/

@[simp] theorem byteIndex_finByte (i : EntryIndex) : byteIndex (finByte i) = i := by
  apply Fin.ext
  simp [byteIndex, finByte]

@[simp] theorem byteTo16_finByte (t : StationId) : byteTo16 (finByte t) = some t := by
  have h : (finByte t).toNat = t.1 := by simp [finByte]; omega
  simp [byteTo16, h]

@[simp] theorem originOf_entryIndex (o : StationId) (p : PointId) : originOf (entryIndex o p) = o := by
  apply Fin.ext
  simp [originOf, entryIndex]
  omega

@[simp] theorem pointOf_entryIndex (o : StationId) (p : PointId) : pointOf (entryIndex o p) = p := by
  apply Fin.ext
  simp [pointOf, entryIndex]

@[simp] theorem entryIndex_parts (i : EntryIndex) : entryIndex (originOf i) (pointOf i) = i := by
  apply Fin.ext
  simp [originOf, pointOf, entryIndex]
  omega

/-- Reading an entry back from its 5-byte form gives every replicated field (R185). -/
theorem entryOfForm_form (i : EntryIndex) (e : Entry) (stamp : Word32) :
    entryOfForm (Entry.form i e) stamp = { e with raiseStamp := stamp } := by
  obtain ⟨ph, c, occ, cat, ack, r, o, st⟩ := e
  have hs : ∀ (r : BitVec 4) (o k : Bool) (p : BitVec 2),
      let b : Byte := r ++ BitVec.ofBool o ++ BitVec.ofBool k ++ p
      b.extractLsb' 0 2 = p ∧ b.getLsbD 2 = k ∧ b.getLsbD 3 = o ∧ b.extractLsb' 4 4 = r := by decide
  obtain ⟨h1, h2, h3, h4⟩ := hs r o c.isActive ph.code
  have hc : (if (categoryByte cat).getLsbD 3 then none else some (lowThree (categoryByte cat))) = cat := by
    revert cat; decide
  have ha : (if (acknowledgerByte ack).getLsbD 4 then none else some (lowNibble (acknowledgerByte ack))) = ack := by
    revert ack; decide
  have hp : Phase.ofCode ph.code = ph := by cases ph <;> rfl
  have hk : Condition.ofBool c.isActive = c := by cases c <;> rfl
  simp only [entryOfForm, Entry.form, Entry.statusByte, h1, h2, h3, h4, hp, hk, Entry.mk.injEq, true_and, and_true]
  exact ⟨hc, ha⟩

/-! ## The local port's bytes -/

/-- A PROFILE LOAD leaves ATTN to the queue alone. -/
theorem LocalPort.dropPrompt_attnOk (l : LocalPort) : l.dropPrompt.AttnOk := by
  simp [LocalPort.AttnOk, LocalPort.dropPrompt, LocalPort.holdsItem]

/-- While CSN is high SDO is undriven. -/
@[simp] theorem LocalPort.sdo_csnHigh (l : LocalPort) (code : Byte) (k : Nat) : l.sdo true code k = none := rfl

/-- What SDO gives while CSN is low, once the command has been taken. -/
theorem LocalPort.sdo_of_reply {l : LocalPort} {r : Reply} (h : l.reply = some r) (code : Byte) (k : Nat) :
    l.sdo false code k = some (if k < argumentBytes code + 2 then 0
      else (r.result.code :: r.response).getD (k - (argumentBytes code + 2)) 0) := by
  simp only [LocalPort.sdo, h]
  by_cases hk : k < argumentBytes code + 2
  · simp [hk]
  · obtain ⟨j, rfl⟩ : ∃ j, k = argumentBytes code + 2 + j := ⟨k - (argumentBytes code + 2), by omega⟩
    cases j with
    | zero => simp
    | succ j =>
      have e : argumentBytes code + 2 + (j + 1) - (argumentBytes code + 2) = j + 1 := by omega
      have e2 : argumentBytes code + 2 + (j + 1) - (argumentBytes code + 2) - 1 = j := by omega
      simp [hk, e]

/-- The image read from a load's argument bytes is the one they spell. -/
@[simp] theorem imageOf_toList_append {n : Nat} (v : Vector Byte n) (more : List Byte) : imageOf n (v.toList ++ more) = v := by
  apply Vector.ext
  intro i hi
  simp [imageOf, List.getD_eq_getElem?_getD, List.getElem?_append_left]

end Sys2Proof.Machine
end

