-- ==== Sys2Proof/WellFormed.lean ====
section
/-! DEFINITION. Which terms of `Instr` are commands: the checks that the types of the operands leave over. -/

namespace Sys2Proof

open Machine in
/-- A command is well formed when its operands are ones its row can have: an unknown code is unknown (R160), a received
frame is as long as its length byte says (R99), a discarded damaged frame is damaged (R102), a sender fault lies within a
frame (R95, R105), and a SNAPSHOT carries at most five entries (R95). -/
def Instr.wf : Instr → Bool
  | .unknownCommand code => !knownCommand code
  | .senderFault n => decide (n ≤ 359)
  | .frameVetoed rx => rx.bytes.length == rxByteCount rx
  | .frameDiscardedDamaged rx => rx.bytes.length == rxByteCount rx && rxDamaged rx
  | .snapshotAccepted _ p => decide (p.entries.length ≤ 5)
  | .hardwareReset _ | .statusRead | .entryRead _ | .entryScan _ _ | .rosterRead _ | .notifyRead
  | .notifyReadComplete | .countersRead | .countersClear | .acknowledge _ | .purge _ | .silence | .softPoint _ _
  | .profileLoad _ | .setupLoad _ | .start | .leave | .commandDiscarded | .qualifyTimerExpiry _
  | .releaseTimerExpiry _ | .reminderExpiry _ | .lineIdle | .attemptStart | .arbitrationLost | .frameAbandoned
  | .presenceAccepted _ _ | .pointAccepted _ _ | .claimAccepted _ _ | .lostAccepted _ _ | .purgeAccepted _ _
  | .leaveAccepted _ _ | .joinAccepted _ _ | .presenceTimerExpiry | .promotionTimerExpiry | .silenceTimerExpiry _
  | .muteTimerExpiry | .windowTimerExpiry | .attemptTimerExpiry | .pulseTimerExpiry _ | .flasherPhaseChange _
  | .promptTimerExpiry | .attnReleaseEnd | .inputSample _ | .frameStart => true

end Sys2Proof
end

