-- ==== Sys2Proof/Tests/Slice0.lean ====
section
/-! SUPPORT. The model's own tests: an ill-formed term for each check of `Instr.wf`, one or two small runs of each command, and
a concrete state and operands that meet the hypotheses of each statement. -/

set_option Elab.async false

namespace Sys2Proof.Tests

open Sys2Proof Sys2Proof.Machine

/-! ## Well-formedness -/

/-- A frame as received without a line error. -/
def received (bytes : List Byte) : RxFrame :=
  { bytes := bytes.map fun b => { lead := .dominant, data := b, tail := .recessive } }

/-- A LEAVE of station 1 in class 2, the check left out of account. -/
def badLeave : RxFrame := received [0xF5, 0xF8, 1, 0, 0, 0]

theorem test_wf_refuses_known_code : Instr.wf (.unknownCommand 0x31) = false := by decide
theorem test_wf_takes_unknown_code : Instr.wf (.unknownCommand 0x32) = true := by decide
theorem test_wf_refuses_fault_past_the_longest_frame : Instr.wf (.senderFault 360) = false := by decide
theorem test_wf_refuses_vetoed_frame_cut_short : Instr.wf (.frameVetoed (received [0xF5, 0xF8, 1, 0])) = false := by
  decide +kernel
theorem test_wf_refuses_discarded_frame_cut_short :
    Instr.wf (.frameDiscardedDamaged (received [0xF5, 0xF8, 1, 0])) = false := by decide +kernel
theorem test_wf_refuses_discarded_frame_not_damaged :
    Instr.wf (.frameDiscardedDamaged
      (received (Frame.bytes { cls := 2, sender := 1, notice := .leave 0 }))) = false := by decide +kernel
theorem test_wf_takes_damaged_frame : Instr.wf (.frameDiscardedDamaged badLeave) = true := by decide +kernel
theorem test_wf_refuses_six_entries :
    Instr.wf (.snapshotAccepted 1
      { lineCount := 0, first := 0, last := 9
        entries := List.replicate 6 { index := 0, status := 0, occurrence := 0, category := 0, acknowledger := 0x10 } }) =
      false := by decide

/-! ## Small states -/

/-- Category 0 is LATCH at level 1, 1 ACTIVE at level 2, 2 NONE at level 2, 3 a trip category, the others as 0. -/
def demoProfile : Profile :=
  { rate := 0, presenceTens := 100
    categories := Vector.ofFn fun c =>
      { level := if c = 1 ∨ c = 2 then 2 else 1
        ackMode := if c = 1 then .active else if c = 2 then .none else .latch
        trip := c == 3, reminderInterval := 5, reminderLimit := 3 } }

/-- Points 0 and 15 read input lines, 1 and 2 are SOFT, the others unused; point 2 is of the trip category. Output k has the
mode of code k up to 4; output 5 is a LEVEL output with trip forcing. -/
def demoSetup : Setup :=
  { points := Vector.ofFn fun p =>
      { source := if p = 0 then .input 0 else if p = 15 then .input 15 else if p = 1 ∨ p = 2 then .soft else .unused
        category := if p = 2 then 3 else 0, activeLow := p == 15, qualifyTime := 2, releaseTime := 0 }
    rules := Vector.ofFn fun o =>
      { mode := if o = 1 ∨ o = 5 then .level else if o = 2 then .annunciate else if o = 3 then .audible
          else if o = 4 then .pulse else .off
        origins := 0xFFFF, categories := 0xFF, basis := .condition, includeOrphaned := true, activeLow := o == 1
        tripForcing := o == 5, safeOn := true, pulseTens := 5 }
    notifyMask := 0xFF, promptTens := 10 }

/-- The CRC-16 of the demo profile's canonical bytes. -/
def demoDigest : Word16 := 63817

/-- Bring trip set and pins into agreement with the rest. -/
def settled (s : State) : State := s.settleTrip.drivePins

/-- Station 2 with profile and setup loaded, a frame of another station under way, its outputs not yet driven. -/
def loaded : State :=
  { State.reset with
    cs := { stationNumber := 2, profile := some demoProfile, profileDigest := demoDigest, setup := some demoSetup }
    lc := { State.reset.lc with receiverOn := true, assembling := true } }

/-- Still CONFIGURING. -/
def configured : State := settled loaded

/-- A roster with stations 0 and 1 PRESENT and the own record in the state given. -/
def roster (own : RosterState) : Vector RosterRecord 16 :=
  Vector.ofFn fun t =>
    if t = 0 ∨ t = 1 then { state := .present, lastHeard := some 4, suspect := false, silence := some 3000 }
    else if t = 2 then { RosterRecord.absent with state := own }
    else RosterRecord.absent

/-- Point 0 of station 1 stands RAISED in category 0 at occurrence 5. -/
def raisedEntry : Entry :=
  { Entry.pristine with phase := .raised, condition := .active, occurrence := 5, category := some 0, raiseStamp := 6 }

/-- A MEMBER at line count 7 with entry 16 RAISED, its outputs not yet driven. -/
def joined : State :=
  { loaded with
    et := { table := vset loaded.et.table 16 raisedEntry, lineCount := 7, countValid := true }
    ru := { loaded.ru with state := .member, roster := roster .present, presenceTimer := some 1000 } }

/-- A MEMBER at line count 7, with entry 16 RAISED. -/
def member : State := settled joined

/-- The point item of point 1, queued with age 0. -/
def pointItem : Item := { kind := .point 1, cls := 1, age := 0 }

/-- Point 1 stands ACTIVE at its first occurrence and is queued. -/
def activePoints : Vector PointRecord 16 :=
  vset loaded.pu 1 { PointRecord.unloaded with qualified := .active, occurrence := 1, queued := true }

/-- A MEMBER with point 1 queued, on an idle line. -/
def queued : State :=
  settled { joined with
    pu := activePoints
    sq := { items := [pointItem], nextAge := 1, returnPending := false }
    lc := { joined.lc with lineIdle := true, assembling := false } }

/-- What point 1 announces. -/
def pointNotice : PointPayload := { point := 1, category := 0, occurrence := 1, status := 0x80 }

/-- The attempt with it. -/
def pointFlight : InFlight := { item := pointItem, frame := { cls := 1, sender := 2, notice := .point pointNotice } }

/-- The same MEMBER with its attempt in flight after `n` failures. -/
def sending (n : Nat) : State :=
  settled { joined with
    pu := activePoints
    sq := { items := [pointItem], nextAge := 1, returnPending := false }
    lc := { joined.lc with inFlight := some pointFlight, ltx := .frame, vetoCount := n, assembling := false } }

/-- A MEMBER with an item of its own in flight. -/
def sendingItem (x : Item) (n : Notice) : State :=
  settled { joined with
    sq := { items := [x], nextAge := 1, returnPending := false }
    lc := { joined.lc with
      inFlight := some { item := x, frame := { cls := x.cls, sender := 2, notice := n } }, ltx := .frame, assembling := false } }

/-- A MEMBER whose claim on entry 16 is in flight. -/
def claimSends : State :=
  sendingItem { kind := .claim 16 5, cls := 1, age := 0 } (.claim { origin := 1, point := 0, occurrence := 5 })

/-- A MEMBER whose purge of station 5 is in flight. -/
def purgeSends : State := sendingItem { kind := .purge 5, cls := 2, age := 0 } (.purge 5)

/-- A MEMBER with a claim on entry 16 and a PRESENCE queued. -/
def claiming : State :=
  settled { joined with sq :=
    { items := [{ kind := .claim 16 5, cls := 1, age := 0 }, { kind := .presence (some 1000), cls := 3, age := 1 }],
      nextAge := 2, returnPending := false } }

/-- A station in its listening window. -/
def listening : State := settled { loaded with ru := { loaded.ru with state := .listening, windowTimer := some 0 } }

/-- A station in attempt `n` of the state given, its own JOIN accepted, the coverage set full or empty. -/
def rebuilding (st : StationState) (n : Nat) (covered : Bool) : State :=
  settled { loaded with
    et := { loaded.et with lineCount := 7, countValid := true }
    ru := { loaded.ru with
      state := st, roster := roster .joining, presenceTimer := some 0, attemptTimer := some 0, attempt := n, ownJoin := true,
      joinMode := some (if st = .joining then .join else .resync), coverage := Vector.replicate 256 covered } }

/-- The JOIN item of a resync attempt. -/
def joinItem : Item := { kind := .join .resync, cls := 3, age := 0 }

/-- SYNCING with the own JOIN in flight. -/
def syncingSends : State :=
  settled { loaded with
    et := { loaded.et with lineCount := 7, countValid := true }
    ru := { loaded.ru with
      state := .syncing, roster := roster .present, presenceTimer := some 0, attemptTimer := some 0, attempt := 1,
      joinMode := some .resync }
    sq := { items := [joinItem], nextAge := 1, returnPending := false }
    lc := { loaded.lc with
      inFlight := some { item := joinItem, frame :=
        { cls := 3, sender := 2, notice := .join { mode := 1, profileDigest := demoDigest } } }
      ltx := .frame, assembling := false } }

/-- A station muted from the state given. -/
def muted (e : EntryState) (doubtful : Bool) : State :=
  settled { loaded with
    et := { loaded.et with lineCount := 7, countValid := true }
    ru := { loaded.ru with
      state := .muted, entryState := some e, doubtful := doubtful, muteTimer := some 0, roster := roster .present } }

/-- A station that sends its LEAVE, in flight after seven failures. -/
def leaving : State :=
  let item : Item := { kind := .leave .commanded, cls := 2, age := 0 }
  settled { loaded with
    et := { loaded.et with lineCount := 7, countValid := true }
    ru := { loaded.ru with state := .leaving, roster := roster .present }
    sq := { items := [item], nextAge := 1, returnPending := false }
    lc := { loaded.lc with
      inFlight := some { item := item, frame := { cls := 2, sender := 2, notice := .leave 0 } }
      ltx := .frame, vetoCount := 7, assembling := false } }

/-- The state between two frames: nothing is assembled. -/
def between (s : State) : State := { s with lc := { s.lc with assembling := false } }

/-- A MEMBER with its sweep cursor at 200 and an item of its own in flight, its return presence due or not. -/
def ownSends (x : Item) (n : Notice) (back : Bool) : State :=
  settled { joined with
    ru := { joined.ru with cursor := 200 }
    sq := { items := [x], nextAge := 1, returnPending := back }
    lc := { joined.lc with
      inFlight := some { item := x, frame := { cls := x.cls, sender := 2, notice := n } }, ltx := .frame, assembling := false } }

/-- Station 0 as a MEMBER: the lowest-numbered one, and so its own reference. -/
def ownReference : State :=
  settled { joined with
    cs := { joined.cs with stationNumber := 0 }
    ru := { joined.ru with roster := Vector.ofFn fun t =>
      if t = 0 then { RosterRecord.absent with state := .present }
      else if t = 1 then { state := .present, lastHeard := some 4, suspect := false, silence := some 3000 }
      else RosterRecord.absent } }

/-- The roster of a MEMBER at which station 1 is suspect and station 3 JOINING, station 0 in the state given. -/
def uneasyRoster (zero : RosterState) : Vector RosterRecord 16 :=
  Vector.ofFn fun t =>
    if t = 0 then { RosterRecord.absent with state := zero }
    else if t = 1 then { RosterRecord.absent with state := .present, suspect := true }
    else if t = 2 then { RosterRecord.absent with state := .present }
    else if t = 3 then { RosterRecord.absent with state := .joining, silence := some 3000 }
    else RosterRecord.absent

/-- A MEMBER that becomes its own reference when station 0 goes, with a LOST and a SNAPSHOT item queued. -/
def heir (zero : RosterState) : State :=
  settled { joined with
    ru := { joined.ru with roster := uneasyRoster zero, cursor := 9 }
    sq := { items := [{ kind := .lost 1, cls := 1, age := 0 }, { kind := .snapshot, cls := 3, age := 1 }], nextAge := 2,
            returnPending := false } }

/-- A LEAVING station whose claim was taken out of the list while in flight, after `n` failures. -/
def leavingClaim (n : Nat) : State :=
  settled { loaded with
    et := joined.et
    ru := { loaded.ru with state := .leaving, roster := roster .present }
    sq := { items := [{ kind := .leave .commanded, cls := 2, age := 1 }], nextAge := 2, returnPending := false }
    lc := { loaded.lc with
      inFlight := some { item := { kind := .claim 16 5, cls := 1, age := 0 }, frame :=
        { cls := 1, sender := 2, notice := .claim { origin := 1, point := 0, occurrence := 5 } } }
      ltx := .frame, vetoCount := n, assembling := false } }

/-- A resync or join attempt `n` whose timer has expired while the own JOIN is in flight. -/
def expired (st : StationState) (n : Nat) : State :=
  settled { syncingSends with
    ru := { syncingSends.ru with state := st, attemptTimer := none, attempt := n, deferredExpiry := true } }

/-- A station muted as a MEMBER with a claim on entry 16 queued, its roster as given. -/
def mutedWith (r : Vector RosterRecord 16) : State :=
  settled { muted .member false with
    et := joined.et
    ru := { (muted .member false).ru with roster := r }
    sq := { items := [{ kind := .claim 16 5, cls := 1, age := 0 }], nextAge := 1, returnPending := false } }

/-- A MEMBER with six entries in its table, of the points 0 of stations 1 to 6. -/
def crowded : State :=
  { member with et := { member.et with
    table := Vector.ofFn fun i => if i.1 % 16 = 0 ∧ 16 ≤ i.1 ∧ i.1 ≤ 96 then raisedEntry else Entry.pristine } }

/-- The state given with entry 32 RAISED, its point 0 ACTIVE in step with it, and the reminder timer of that point as given. -/
def reminded (s : State) (r : ReminderTimer) : State :=
  settled { s with
    et := { s.et with table := vset s.et.table 32 raisedEntry }
    pu := vset s.pu 0 { PointRecord.unloaded with qualified := .active, occurrence := 5, reminder := r } }

/-- A MEMBER that its own roster calls LOST, with a reminder pending at point 0. -/
def declaredLost : State :=
  (reminded { joined with ru := { joined.ru with roster := roster .lost } } (.running 700)).onPoint 0 fun r =>
    { r with pendingReminders := 2 }

/-- A MEMBER whose POINT for entry 33 is in flight while it holds a claim on that entry. -/
def claimBehindPoint : State :=
  settled { sending 0 with sq :=
    { items := [pointItem, { kind := .claim 33 0, cls := 1, age := 1 }], nextAge := 2, returnPending := false } }

/-- A station muted as a MEMBER, its table doubtful, with one item of each kind that the entry to SYNCING removes. -/
def mutedLoaded : State :=
  settled { muted .member true with
    sq :=
      { items := [{ kind := .claim 16 5, cls := 1, age := 0 }, { kind := .lost 1, cls := 1, age := 1 },
          { kind := .purge 5, cls := 2, age := 2 }, { kind := .snapshot, cls := 3, age := 3 }],
        nextAge := 4, returnPending := false } }

/-- A station muted as a MEMBER, its table doubtful, with point 1 and a PRESENCE queued. -/
def mutedKeeping : State :=
  settled { muted .member true with
    pu := activePoints
    sq :=
      { items := [pointItem, { kind := .presence (some 1000), cls := 3, age := 1 }], nextAge := 2, returnPending := false } }

/-- A station muted from the state given, with an item of each kind that it can then hold, its roster as given. -/
def mutedHolding (e : EntryState) (r : Vector RosterRecord 16) : State :=
  settled { muted e false with
    ru := { (muted e false).ru with roster := r }
    pu := activePoints
    sq :=
      { items := [pointItem, { kind := .claim 16 5, cls := 1, age := 1 }, { kind := .lost 1, cls := 1, age := 2 },
          { kind := .purge 5, cls := 2, age := 3 }, { kind := .presence (some 1000), cls := 3, age := 4 },
          { kind := .join .resync, cls := 3, age := 5 }, { kind := .snapshot, cls := 3, age := 6 }],
        nextAge := 7, returnPending := false } }

/-- A MEMBER that is its own reference, sweeping, with its SNAPSHOT in flight. -/
def sweepSends : State :=
  let item : Item := { kind := .snapshot, cls := 3, age := 0 }
  settled { joined with
    ru := { joined.ru with roster := uneasyRoster .left, cursor := 200 }
    sq := { items := [item], nextAge := 1, returnPending := false }
    lc := { joined.lc with
      inFlight := some { item := item, frame :=
        { cls := 3, sender := 2, notice := .snapshot { lineCount := 7, first := 200, last := 255, entries := [] } } }
      ltx := .frame, assembling := false } }

/-- A MEMBER whose point 1 has fallen since its HELD entry was raised, the fall in flight, its reminder timer running. -/
def fallSends : State :=
  let held : Entry := { raisedEntry with phase := .held, occurrence := 1, acknowledger := some 0 }
  settled { joined with
    et := { joined.et with table := vset joined.et.table 33 held }
    pu := vset loaded.pu 1 { PointRecord.unloaded with occurrence := 1, reminder := .running 700, queued := true }
    sq := { items := [pointItem], nextAge := 1, returnPending := false }
    lc := { joined.lc with
      inFlight := some { item := pointItem, frame :=
        { cls := 1, sender := 2, notice := .point { pointNotice with status := 0 } } }
      ltx := .frame, assembling := false } }

/-- A LEAVING station whose point item was taken out of the list while in flight. -/
def leavingPoint : State :=
  settled { loaded with
    et := joined.et
    ru := { loaded.ru with state := .leaving, roster := roster .present }
    sq := { items := [{ kind := .leave .commanded, cls := 2, age := 1 }], nextAge := 2, returnPending := false }
    lc := { loaded.lc with inFlight := some pointFlight, ltx := .frame, assembling := false } }

/-- The lowest-numbered station, JOINING with its coverage set full, at which station 3 is the reference and station 4 suspect. -/
def lowestJoins : State :=
  settled { rebuilding .joining 3 true with
    cs := { loaded.cs with stationNumber := 0 }
    ru := { (rebuilding .joining 3 true).ru with roster := Vector.ofFn fun t =>
      if t = 0 then { RosterRecord.absent with state := .present }
      else if t = 3 then { RosterRecord.absent with state := .present, silence := some 3000 }
      else if t = 4 then { RosterRecord.absent with state := .present, suspect := true }
      else if t = 5 then { RosterRecord.absent with state := .joining, lastHeard := some 4, suspect := true }
      else RosterRecord.absent } }

/-- A station that has left. -/
def offline : State := settled { loaded with ru := { loaded.ru with state := .offline } }

/-- A MEMBER that holds `n` notification records, with a read of the head under way. -/
def notified (n : Nat) : State :=
  { member with lp := { member.lp with
    records := List.replicate n (.tableLoaded 3), attn := true, promptTimer := some 5
    openRead := some { marker := false, dropped := 0 } } }

/-- A MEMBER that holds the overflow marker alone, read and overtaken by `d` drops. -/
def overflowed (d : Nat) : State :=
  { member with lp := { member.lp with
    marker := some 9, attn := true, promptTimer := some 5, openRead := some { marker := true, dropped := d } } }

/-- A MEMBER whose slow flasher has seen `n` reference PRESENCEs since its last restart, late in its off phase. -/
def aligning (n : Nat) : State :=
  settled { joined with ou := { joined.ou with slow := { on := false, remaining := 7, alignment := n } } }

/-- The state a command leads to. -/
def after (c : Instr) (s : State) : State :=
  match exec c s with
  | .next t => t
  | .fault _ => s
  | .refused _ => s

/-! ## The states are sound -/

theorem test_demo_digest : demoProfile.digest = demoDigest := by decide +kernel

theorem settled_outputsOk (s : State) : (settled s).OutputsOk := by
  have h := State.close_outputsOk s.settleTrip s
  have e : State.close s.settleTrip s = settled s := by
    simp only [State.close, State.reportStation, ne_eq, not_true, or_self, if_false]
    rfl
  rwa [e] at h

theorem test_sound_configured : configured.Sound := by
  constructor <;> first | exact settled_outputsOk _ | decide +kernel
theorem test_sound_member : member.Sound := by
  constructor <;> first | exact settled_outputsOk _ | decide +kernel
theorem test_sound_queued : queued.Sound := by
  constructor <;> first | exact settled_outputsOk _ | decide +kernel
theorem test_sound_sending : (sending 7).Sound := by
  constructor <;> first | exact settled_outputsOk _ | decide +kernel
theorem test_sound_claim_sends : claimSends.Sound := by
  constructor <;> first | exact settled_outputsOk _ | decide +kernel
theorem test_sound_purge_sends : purgeSends.Sound := by
  constructor <;> first | exact settled_outputsOk _ | decide +kernel
theorem test_sound_claiming : claiming.Sound := by
  constructor <;> first | exact settled_outputsOk _ | decide +kernel
theorem test_sound_listening : listening.Sound := by
  constructor <;> first | exact settled_outputsOk _ | decide +kernel
theorem test_sound_joining : (rebuilding .joining 3 true).Sound := by
  constructor <;> first | exact settled_outputsOk _ | decide +kernel
theorem test_sound_syncing : (rebuilding .syncing 1 false).Sound := by
  constructor <;> first | exact settled_outputsOk _ | decide +kernel
theorem test_sound_syncing_at_third : (rebuilding .syncing 3 true).Sound := by
  constructor <;> first | exact settled_outputsOk _ | decide +kernel
theorem test_sound_syncing_sends : syncingSends.Sound := by
  constructor <;> first | exact settled_outputsOk _ | decide +kernel
theorem test_sound_muted : (muted .member false).Sound := by
  constructor <;> first | exact settled_outputsOk _ | decide +kernel
theorem test_sound_muted_doubtful : (muted .member true).Sound := by
  constructor <;> first | exact settled_outputsOk _ | decide +kernel
theorem test_sound_muted_joining : (muted .joining false).Sound := by
  constructor <;> first | exact settled_outputsOk _ | decide +kernel
theorem test_sound_leaving : leaving.Sound := by
  constructor <;> first | exact settled_outputsOk _ | decide +kernel
theorem test_sound_own_reference : ownReference.Sound := by
  constructor <;> first | exact settled_outputsOk _ | decide +kernel
theorem test_sound_sweep_sends :
    (ownSends { kind := .snapshot, cls := 3, age := 0 } (.snapshot { lineCount := 7, first := 200, last := 255, entries := [] })
      false).Sound := by
  constructor <;> first | exact settled_outputsOk _ | decide +kernel
theorem test_sound_return_sends :
    (ownSends { kind := .presence none, cls := 1, age := 0 }
      (.presence { state := 3, profileDigest := demoDigest, tableDigest := 0, lineCount := 7, roster := Vector.replicate 8 0 })
      true).Sound := by
  constructor <;> first | exact settled_outputsOk _ | decide +kernel
theorem test_sound_heir : (heir .present).Sound := by
  constructor <;> first | exact settled_outputsOk _ | decide +kernel
theorem test_sound_sweeping : (heir .left).Sound := by
  constructor <;> first | exact settled_outputsOk _ | decide +kernel
theorem test_sound_leaving_claim : (leavingClaim 7).Sound := by
  constructor <;> first | exact settled_outputsOk _ | decide +kernel
theorem test_sound_expired : (expired .syncing 1).Sound := by
  constructor <;> first | exact settled_outputsOk _ | decide +kernel
theorem test_sound_expired_at_third : (expired .joining 3).Sound := by
  constructor <;> first | exact settled_outputsOk _ | decide +kernel
theorem test_sound_muted_claiming : (mutedWith (uneasyRoster .left)).Sound := by
  constructor <;> first | exact settled_outputsOk _ | decide +kernel
theorem test_sound_reminded_sending : (reminded (sending 7) (.running 700)).Sound := by
  constructor <;> first | exact settled_outputsOk _ | decide +kernel
theorem test_sound_reminded_muted : (reminded (muted .member false) (.held 700)).Sound := by
  constructor <;> first | exact settled_outputsOk _ | decide +kernel
theorem test_sound_reminded_joining : (reminded (rebuilding .joining 3 true) .stopped).Sound := by
  constructor <;> first | exact settled_outputsOk _ | decide +kernel
theorem test_sound_claim_behind_point : claimBehindPoint.Sound := by
  constructor <;> first | exact settled_outputsOk _ | decide +kernel
theorem test_sound_muted_loaded : mutedLoaded.Sound := by
  constructor <;> first | exact settled_outputsOk _ | decide +kernel
theorem test_sound_muted_holding : (mutedHolding .member (uneasyRoster .left)).Sound := by
  constructor <;> first | exact settled_outputsOk _ | decide +kernel
theorem test_sound_muted_joining_holding : (mutedHolding .joining (roster .present)).Sound := by
  constructor <;> first | exact settled_outputsOk _ | decide +kernel
theorem test_sound_sweep_goes_on : sweepSends.Sound := by
  constructor <;> first | exact settled_outputsOk _ | decide +kernel
theorem test_sound_fall_sends : fallSends.Sound := by
  constructor <;> first | exact settled_outputsOk _ | decide +kernel
theorem test_sound_leaving_point : leavingPoint.Sound := by
  constructor <;> first | exact settled_outputsOk _ | decide +kernel
theorem test_sound_muted_keeping : mutedKeeping.Sound := by
  constructor <;> first | exact settled_outputsOk _ | decide +kernel
theorem test_sound_lowest_joins : lowestJoins.Sound := by
  constructor <;> first | exact settled_outputsOk _ | decide +kernel
theorem test_sound_offline : offline.Sound := by
  constructor <;> first | exact settled_outputsOk _ | decide +kernel

/-! ## Each command on a small state -/

/-- What a command answers. -/
def reply (c : Instr) (s : State) : Option (ResultCode × List Byte) :=
  (after c s).lp.reply.map fun r => (r.result, r.response)

/-- The demo profile as PROFILE LOAD takes it. -/
def profileImage : Vector Byte 26 := Vector.ofFn fun i => demoProfile.image.getD i.1 0

/-- A setup image that passes every test: all points on input 0, all outputs OFF. -/
def setupImage : Vector Byte 130 := Vector.ofFn fun i => if 80 ≤ i.1 ∧ i.1 < 128 ∧ (i.1 - 80) % 6 = 5 then 1 else 0

/-- A PRESENCE carrying MEMBER and the demo digest, with line count `n`. -/
def presence (n : Word32) : PresencePayload :=
  { state := 3, profileDigest := demoDigest, tableDigest := 0, lineCount := n, roster := Vector.replicate 8 0x33 }

/-- What station 3 carries to it: 0 to 3 PRESENT, 4 PRESENT, 5 LOST, 6 JOINING. -/
def carried : PresencePayload :=
  { presence 7 with roster := Vector.ofFn fun k => if k = 0 ∨ k = 1 then 0x33 else if k = 2 then 0x43 else if k = 3 then 0x01 else 0 }

theorem test_hardwareReset :
    (after (.hardwareReset 5) member).cs.stationNumber = 5 ∧ (after (.hardwareReset 5) member).ru.state = .configuring := by
  decide +kernel
theorem test_statusRead :
    (reply .statusRead member).map (fun r => (r.1, r.2.take 2, r.2.length)) = some (.ok, [2, 3], 30) := by decide +kernel
theorem test_entryRead : reply (.entryRead 16) member = some (.ok, [16, 5, 5, 0, 0x10, 6, 0, 0, 0]) := by decide +kernel
theorem test_entryScan : reply (.entryScan 0 0b0010) member = some (.ok, [16]) := by decide +kernel
theorem test_entryScan_empty : reply (.entryScan 17 0b1110) member = some (.empty, []) := by decide +kernel
theorem test_rosterRead : reply (.rosterRead 1) member = some (.ok, [3, 4, 0, 0, 0, 0]) := by decide +kernel
theorem test_rosterRead_over : reply (.rosterRead 16) member = some (.badArgument, []) := by decide +kernel
theorem test_notifyRead : reply .notifyRead (notified 1) = some (.ok, [5, 3, 0, 0, 0, 0, 0, 0]) := by decide +kernel
theorem test_notifyReadComplete :
    (after .notifyReadComplete (notified 1)).lp.records = [] ∧ (after .notifyReadComplete (notified 1)).lp.attn = false := by
  decide +kernel
theorem test_countersRead : reply .countersRead member = some (.ok, List.replicate 20 0) := by decide +kernel
theorem test_countersClear :
    (after .countersClear { member with lc := { member.lc with counters := { Counters.zero with staleNotices := 9 } } }).lc =
      member.lc := by decide +kernel
theorem test_acknowledge :
    reply (.acknowledge 16) member = some (.ok, []) ∧
      (after (.acknowledge 16) member).sq.items = [{ kind := .claim 16 5, cls := 1, age := 0 }] := by decide +kernel
theorem test_acknowledge_quiet : reply (.acknowledge 17) member = some (.notPending, []) := by decide +kernel
theorem test_purge :
    reply (.purge 5) member = some (.ok, []) ∧
      (after (.purge 5) member).sq.items = [{ kind := .purge 5, cls := 2, age := 0 }] := by decide +kernel
theorem test_purge_present : reply (.purge 1) member = some (.notPending, []) := by decide +kernel
theorem test_silence : (after .silence member).ou.silenceMark = 7 := by decide +kernel
theorem test_softPoint :
    (after (.softPoint 1 1) member).point 1 =
      { PointRecord.unloaded with raw := .active, qualified := .active, occurrence := 1, queued := true } := by decide +kernel
theorem test_softPoint_input : reply (.softPoint 0 1) member = some (.badArgument, []) := by decide +kernel
theorem test_profileLoad :
    reply (.profileLoad profileImage) offline = some (.ok, []) ∧
      (after (.profileLoad profileImage) offline).cs =
        { stationNumber := 2, profile := some demoProfile, profileDigest := demoDigest, setup := none } := by decide +kernel
theorem test_profileLoad_ends_a_release :
    let s : State := { offline with lp := { offline.lp with records := [.tableLoaded 3], releaseTimer := some 1 } }
    (after (.profileLoad profileImage) s).lp.attn = true ∧ (after (.profileLoad profileImage) s).lp.releaseTimer = none := by
  decide +kernel
theorem test_profileLoad_bad : reply (.profileLoad (Vector.replicate 26 0)) offline = some (.badArgument, [1]) := by
  decide +kernel
theorem test_setupLoad :
    reply (.setupLoad setupImage) offline = some (.ok, []) ∧
      ((after (.setupLoad setupImage) offline).pointSource 15) = .input 0 := by decide +kernel
theorem test_setupLoad_bad : reply (.setupLoad (Vector.replicate 130 0)) offline = some (.badArgument, [33]) := by
  decide +kernel
theorem test_start :
    (after .start offline).ru.state = .listening ∧ (after .start offline).ru.windowTimer = some 4000 := by decide +kernel
theorem test_leave :
    (after .leave member).ru.state = .leaving ∧
      (after .leave member).sq.items = [{ kind := .leave .commanded, cls := 2, age := 0 }] := by decide +kernel
theorem test_leave_listening : (after .leave listening).ru.state = .offline := by decide +kernel
theorem test_transaction_gives_its_command :
    transactionCommand [0x13, 1, 0, 0xFF] = .softPoint 1 0 ∧ transactionCommand [0x13, 1] = .commandDiscarded ∧
      transactionCommand [0x32, 7] = .unknownCommand 0x32 := by decide
theorem test_sdo_of_entryScan :
    (List.range 6).map ((after (.entryScan 0 0b0010) member).lp.sdo false 0x03) =
      [some 0, some 0, some 0, some 0, some 0, some 16] := by decide +kernel
theorem test_unknownCommand : reply (.unknownCommand 0x55) member = some (.badCommand, []) := by decide +kernel
theorem test_commandDiscarded : (after .commandDiscarded (notified 1)).lp.openRead = none := by decide +kernel
theorem test_qualifyTimerExpiry :
    ((after (.qualifyTimerExpiry 0) (member.onPoint 0 fun r => { r with qualify := some 0 })).point 0).occurrence = 1 := by
  decide +kernel
theorem test_qualifyTimerExpiry_with_time_left :
    ((after (.qualifyTimerExpiry 0) (member.onPoint 0 fun r => { r with qualify := some 1 })).point 0).qualified = .inactive := by
  decide +kernel
theorem test_releaseTimerExpiry :
    ((after (.releaseTimerExpiry 0)
      (member.onPoint 0 fun r => { r with qualified := .active, release := some 0 })).point 0).qualified = .inactive := by
  decide +kernel
theorem test_reminderExpiry :
    (after (.reminderExpiry 1) (member.onPoint 1 fun r => { r with reminder := .running 0 })).sq.items = [pointItem] := by
  decide +kernel
theorem test_lineIdle : (after .lineIdle (between member)).lc.lineIdle = true := by decide +kernel
theorem test_attemptStart : (after .attemptStart queued).lc.inFlight = some pointFlight := by decide +kernel
theorem test_arbitrationLost :
    (after .arbitrationLost (sending 3)).lc.inFlight = none ∧ (after .arbitrationLost (sending 3)).lc.vetoCount = 3 ∧
      (after .arbitrationLost (sending 3)).sq.items = [pointItem] := by decide +kernel
theorem test_senderFault_near_the_slot : (after (.senderFault 10) (sending 0)).lc.ltx = .faultSlot := by decide +kernel
theorem test_senderFault_far_from_the_slot : (after (.senderFault 11) (sending 0)).lc.ltx = .released := by decide +kernel
theorem test_frameAbandoned : (after .frameAbandoned member).lc = (between member).lc := by decide +kernel
theorem test_presenceAccepted : (after (.presenceAccepted 1 (presence 7)) member).et.lineCount = 8 := by decide +kernel
theorem test_presenceAccepted_in_the_window :
    (after (.presenceAccepted 1 (presence 7)) listening).ru.state = .joining := by decide +kernel
theorem test_pointAccepted :
    (after (.pointAccepted 1 { point := 0, category := 0, occurrence := 5, status := 0x02 }) member).entry 16 =
      { raisedEntry with phase := .lapsed, condition := .inactive, reminders := 2 } := by decide +kernel
theorem test_pointAccepted_own :
    (after (.pointAccepted 2 pointNotice) (sending 3)).sq.items = [] ∧
      (after (.pointAccepted 2 pointNotice) (sending 3)).lc.vetoCount = 0 := by decide +kernel
theorem test_claimAccepted :
    (after (.claimAccepted 0 { origin := 1, point := 0, occurrence := 5 }) claiming).entry 16 =
      { raisedEntry with phase := .held, acknowledger := some 0 } := by decide +kernel
theorem test_claimAccepted_withdraws_the_own :
    (after (.claimAccepted 0 { origin := 1, point := 0, occurrence := 5 }) claiming).sq.items.length = 1 := by decide +kernel
theorem test_lostAccepted :
    ((after (.lostAccepted 0 { target := 1, lastHeard := 4 }) member).record 1).state = .lost ∧
      ((after (.lostAccepted 0 { target := 1, lastHeard := 4 }) member).entry 16).orphaned = true := by decide +kernel
theorem test_lostAccepted_void : ((after (.lostAccepted 0 { target := 1, lastHeard := 5 }) member).record 1).state = .present := by
  decide +kernel
theorem test_purgeAccepted :
    (after (.purgeAccepted 0 1) (member.onRecord 1 fun r => { r with state := .left, silence := none })).entry 16 =
      { raisedEntry with phase := .quiet, condition := .inactive } := by decide +kernel
theorem test_purgeAccepted_void : (after (.purgeAccepted 0 1) member).entry 16 = raisedEntry := by decide +kernel
theorem test_leaveAccepted :
    ((after (.leaveAccepted 1 0) member).record 1).state = .left ∧ ((after (.leaveAccepted 1 0) member).entry 16).orphaned = true := by
  decide +kernel
theorem test_joinAccepted :
    ((after (.joinAccepted 5 { mode := 0, profileDigest := demoDigest }) member).record 5).state = .joining := by decide +kernel
theorem test_joinAccepted_own : (after (.joinAccepted 2 { mode := 1, profileDigest := demoDigest }) syncingSends).ru.ownJoin = true := by
  decide +kernel
theorem test_snapshotAccepted :
    (after (.snapshotAccepted 0 { lineCount := 40, first := 0, last := 16, entries := [Entry.form 16 raisedEntry] })
      (rebuilding .syncing 1 false)).entry 16 = { raisedEntry with raiseStamp := 41 } := by decide +kernel
theorem test_snapshotAccepted_covers :
    (after (.snapshotAccepted 0 { lineCount := 40, first := 0, last := 16, entries := [] })
      (rebuilding .syncing 1 false)).coverageCount = 17 := by decide +kernel
theorem test_frameVetoed_eighth : (after (.frameVetoed badLeave) (sending 7)).ru.state = .muted := by decide +kernel
theorem test_frameVetoed_received : (after (.frameVetoed badLeave) member).lc.counters.vetoesIssued = 1 := by decide +kernel
theorem test_frameDiscardedDamaged : (after (.frameDiscardedDamaged badLeave) (muted .member false)).ru.doubtful = true := by
  decide +kernel
theorem test_frameDiscardedDamaged_counts_its_veto :
    (after (.frameDiscardedDamaged badLeave) member).lc.counters.vetoesIssued = 1 ∧
      (after (.frameDiscardedDamaged badLeave) (muted .member false)).lc.counters.vetoesIssued = 0 := by decide +kernel
theorem test_frameVetoed_unheard : (after (.frameVetoed badLeave) (between member)).lc = (between member).lc := by
  decide +kernel
theorem test_presenceTimerExpiry :
    (after .presenceTimerExpiry member).sq.items = [{ kind := .presence (some 1000), cls := 3, age := 0 }] := by decide +kernel
theorem test_promotionTimerExpiry :
    (after .promotionTimerExpiry claiming).sq.items.map Item.cls = [1, 1] := by decide +kernel
theorem test_silenceTimerExpiry : ((after (.silenceTimerExpiry 1) member).record 1).suspect = true := by decide +kernel
theorem test_muteTimerExpiry :
    (after .muteTimerExpiry (muted .member false)).ru.state = .member ∧
      (after .muteTimerExpiry (muted .member false)).sq.items.length = 5 := by decide +kernel
theorem test_muteTimerExpiry_doubtful : (after .muteTimerExpiry (muted .member true)).ru.state = .syncing := by decide +kernel
theorem test_windowTimerExpiry :
    (after .windowTimerExpiry listening).ru.state = .member ∧ (after .windowTimerExpiry listening).et.countValid = true := by
  decide +kernel
theorem test_attemptTimerExpiry : (after .attemptTimerExpiry (rebuilding .syncing 1 false)).ru.attempt = 2 := by decide +kernel
theorem test_attemptTimerExpiry_third : (after .attemptTimerExpiry (rebuilding .joining 3 true)).ru.state = .refused := by
  decide +kernel
theorem test_pulseTimerExpiry :
    (after (.pulseTimerExpiry 4) { member with ou := { member.ou with pulses := vset member.ou.pulses 4 (some 0) } }).ou.pulses[4] =
      none := by decide +kernel
theorem test_flasherPhaseChange : (after (.flasherPhaseChange .slow) member).ou.slow.on = false := by decide +kernel
theorem test_promptTimerExpiry :
    (after .promptTimerExpiry (notified 1)).lp.attn = false ∧ (after .promptTimerExpiry (notified 1)).lp.releaseTimer = some 1 := by
  decide +kernel
theorem test_attnReleaseEnd : (after .attnReleaseEnd (after .promptTimerExpiry (notified 1))).lp.attn = true := by
  decide +kernel
theorem test_inputSample : ((after (.inputSample 0x0001) member).point 0).qualify = some 2 := by decide +kernel
theorem test_inputSample_active_low : ((after (.inputSample 0x0001) member).point 15).raw = .active := by decide +kernel
theorem test_frameStart : (after .frameStart queued).lc.assembling = true := by decide +kernel

/-- An empty queue lets a millisecond pass; a waiting command is taken. -/
theorem test_step_empty : (match step member with | .next t => t.ru.presenceTimer | _ => none) = some 999 := by decide +kernel
theorem test_step_front :
    (match step { member with pending := [.leave, .statusRead] } with | .next t => t.pending | _ => []) = [.statusRead] := by
  decide +kernel

/-! ## A state and operands that meet the hypotheses of each statement, clause by clause -/

theorem test_witness_StepRunsTheFrontCommand :
    ({ member with pending := [.leave] } : State).pending = .leave :: [] := rfl

theorem test_witness_EmptyQueueLetsOneMillisecondPass : member.pending = [] := rfl

theorem test_witness_StatusReadReturnsTheStation :
    member.ru.state ≠ .muted ∧ (muted .joining true).ru.state = .muted ∧ member.et.countValid = true := by decide +kernel

theorem test_witness_EntryReadAndScanAnswerFromTheTable :
    (0x10#8).extractLsb' 4 4 ≠ 0#4 ∧ (0x0F#8).extractLsb' 4 4 = 0#4 ∧
      ((255#8).toNat ≤ (255 : EntryIndex).1 ∧ (0x01#8).getLsbD (member.entry 255).phase.code.toNat = true) ∧
      ∀ i : EntryIndex, (17#8).toNat ≤ i.1 → ¬(0x0E#8).getLsbD (member.entry i).phase.code.toNat = true := by decide +kernel

theorem test_witness_RosterReadReturnsTheRecord :
    16 ≤ (16#8).toNat ∧ (15#8).toNat = (15 : StationId).1 ∧ (member.record 1).lastHeard = some 4 := by decide +kernel

theorem test_witness_NotifyReadGivesAndRemovesTheHead :
    (member.lp.records = [] ∧ member.lp.marker = none ∧ member.lp.openRead = none) ∧
      ((notified 1).lp.records = [.tableLoaded 3] ∧ (notified 1).lp.openRead = some { marker := false, dropped := 0 }) ∧
      ((overflowed 255).lp.records = [] ∧ (overflowed 255).lp.marker = some 9 ∧
        (overflowed 255).lp.openRead = some { marker := true, dropped := 255 }) := by decide +kernel

theorem test_witness_PushedRecordIsQueuedOrCounted :
    ((notified 30).lp.marker = none ∧ (notified 30).lp.records.length < 31) ∧
      ((notified 31).lp.marker = none ∧ (notified 31).lp.records.length = 31) ∧ (overflowed 0).lp.marker = some 9 ∧
      (member.lp.records = [] ∧ member.lp.marker = none ∧ member.lp.releaseTimer = none) := by decide +kernel

/-- A push onto a queue that holds an item, one during a release, and drops during a read of the marker. -/
theorem test_witness_PushedRecordIsQueuedOrCounted_attn :
    (notified 1).lp.records ≠ [] ∧
      (let l : LocalPort := { member.lp with releaseTimer := some 1 }
       l.releaseTimer ≠ none ∧ (l.push (some 100) (.tableLoaded 3)).attn = false) ∧
      ((overflowed 254).lp.marker ≠ none ∧ (overflowed 254).lp.openRead = some { marker := true, dropped := 254 } ∧
        ((overflowed 254).lp.push none (.tableLoaded 3)).openRead = some { marker := true, dropped := 255 } ∧
        ((overflowed 255).lp.push none (.tableLoaded 3)).openRead = some { marker := true, dropped := 255 }) ∧
      ((notified 31).lp.openRead ≠ none ∧ (notified 31).lp.marker = none) := by decide +kernel

theorem test_witness_AcknowledgeTestsInOrder : member.QueueOk ∧ member.acknowledgeResult 16 = .ok := by decide +kernel

theorem test_witness_PurgeCommandTestsInOrder :
    member.QueueOk ∧ 16 ≤ (16#8).toNat ∧ (15#8).toNat = (15 : StationId).1 ∧ member.purgeResult 15 = .ok := by decide +kernel

theorem test_witness_SilenceMovesTheMark :
    member.OutputsOk ∧ member.et.countValid = true ∧ configured.OutputsOk ∧ configured.et.countValid = false :=
  ⟨settled_outputsOk _, rfl, settled_outputsOk _, rfl⟩

theorem test_witness_SoftPointTakesTheLevel :
    State.reset.cs.setup = none ∧ member.cs.setup = some demoSetup ∧ 16 ≤ (16#8).toNat ∧ 2 ≤ (2#8).toNat ∧
      ((15#8).toNat = (15 : PointId).1 ∧ (demoSetup.points[(15 : PointId)] : PointSetup).source ≠ .soft) ∧
      (2#8).toNat = (2 : PointId).1 ∧ (demoSetup.points[(2 : PointId)] : PointSetup).source = .soft := by decide +kernel

/-- A level that the point holds already, and a change in MEMBER. -/
theorem test_witness_SoftPointTakesTheLevel_clauses :
    (member.point 2).qualified = .inactive ∧ (member.point 2).raw = .inactive ∧ member.OutputsOk ∧ member.ru.state = .member ∧
      ((after (.softPoint 2 0) member).point 2).queued = false ∧ ((after (.softPoint 2 1) member).point 2).queued = true ∧
      (after (.softPoint 2 1) member).pairsEqual 2 = false :=
  ⟨by decide +kernel, by decide +kernel, settled_outputsOk _, by decide +kernel⟩

theorem test_witness_UnknownAndDiscardedCommandsDoNothing :
    (0x32#8) ∉ [0x01#8, 0x02#8, 0x03#8, 0x04#8, 0x05#8, 0x06#8, 0x07#8, 0x10#8, 0x11#8, 0x12#8, 0x13#8, 0x20#8, 0x21#8,
      0x30#8, 0x31#8] ∧
      ([0#8] : List Byte).length < argumentBytes 0x13 ∧ argumentLength 0x32 = none ∧ 0 < argumentBytes 0x01 + 2 ∧
      member.lp.reply = none ∧
      (after (.entryRead 16) member).lp.reply = some { result := .ok, response := [16, 5, 5, 0, 0x10, 6, 0, 0, 0] } := by
  decide +kernel

/-- The demo profile with a reminder limit of 0 in category 7. -/
def profileImageBadLast : Vector Byte 26 := profileImage.set 25 0

theorem test_witness_ProfileLoadTakesTheWholeProfile :
    member.ru.state = .member ∧ offline.ru.state = .offline ∧
      (profileItemFails (profileImage.set 0 4) 0) ∧
      (profileItemFails profileImageBadLast 25 ∧ ∀ k : Fin 25, ¬profileItemFails profileImageBadLast k.1) := by
  unfold profileItemFails
  decide +kernel

theorem test_witness_ProfileLoad_good : ∀ d, ¬profileItemFails profileImage d := by
  have h : ∀ c : CategoryId, (profileImage[2 + 3 * c.1].extractLsb' 0 2).toNat ≠ 3 ∧
      (profileImage[2 + 3 * c.1].extractLsb' 2 2).toNat ≠ 3 ∧
      ¬(profileImage[4 + 3 * c.1].toNat = 0 ∨ 15 < profileImage[4 + 3 * c.1].toNat) := by decide +kernel
  have h0 : ¬3 < profileImage[0].toNat := by decide +kernel
  have h1 : ¬profileImage[1].toNat < 2 := by decide +kernel
  rintro d (⟨-, e⟩ | ⟨-, e⟩ | ⟨c, ⟨-, e⟩ | ⟨-, e⟩ | ⟨-, e⟩⟩)
  · exact h0 e
  · exact h1 e
  · exact (h c).1 e
  · exact (h c).2.1 e
  · exact (h c).2.2 e

/-- Spare bits do not reach the digest. -/
theorem test_profileLoad_spare_bits :
    (after (.profileLoad (profileImage.set 2 (profileImage[2] ||| 0xE0#8))) offline).cs.profileDigest = demoDigest := by
  decide +kernel

/-- The plain setup with a pulse width of 0 in output 7. -/
def setupImageBadLast : Vector Byte 130 := setupImage.set 127 0

theorem test_witness_SetupLoadTakesTheWholeSetup :
    member.ru.state = .member ∧ State.reset.cs.profile = none ∧ offline.ru.state = .offline ∧
      offline.cs.profile ≠ none ∧ setupItemFails (setupImage.set 0 16) 0 ∧
      (setupItemFails setupImageBadLast 47 ∧ ∀ k : Fin 47, ¬setupItemFails setupImageBadLast k.1) := by
  unfold setupItemFails
  decide +kernel

theorem test_witness_SetupLoad_good : ∀ d, ¬setupItemFails setupImage d := by
  have h : ∀ p : PointId, ¬(15 < setupImage[5 * p.1].toNat) ∧ ¬(7 < setupImage[5 * p.1 + 1].toNat) := by decide +kernel
  have g : ∀ o : OutputId, ¬(4 < setupImage[80 + 6 * o.1].toNat) ∧ setupImage[85 + 6 * o.1] ≠ 0#8 := by decide +kernel
  rintro d (⟨p, ⟨-, e, -⟩ | ⟨-, e⟩⟩ | ⟨o, ⟨-, e⟩ | ⟨-, e⟩⟩)
  · exact (h p).1 e
  · exact (h p).2 e
  · exact (g o).1 e
  · exact (g o).2 e

theorem test_witness_StartEntersListening :
    offline.Sound ∧ offline.ru.state = .offline ∧ offline.cs.profile = some demoProfile ∧ offline.cs.setup ≠ none ∧
      member.Sound ∧ member.ru.state = .member :=
  ⟨test_sound_offline, rfl, rfl, by decide +kernel, test_sound_member, rfl⟩

theorem test_witness_LeaveByOwnState :
    (offline.Sound ∧ offline.ru.state = .offline) ∧ (leaving.Sound ∧ leaving.ru.state = .leaving) ∧
      (listening.Sound ∧ listening.ru.state = .listening) ∧ (member.Sound ∧ member.ru.state = .member) ∧
      (muted .member false).Sound ∧ (muted .member false).ru.state = .muted :=
  ⟨⟨test_sound_offline, rfl⟩, ⟨test_sound_leaving, rfl⟩, ⟨test_sound_listening, rfl⟩, ⟨test_sound_member, rfl⟩,
    test_sound_muted, rfl⟩

/-- The entries to OFFLINE and REFUSED from LISTENING stop a silence timer and clear the veto count. -/
theorem test_leave_listening_freezes :
    let s : State := { listening with
      ru := { listening.ru with roster := roster .present }, lc := { listening.lc with vetoCount := 3 } }
    (s.record 1).silence = some 3000 ∧ s.rosterFrozen (after .leave s) ∧ (after .leave s).lc.vetoCount = 0 ∧
      (let t := after (.presenceAccepted 1 { presence 7 with profileDigest := 0 }) s
       t.ru.state = .refused ∧ s.rosterFrozen t ∧ t.lc.vetoCount = 0) := by decide +kernel

theorem test_witness_InputSampleMovesRawLevelsAndTimers :
    member.cs.setup = some demoSetup ∧ (demoSetup.points[(15 : PointId)] : PointSetup).source = .input 15 ∧
      ∀ k : Fin 16, (demoSetup.points[(14 : PointId)] : PointSetup).source ≠ .input k := by decide +kernel

theorem test_witness_QualificationEndsAsTheTimerSays :
    let a := member.onPoint 15 fun r => { r with qualify := some 0 }
    let b := member.onPoint 15 fun r => { r with qualified := .active, release := some 0 }
    let c := member.onPoint 15 fun r => { r with qualify := some 1 }
    ((a.point 15).qualified = .inactive ∧ (a.point 15).qualify = some 0) ∧
      ((b.point 15).qualified = .active ∧ (b.point 15).release = some 0) ∧ (c.point 15).qualify ≠ some 0 ∧
      (member.point 15).release ≠ some 0 := by decide +kernel

theorem test_witness_ReminderExpiryQueuesThePoint :
    ((member.onPoint 1 fun r => { r with reminder := .running 0 }).point 1).reminder = .running 0 ∧
      (member.point 1).reminder = .stopped ∧ member.cs.setup = some demoSetup ∧ member.cs.profile = some demoProfile := by
  decide +kernel

theorem test_witness_IdleAndFrameStart :
    ((between member).lc.receiverOn = true ∧ (between member).lc.assembling = false ∧ (between member).lc.inFlight = none) ∧
      (queued.lc.receiverOn = true ∧ queued.lc.lineIdle = true) ∧ State.reset.lc.receiverOn = false := by decide +kernel

theorem test_witness_AttemptStartsWithTheHeadItem :
    (queued.lc.receiverOn = true ∧ queued.lc.lineIdle = true ∧ queued.lc.inFlight = none ∧
      queued.sq.items = [] ++ pointItem :: [] ∧ queued.mayOffer pointItem) ∧
      member.lc.lineIdle = false ∧ member.sq.items = [] := by decide +kernel

/-- In SYNCING the PRESENCE item kept at the entry is sent before the JOIN item, and so is one queued since. -/
theorem test_witness_AttemptStartsWithTheHeadItem_syncing :
    let kept : Item := { kind := .presence (some 1000), cls := 3, age := 1 }
    let since : Item := { kind := .presence (some 1000), cls := 3, age := 0 }
    (let t := after .lineIdle (after (.presenceAccepted 0 (presence 9)) claiming)
     t.ru.state = .syncing ∧ t.sq.items = [] ++ kept :: [{ kind := .join .resync, cls := 3, age := 2 }] ∧ t.mayOffer kept ∧
      ((after .attemptStart t).lc.inFlight.map InFlight.item) = some kept) ∧
      (let t := after .lineIdle (after .presenceTimerExpiry (between (rebuilding .syncing 1 false)))
       t.ru.state = .syncing ∧ t.sq.items = [] ++ since :: [] ∧ t.mayOffer since ∧
        ((after .attemptStart t).lc.inFlight.map InFlight.item) = some since) := by decide +kernel

/-- A SYNCING station passes over its point item. -/
theorem test_witness_AttemptStartsWithTheHeadItem_point :
    let t := after .lineIdle (between (after .muteTimerExpiry mutedKeeping))
    t.ru.state = .syncing ∧ t.sq.items.head? = some pointItem ∧ ¬t.mayOffer pointItem ∧
      ((after .attemptStart t).lc.inFlight.map fun f => f.item.age) = some 1 := by decide +kernel

theorem test_witness_NoticeIsBuiltFromCurrentState :
    queued.cs.setup = some demoSetup ∧ queued.buildNotice (.presence none) = .presence queued.presencePayload := ⟨rfl, rfl⟩

theorem test_witness_FailedAttemptKeepsItsItem :
    (sending 6).OutputsOk ∧ (sending 6).lc.inFlight = some pointFlight ∧ (sending 6).ru.deferredExpiry = false ∧
      (∃ x ∈ (sending 6).sq.items, x.age = pointFlight.item.age) ∧ (sending 6).lc.vetoCount + 1 < 8 ∧
      (sending 6).lc.receiverOn = true :=
  ⟨settled_outputsOk _, rfl, rfl, ⟨pointItem, List.mem_singleton.2 rfl, rfl⟩, by decide, rfl⟩

/-- The OUTCOME of an item that a LEAVE command took out of the list comes at the failure. -/
theorem test_witness_FailedAttemptKeepsItsItem_removed :
    (leavingClaim 6).OutputsOk ∧ (leavingClaim 6).ru.deferredExpiry = false ∧
      (∀ x ∈ (leavingClaim 6).sq.items, x.age ≠ 0) ∧
      (after .arbitrationLost (leavingClaim 6)).lp.records = [.outcome (.claim 16) (.void .withdrawn none)] :=
  ⟨settled_outputsOk _, by decide +kernel⟩

theorem test_witness_OthersFramesAreDropped :
    (member.receives ∧ member.lc.ltx = .released ∧ rxDamaged badLeave = true) ∧
      (muted .member false).receives ∧ (muted .member false).lc.ltx = .released := by decide +kernel

/-- A station that faulted ten bit-times before the slot: at the slot nothing is counted and LTX is released. -/
theorem test_witness_OthersFramesAreDropped_faulted :
    let s := after (.senderFault 10) (sending 0)
    s.lc.receiverOn = true ∧ s.lc.inFlight = none ∧ s.lc.ltx = .faultSlot ∧ s.lc.counters.ownAbandoned = 1 ∧
      (after (.frameVetoed badLeave) s).lc.ltx = .released ∧
      (after (.frameVetoed badLeave) s).lc.counters = s.lc.counters := by decide +kernel

theorem test_witness_EighthFailureMutesTheStation :
    ((sending 7).Sound ∧ (sending 7).lc.inFlight = some pointFlight ∧ (sending 7).lc.vetoCount = 7 ∧
      (∃ x ∈ (sending 7).sq.items, x.age = pointFlight.item.age) ∧ (sending 7).ru.state = .member) ∧
      leaving.Sound ∧ leaving.lc.inFlight ≠ none ∧ leaving.lc.vetoCount = 7 ∧ leaving.ru.state = .leaving :=
  ⟨⟨test_sound_sending, rfl, rfl, ⟨pointItem, List.mem_singleton.2 rfl, rfl⟩, rfl⟩, test_sound_leaving, by decide +kernel, rfl,
    rfl⟩

theorem test_witness_EighthFailureMutesTheStation_removed :
    (leavingClaim 7).Sound ∧ (leavingClaim 7).lc.vetoCount = 7 ∧ (leavingClaim 7).ru.state = .leaving ∧
      (after (.senderFault 0) (leavingClaim 7)).lp.records =
        [.outcome (.claim 16) (.void .withdrawn none), .station .offline none { TripReasons.clear with uncertain := true }] :=
  ⟨test_sound_leaving_claim, rfl, rfl, by decide +kernel⟩

/-- What the line counters and LTX are after the eighth failure, ten and eleven bit-times before the slot and at the slot. -/
theorem test_witness_EighthFailureMutesTheStation_line :
    ((after (.senderFault 10) (sending 7)).lc.counters = { Counters.zero with ownAbandoned := 1 } ∧
      (after (.senderFault 10) (sending 7)).lc.ltx = .faultSlot ∧ (after (.senderFault 11) (sending 7)).lc.ltx = .released) ∧
      (after (.frameVetoed badLeave) (sending 7)).lc.counters = { Counters.zero with framesVetoed := 1, ownVetoed := 1 } := by
  decide +kernel

/-- A running reminder timer at the entry to MUTED. -/
theorem test_witness_EighthFailureMutesTheStation_reminder :
    let s := reminded (sending 7) (.running 700)
    s.Sound ∧ s.lc.inFlight = some pointFlight ∧ s.lc.vetoCount = 7 ∧ s.ru.state = .member ∧
      (s.point 0).reminder = .running 700 ∧ ((after (.senderFault 0) s).point 0).reminder = .held 700 :=
  ⟨test_sound_reminded_sending, by decide +kernel⟩

theorem test_witness_FrameBytesFollowTheLayout :
    payloadLengthOk (noticeKind (.point pointNotice)) (noticePayload (.point pointNotice)).length = true := by decide

/-- The receiver's tests: a wrong check, a length of 33 with the 32 payload bytes then assembled, and a frame as built. -/
theorem test_witness_FrameBytesFollowTheLayout_received :
    (badLeave.bytes.map (·.data) = [0xF5, 0xF8, 1] ++ [0] ++ [0, 0] ∧ rxDamaged badLeave = true) ∧
      (let f := received ([0xF5, 0xF8, 33] ++ List.replicate 32 0 ++ [0, 0])
       f.bytes.map (·.data) = [0xF5, 0xF8, 33] ++ List.replicate 32 0 ++ [0, 0] ∧
        (List.replicate 32 (0 : Byte)).length = (if (33#8).toNat ≤ 32 then (33#8).toNat else 32) ∧ rxDamaged f = true) ∧
      (let b := Frame.bytes { cls := 2, sender := 1, notice := .leave 0 }
       (received b).bytes.map (·.data) = [0xF5, 0xF8, 1] ++ [0] ++ b.drop 4 ∧ b.length = 6 ∧
        rxDamaged (received b) = false) := by decide +kernel

/-- The check over two bytes, by the bits. -/
theorem test_crc_of_two_bytes : crc16 [0x12#8, 0x80#8] = crcByte (crc16 [0x12#8]) 0x80 ∧ crc16 [] = 0xFFFF#16 := by
  decide +kernel

theorem test_witness_SegmentGivesTheSendersEntries :
    ∀ i : EntryIndex, (member.entry i).category = none → member.entry i = Entry.pristine := test_sound_member.entries

/-- A sixth entry bounds the segment. -/
theorem test_witness_SegmentGivesTheSendersEntries_sixth :
    (∀ i : EntryIndex, (crowded.entry i).category = none → crowded.entry i = Entry.pristine) ∧
      crowded.segment.entries.length = 5 ∧ crowded.segment.last = 95 ∧ member.segment.last = 255 := by decide +kernel

theorem test_witness_OccurrencesCompareModulo256 :
    compareOccurrence 127 0 = .newer ∧ compareOccurrence 128 0 = .older ∧ compareOccurrence 0 1 = .older ∧
      compareOccurrence 0 255 = .newer ∧ compareOccurrence 9 9 = .same := by decide

theorem test_witness_LineCountsCompareModulo :
    later 0x7FFFFFFF 0 = true ∧ later 0x80000000 0 = false ∧ later 0 0xFFFFFFFF = true ∧ later 5 5 = false ∧
      (demoSetup.rules[(3 : OutputId)] : OutputRule).mode = .audible := by decide +kernel

theorem test_witness_TableChangesOnlyAtItsEvents : mayChangeTable .leave = false := rfl

theorem test_witness_AcceptedFrameIsCountedAndHeard :
    (member.receives ∧ member.applies = true ∧ member.takesSegment 0 = false) ∧
      ((rebuilding .syncing 1 false).receives ∧ (rebuilding .syncing 1 false).applies = true ∧
        (rebuilding .syncing 1 false).takesSegment 0 = true) ∧
      (listening.receives ∧ listening.applies = false ∧ ∀ p, Notice.leave 0 ≠ .presence p) ∧
      (between member).lc.inFlight = none ∧ (between member).lc.assembling = false ∧ State.reset.lc.receiverOn = false :=
  ⟨by decide +kernel, by decide +kernel, ⟨⟨rfl, rfl, rfl⟩, rfl, fun _ h => nomatch h⟩, rfl, rfl, rfl⟩

/-- LOST and SNAPSHOT items that leave and stay, a station that becomes its own reference, a sweep that begins and goes on. -/
theorem test_witness_AcceptedFrameIsCountedAndHeard_items :
    ((heir .present).Sound ∧ (heir .present).receives ∧ (heir .present).applies = true ∧
      (heir .present).sq.items.map Item.kind = [.lost 1, .snapshot] ∧
      (after (.leaveAccepted 1 0) (heir .present)).hasItem (· == .lost 1) = false ∧
      (after (.leaveAccepted 1 0) (heir .present)).hasItem (· == .snapshot) = true ∧
      (after (.leaveAccepted 3 0) (heir .present)).hasItem (· == .snapshot) = false) ∧
      (¬(heir .present).namesItself ∧ ¬(heir .present).sweepCondition ∧
        (let t := after (.leaveAccepted 0 0) (heir .present)
         t.namesItself ∧ t.sweepCondition ∧ t.hasItem (· == .lost 1) = true ∧ t.ru.cursor = 0)) ∧
      (heir .left).Sound ∧ (heir .left).receives ∧ (heir .left).sweepCondition ∧
      (let t := after (.joinAccepted 5 { mode := 0, profileDigest := demoDigest }) (heir .left)
       t.sweepCondition ∧ t.ru.cursor = 9) :=
  ⟨⟨test_sound_heir, by decide +kernel⟩, by decide +kernel, test_sound_sweeping, by decide +kernel⟩

/-- The sender's silence timer, its record's state kept and gone; a frame with the own number. -/
theorem test_witness_AcceptedFrameIsCountedAndHeard_sender :
    member.Sound ∧ member.receives ∧ (1 : StationId) ≠ member.cs.stationNumber ∧
      (let t := after (.purgeAccepted 1 5) member
       (t.record 1).stands ∧ (t.record 1).silence = some 3000 ∧ (t.record 1).state = (member.record 1).state) ∧
      (let t := after (.leaveAccepted 1 0) member
       ¬(t.record 1).stands ∧ (t.record 1).silence = none) ∧
      (0x81#8).toNat % 16 ≠ (0 : StationId).1 ∧
      ((after (.pointAccepted 2 pointNotice) member).record 2).silence = none :=
  ⟨test_sound_member, by decide +kernel⟩

/-- The ack modes of the profile held, and an entry of a category with mode NONE. -/
theorem test_ackMode_of_the_profile :
    member.cs.profile = some demoProfile ∧ member.ackMode 0 = .latch ∧ member.ackMode 1 = .active ∧ member.ackMode 2 = .none ∧
      member.entryAckNone { raisedEntry with category := some 2 } = true ∧ member.entryAckNone raisedEntry = false := by
  decide +kernel

theorem test_witness_PointNoticeWritesItsEntry :
    member.receives ∧ member.applies = true ∧ compareOccurrence 132 (member.entry 16).occurrence = .newer ∧
      compareOccurrence 133 (member.entry 16).occurrence = .older ∧
      compareOccurrence 5 (member.entry 16).occurrence = .same ∧ 16 ≤ (16#8).toNat ∧ 8 ≤ (8#8).toNat ∧
      (after (.pointAccepted 1 { point := 0, category := 0, occurrence := 6, status := 0x80 }) member).lp.marker = none := by
  decide +kernel

theorem test_witness_NewOccurrenceStartsPulses :
    member.receives ∧ member.cs.setup = some demoSetup ∧ member.ru.state = .member ∧
      (muted .member false).receives ∧ (muted .member false).ru.entryState = some .member :=
  ⟨⟨rfl, rfl, rfl⟩, rfl, rfl, ⟨rfl, rfl, rfl⟩, rfl⟩

theorem test_witness_ClaimWinsOrIsVoid :
    member.receives ∧ member.applies = true ∧
      ((member.entry 16).occurrence = 5 ∧ member.entryAckNone (member.entry 16) = false ∧
        (member.entry 16).acknowledger = none ∧ (member.entry 16).phase = .raised) ∧ (member.entry 17).phase = .quiet ∧
      16 ≤ (16#8).toNat := by decide +kernel

theorem test_witness_PurgeClearsADepartedOrigin :
    member.receives ∧ member.applies = true ∧ (member.record 15).state = .absent ∧ (member.record 1).state = .present ∧
      16 ≤ (16#8).toNat := by decide +kernel

theorem test_witness_LostDeclaresASilentStation :
    member.receives ∧ member.applies = true ∧ (0x81#8).toNat % 16 = (1 : StationId).1 ∧
      (member.record 1).state = .present ∧ (member.record 1).lastHeard = some 4 ∧ (member.record 5).state = .absent := by
  decide +kernel

/-- A LOST that names the own station, in MEMBER. -/
theorem test_witness_LostDeclaresASilentStation_own :
    member.receives ∧ member.applies = true ∧ (0x82#8).toNat % 16 = (2 : StationId).1 ∧ (2 : StationId) = member.cs.stationNumber ∧
      member.ru.state = .member ∧ (member.record 2).state = .present ∧ (0x82#8).getLsbD 7 = true ∧
      (after (.lostAccepted 0 { target := 0x82, lastHeard := 0 }) member).hasItem ItemKind.isPresence = true := by
  decide +kernel

theorem test_witness_LeaveDepartsItsSender :
    member.receives ∧ member.applies = true ∧ (1#8).toNat ≤ 1 ∧ 2 ≤ (2#8).toNat := by decide +kernel

theorem test_witness_JoinBringsInItsSender :
    member.receives ∧ member.applies = true ∧ (1 : StationId) ≠ member.cs.stationNumber ∧ 2 ≤ (2#8).toNat ∧
      ¬member.sweepCondition := by decide +kernel

/-- A JOIN at which a sweep starts. -/
theorem test_witness_JoinBringsInItsSender_sweep :
    ownReference.receives ∧ ownReference.applies = true ∧ (5 : StationId) ≠ ownReference.cs.stationNumber ∧
      ¬ownReference.sweepCondition ∧
      (after (.joinAccepted 5 { mode := 0, profileDigest := demoDigest }) ownReference).sweepCondition := by decide +kernel

theorem test_witness_PresenceDecidesTheWindow :
    listening.Sound ∧ listening.ru.state = .listening ∧ listening.receives ∧
      presenceMeaning (presence 7) = some .member ∧ (presence 7).profileDigest = listening.cs.profileDigest ∧
      presenceMeaning { presence 7 with state := 2 } = some .joining :=
  ⟨test_sound_listening, by decide +kernel⟩

theorem test_witness_PresenceUpdatesItsSenderAndIsCompared :
    member.receives ∧ member.applies = true ∧ (0 : StationId) ≠ member.cs.stationNumber ∧
      presenceMeaning { presence 7 with state := 5 } = none ∧ member.ru.state = .member ∧ member.reference = some 0 ∧
      presenceMeaning (presence 7) = some .member ∧ (presence 7).profileDigest = member.cs.profileDigest ∧
      (presence 9).lineCount ≠ member.et.lineCount ∧
      (after (.presenceAccepted 0 (presence 9)) member).ru.state = .syncing ∧
      (after (.presenceAccepted 1 (presence 9)) member).ru.state = .member := by decide +kernel

/-- A PRESENCE with a meaning and without one, at the ends of the ranges: states 1 to 5, nibbles 5 and 6. -/
theorem test_witness_PresenceUpdatesItsSenderAndIsCompared_meaning :
    let carrying : Byte → PresencePayload := fun b => { presence 7 with state := b }
    let last : Byte → PresencePayload := fun b => { presence 7 with roster := vset (presence 7).roster 7 b }
    presenceMeaning (carrying 1) = none ∧ presenceMeaning (carrying 2) = some .joining ∧
      presenceMeaning (carrying 3) = some .member ∧ presenceMeaning (carrying 4) = some .syncing ∧
      presenceMeaning (carrying 5) = none ∧ presenceMeaning (last 0x55) = some .member ∧
      presenceMeaning (last 0x65) = none ∧ presenceMeaning (last 0x56) = none := by decide +kernel

/-- The point items and the PRESENCE item kept at the entry to SYNCING, and a PRESENCE that changes nothing in SYNCING. -/
theorem test_witness_PresenceUpdatesItsSenderAndIsCompared_kept :
    (let s := claiming
     let t := after (.presenceAccepted 0 (presence 9)) s
     s.receives ∧ t.ru.state = .syncing ∧ (∃ x ∈ s.sq.items, x.kind.isPresence = true) ∧
      s.keepsAtSyncing t) ∧
      (let s := rebuilding .syncing 1 false
       s.receives ∧ s.applies = true ∧ (after (.presenceAccepted 1 (presence 9)) s).ru.state = .syncing) := by
  decide +kernel

theorem test_witness_ReferencePresenceCompletesTheJoin :
    ((rebuilding .joining 3 true).Sound ∧ (rebuilding .joining 3 true).receives ∧
      (rebuilding .joining 3 true).ru.state = .joining ∧ (rebuilding .joining 3 true).ru.ownJoin = true ∧
      (∀ i : EntryIndex, (rebuilding .joining 3 true).ru.coverage[i] = true) ∧
      (rebuilding .joining 3 true).reference = some 0) ∧
      (rebuilding .syncing 3 true).Sound ∧ (rebuilding .syncing 3 true).ru.state = .syncing ∧
      presenceMeaning (presence 7) = some .member ∧ (presence 7).profileDigest = demoDigest :=
  ⟨⟨test_sound_joining, by decide +kernel⟩, test_sound_syncing_at_third, by decide +kernel⟩

/-- A reminder timer that may run at the completion. -/
theorem test_witness_ReferencePresenceCompletesTheJoin_reminder :
    let s := reminded (rebuilding .joining 3 true) .stopped
    let t := after (.presenceAccepted 0 (presence 7)) s
    s.Sound ∧ s.receives ∧ s.reference = some 0 ∧ t.mayRemind 0 = true ∧ (t.point 0).reminder = .running 5000 ∧
      t.mayRemind 1 = false :=
  ⟨test_sound_reminded_joining, by decide +kernel⟩

/-- A station that becomes its own reference at its completion: records adopted, a LOST item, a sweep. -/
theorem test_witness_ReferencePresenceCompletesTheJoin_duties :
    let s := lowestJoins
    let t := after (.presenceAccepted 3 carried) s
    s.Sound ∧ s.receives ∧ s.reference = some 3 ∧ presenceMeaning carried = some .member ∧ t.namesItself ∧ t.sweepCondition ∧
      t.record 3 = { state := .present, lastHeard := some 8, suspect := false, silence := some 3000 } ∧
      t.record 4 = s.record 4 ∧ t.record 5 = { RosterRecord.absent with state := .lost, lastHeard := some 4 } ∧
      t.record 6 = { RosterRecord.absent with state := .joining, silence := some 3000 } ∧
      t.hasItem (· == .lost 4) = true ∧ t.hasItem (· == .snapshot) = true :=
  ⟨test_sound_lowest_joins, by decide +kernel⟩

theorem test_witness_SegmentOverwritesItsRange :
    ((rebuilding .syncing 1 false).receives ∧ (rebuilding .syncing 1 false).applies = true ∧
      ((rebuilding .syncing 1 false).record 0).state = .present) ∧
      segmentMalformed { lineCount := 9, first := 0, last := 255, entries := [] } = false ∧
      segmentMalformed { lineCount := 9, first := 1, last := 0, entries := [] } = true ∧
      member.receives ∧ member.applies = true := by decide +kernel

/-- Each way in which a carried entry makes a segment malformed, at the ends of the range from 16 to 17, and one in which none
does. -/
theorem test_witness_SegmentOverwritesItsRange_malformed :
    let good : EntryForm := Entry.form 16 raisedEntry
    let seg : List EntryForm → Bool := fun l => segmentMalformed { lineCount := 9, first := 16, last := 17, entries := l }
    seg [good, { good with index := 17 }] = false ∧ seg [{ good with index := 17 }, good] = true ∧ seg [good, good] = true ∧
      seg [{ good with index := 15 }] = true ∧ seg [{ good with index := 18 }] = true ∧
      seg [{ good with category := 0x08 }] = true ∧ seg [{ good with acknowledger := 0x11 }] = true ∧
      seg [{ good with acknowledger := 0x10 }] = false ∧ seg [Entry.form 16 Entry.pristine] = true := by decide +kernel

theorem test_witness_OwnFrameSettlesItsItem :
    (sending 7).Sound ∧ (sending 7).lc.receiverOn = true ∧ (sending 7).lc.inFlight = some pointFlight ∧
      noticeKind (.point pointNotice) = noticeKind pointFlight.frame.notice ∧ (sending 7).applies = true ∧
      (sending 7).ru.deferredExpiry = false ∧ (expired .syncing 1).Sound ∧ (expired .syncing 1).ru.attempt < 3 :=
  ⟨test_sound_sending, rfl, rfl, rfl, rfl, rfl, test_sound_expired, by decide +kernel⟩

/-- The sender's own table takes its POINT. -/
theorem test_pointAccepted_own_table :
    (after (.pointAccepted 2 pointNotice) (sending 3)).entry 33 =
      { Entry.pristine with phase := .raised, condition := .active, occurrence := 1, category := some 0, raiseStamp := 8 } := by
  decide +kernel

/-- A claim that wins and a purge that is valid, their records not dropped; a LEAVE; a JOIN in SYNCING. -/
theorem test_witness_OwnFrameSettlesItsItem_clauses :
    (claimSends.Sound ∧ claimSends.applies = true ∧
      (after (.claimAccepted 2 { origin := 1, point := 0, occurrence := 5 }) claimSends).lp.records.getLast? =
        some (.outcome (.claim 16) (.won 2))) ∧
      (purgeSends.Sound ∧ purgeSends.applies = true ∧
        (after (.purgeAccepted 2 5) purgeSends).lp.records = [.outcome (.purge 5) .done]) ∧
      (leaving.Sound ∧ leaving.applies = true ∧ (after (.leaveAccepted 2 0) leaving).ru.state = .offline) ∧
      (syncingSends.Sound ∧ syncingSends.applies = true ∧ syncingSends.ru.deferredExpiry = false ∧
        (after (.joinAccepted 2 { mode := 1, profileDigest := demoDigest }) syncingSends).ru.ownJoin = true) :=
  ⟨⟨test_sound_claim_sends, by decide +kernel⟩, ⟨test_sound_purge_sends, by decide +kernel⟩, ⟨test_sound_leaving, by decide +kernel⟩,
    test_sound_syncing_sends, by decide +kernel⟩

/-- The own SNAPSHOT that reaches index 255, and the own PRESENCE on which the items of the other kinds wait. -/
theorem test_witness_OwnFrameSettlesItsItem_cursor :
    let p : SnapshotPayload := { lineCount := 7, first := 200, last := 255, entries := [] }
    let s := ownSends { kind := .snapshot, cls := 3, age := 0 } (.snapshot p) false
    let q : PresencePayload :=
      { state := 3, profileDigest := demoDigest, tableDigest := 0, lineCount := 7, roster := Vector.replicate 8 0 }
    let r := ownSends { kind := .presence none, cls := 1, age := 0 } (.presence q) true
    (s.Sound ∧ s.applies = true ∧ s.ru.cursor = 200 ∧ (after (.snapshotAccepted 2 p) s).ru.cursor = 0) ∧
      r.Sound ∧ r.sq.returnPending = true ∧ (after (.presenceAccepted 2 q) r).sq.returnPending = false :=
  ⟨⟨test_sound_sweep_sends, by decide +kernel⟩, test_sound_return_sends, by decide +kernel⟩

/-- The own SNAPSHOT that stays, with the cursor moved on, while station 3 is JOINING. -/
theorem test_witness_OwnFrameSettlesItsItem_sweep :
    let t := after (.snapshotAccepted 2 { lineCount := 7, first := 200, last := 255, entries := [] }) sweepSends
    sweepSends.Sound ∧ sweepSends.ru.state = .member ∧ t.someoneRebuilds ∧ t.sq.items = sweepSends.sq.items ∧
      t.ru.cursor = 0 :=
  ⟨test_sound_sweep_goes_on, by decide +kernel⟩

/-- Own claims and an own purge that are void: the occurrence changed, the entry acknowledged by station 1, the origin present. -/
theorem test_witness_OwnFrameSettlesItsItem_void :
    (let s := sendingItem { kind := .claim 16 4, cls := 1, age := 0 } (.claim { origin := 1, point := 0, occurrence := 4 })
     (after (.claimAccepted 2 { origin := 1, point := 0, occurrence := 4 }) s).lp.records =
      [.outcome (.claim 16) (.void .occurrenceChanged none)]) ∧
      (let s := claimSends.setEntry 16 { raisedEntry with phase := .held, acknowledger := some 1 }
       (after (.claimAccepted 2 { origin := 1, point := 0, occurrence := 5 }) s).lp.records =
        [.outcome (.claim 16) (.void .alreadyAcked (some 1))]) ∧
      (let s := sendingItem { kind := .purge 1, cls := 2, age := 0 } (.purge 1)
       (after (.purgeAccepted 2 1) s).lp.records = [.outcome (.purge 1) (.void .originPresent none)]) := by decide +kernel

theorem test_witness_OwnPointLeavesOrIsRequeued :
    (sending 7).Sound ∧ (sending 7).ru.state = .member ∧ (sending 7).lc.inFlight = some pointFlight ∧
      pointFlight.frame.sender = (sending 7).cs.stationNumber ∧ pointFlight.item.kind = .point 1 ∧
      pointFlight.frame.notice = .point pointNotice ∧ pointNotice.point = BitVec.ofNat 8 (1 : PointId).1 ∧
      pointItem ∈ (sending 7).sq.items ∧ pointItem.age = pointFlight.item.age :=
  ⟨test_sound_sending, rfl, rfl, rfl, rfl, rfl, rfl, List.mem_singleton.2 rfl, rfl⟩

/-- At a frame of another station: a timer that goes on and one that stops, the PURGE of the own origin, and a LOST that names the
station. -/
theorem test_witness_OwnPointLeavesOrIsRequeued_foreign :
    (let s := reminded joined (.running 700)
     let t := after (.claimAccepted 0 { origin := 2, point := 0, occurrence := 5 }) s
     s.receives ∧ s.applies = true ∧ s.mayRemind 0 = true ∧ s.reminderMs 0 = 5000 ∧ (t.ownEntry 0).phase = .held ∧
      (t.point 0).reminder = .stopped ∧ (t.point 0).queued = false ∧
      ((after (.purgeAccepted 0 5) s).point 0).reminder = .running 700) ∧
      (let s := declaredLost
       let t := after (.purgeAccepted 0 2) s
       s.receives ∧ s.applies = true ∧ s.purgesOwnOrigin (.purge 2) ∧ t.ru.state = s.ru.state ∧
        (t.point 0).pendingReminders = 0 ∧ t.pairsEqual 0 = false ∧ (t.point 0).queued = true ∧ (t.point 1).queued = false) ∧
      (member.losesItself 0 (.lost { target := 0x82, lastHeard := 0 }) ∧
        ((after (.lostAccepted 0 { target := 0x82, lastHeard := 0 }) member).point 1).queued = true) :=
  ⟨by decide +kernel, ⟨⟨rfl, rfl, rfl⟩, rfl, ⟨rfl, by decide +kernel⟩, by decide +kernel⟩, ⟨_, rfl, by decide +kernel⟩,
    by decide +kernel⟩

/-- An own POINT that leaves its entry QUIET stops the timer; one whose item a LEAVE command removed queues nothing. -/
theorem test_witness_OwnPointLeavesOrIsRequeued_stops :
    (let t := after (.pointAccepted 2 { pointNotice with status := 0 }) fallSends
     fallSends.Sound ∧ (t.ownEntry 1).phase = .quiet ∧ t.pairsEqual 1 = true ∧ t.sq.items = [] ∧
      t.point 1 = { fallSends.point 1 with queued := false, reminder := .stopped }) ∧
      (let t := after (.pointAccepted 2 pointNotice) leavingPoint
       leavingPoint.Sound ∧ leavingPoint.ru.state = .leaving ∧ (∀ x ∈ leavingPoint.sq.items, x.age ≠ pointFlight.item.age) ∧
        t.sq = leavingPoint.sq ∧ t.point 1 = leavingPoint.point 1 ∧ (t.ownEntry 1).phase = .raised) :=
  ⟨⟨test_sound_fall_sends, by decide +kernel⟩, test_sound_leaving_point, by decide +kernel⟩

theorem test_witness_OvertakenClaimsAreWithdrawn :
    claiming.Sound ∧ claiming.receives ∧ claiming.ru.state = .member ∧ (∀ p, Notice.purge 1 ≠ .presence p) ∧
      ({ kind := .claim 16 5, cls := 1, age := 0 } : Item) ∈ claiming.sq.items ∧
      claiming.entry 16 = (after (.purgeAccepted 0 1) claiming).entry 16 ∧
      (let t := after (.claimAccepted 0 { origin := 1, point := 0, occurrence := 5 }) claiming
       claiming.entry 16 ≠ t.entry 16 ∧ t.lp.marker = none) :=
  ⟨test_sound_claiming, ⟨rfl, rfl, rfl⟩, rfl, (fun _ h => nomatch h), List.mem_cons_self, by decide +kernel⟩

/-- The same in MUTED. -/
theorem test_witness_OvertakenClaimsAreWithdrawn_muted :
    let s := mutedWith (uneasyRoster .left)
    let t := after (.claimAccepted 3 { origin := 1, point := 0, occurrence := 5 }) s
    s.Sound ∧ s.receives ∧ s.ru.state = .muted ∧ ({ kind := .claim 16 5, cls := 1, age := 0 } : Item) ∈ s.sq.items ∧
      s.entry 16 ≠ t.entry 16 ∧ t.sq.items = [] :=
  ⟨test_sound_muted_claiming, ⟨rfl, rfl, rfl⟩, rfl, List.mem_cons_self, by decide +kernel⟩

/-- The own POINT of a MEMBER overtakes its claim on the same entry. -/
theorem test_witness_OvertakenClaimsAreWithdrawn_own :
    let s := claimBehindPoint
    let t := after (.pointAccepted 2 pointNotice) s
    s.Sound ∧ s.ru.state = .member ∧ s.lc.receiverOn = true ∧ s.lc.inFlight = some pointFlight ∧
      ({ kind := .claim 33 0, cls := 1, age := 1 } : Item) ∈ s.sq.items ∧ s.entry 33 ≠ t.entry 33 ∧ t.sq.items = [] ∧
      t.lp.marker = none ∧ t.lp.records.getLast? = some (.outcome (.claim 33) (.void .occurrenceChanged none)) :=
  ⟨test_sound_claim_behind_point, rfl, rfl, rfl, List.mem_cons_of_mem _ List.mem_cons_self, by decide +kernel⟩

theorem test_witness_PresenceIsQueuedAndPromoted :
    member.QueueOk ∧ member.ru.presenceTimer ≠ none ∧ member.hasItem ItemKind.isPresence = false ∧
      claiming.QueueOk ∧ claiming.ru.presenceTimer ≠ none ∧ claiming.hasItem ItemKind.isPresence = true := by decide +kernel

/-- A SYNCING station that queues its PRESENCE after the entry. -/
theorem test_witness_PresenceIsQueuedAndPromoted_syncing :
    (rebuilding .syncing 1 false).QueueOk ∧ (rebuilding .syncing 1 false).ru.presenceTimer ≠ none ∧
      (rebuilding .syncing 1 false).ru.state = .syncing ∧
      (rebuilding .syncing 1 false).hasItem ItemKind.isPresence = false := by decide +kernel

theorem test_witness_SilentPeerBecomesSuspect :
    (member.Sound ∧ (member.record 1).silence ≠ none ∧ (member.record 2).silence = none) ∧
      ownReference.Sound ∧ (ownReference.record 1).silence ≠ none ∧
      (after (.silenceTimerExpiry 1) ownReference).namesItself :=
  ⟨⟨test_sound_member, by decide +kernel⟩, test_sound_own_reference, by decide +kernel⟩

theorem test_witness_MuteEndsByEntryState :
    ((muted .member false).Sound ∧ (muted .member false).ru.state = .muted ∧
      (muted .member false).ru.entryState = some .member ∧ (muted .member false).ru.doubtful = false) ∧
      ((muted .member true).Sound ∧ (muted .member true).ru.doubtful = true) ∧
      (muted .joining false).Sound ∧ (muted .joining false).ru.entryState = some .joining :=
  ⟨⟨test_sound_muted, rfl, rfl, rfl⟩, ⟨test_sound_muted_doubtful, rfl⟩, test_sound_muted_joining, rfl⟩

/-- A clean exit to the own reference with a sweep to make, and one to another reference. -/
theorem test_witness_MuteEndsByEntryState_duties :
    (let t := after .muteTimerExpiry (mutedWith (uneasyRoster .left))
     t.namesItself ∧ t.sweepCondition ∧ (t.record 1).suspect = true ∧ t.hasItem (· == .lost 1) = true) ∧
      (let t := after .muteTimerExpiry (muted .member false)
       ¬t.namesItself ∧ ¬t.sweepCondition) := by decide +kernel

/-- A held reminder timer runs on at a clean exit, and a stopped one starts. -/
theorem test_witness_MuteEndsByEntryState_reminder :
    (reminded (muted .member false) (.held 700)).Sound ∧
      ((after .muteTimerExpiry (reminded (muted .member false) (.held 700))).point 0).reminder = .running 700 ∧
      ((after .muteTimerExpiry (reminded (muted .member false) .stopped)).point 0).reminder = .running 5000 :=
  ⟨test_sound_reminded_muted, by decide +kernel⟩

/-- The exit to SYNCING removes an item of each kind and reports the claim and the purge. -/
theorem test_witness_MuteEndsByEntryState_removed :
    let t := after .muteTimerExpiry mutedLoaded
    mutedLoaded.Sound ∧ mutedLoaded.ru.doubtful = true ∧ t.sq.items.map Item.kind = [.join .resync] ∧
      t.lp.records = [.outcome (.claim 16) (.void .withdrawn none), .outcome (.purge 5) (.void .withdrawn none),
        .station .syncing none { TripReasons.clear with uncertain := true }] :=
  ⟨test_sound_muted_loaded, by decide +kernel⟩

/-- The exits to JOINING and to MEMBER keep what they do not withdraw: at one that is its own reference and sweeps, and at one that
is not. -/
theorem test_witness_MuteEndsByEntryState_held :
    let s := mutedHolding .joining (roster .present)
    let u := mutedHolding .member (uneasyRoster .left)
    let v := mutedHolding .member (roster .present)
    (s.Sound ∧ (after .muteTimerExpiry s).sq.items.map Item.age = [0, 1, 2, 3, 4, 6, 7]) ∧
      u.Sound ∧ (after .muteTimerExpiry u).namesItself ∧ (after .muteTimerExpiry u).sweepCondition ∧
      (∀ x ∈ u.sq.items, x ∈ (after .muteTimerExpiry u).sq.items) ∧ (after .muteTimerExpiry u).lp.records.length = 1 ∧
      ¬(after .muteTimerExpiry v).namesItself ∧
      ∀ x ∈ v.sq.items, x ∈ (after .muteTimerExpiry v).sq.items ∨ x.kind = .lost 1 ∨ x.kind = .snapshot :=
  ⟨⟨test_sound_muted_joining_holding, by decide +kernel⟩, test_sound_muted_holding, by decide +kernel⟩

/-- The exit to SYNCING keeps the point item and the PRESENCE item, and starts no attempt. -/
theorem test_witness_MuteEndsByEntryState_kept :
    let t := after .muteTimerExpiry mutedKeeping
    mutedKeeping.Sound ∧ t.ru.state = .syncing ∧ t.sq.items.map Item.age = [0, 1, 2] ∧ mutedKeeping.keepsAtSyncing t :=
  ⟨test_sound_muted_keeping, by decide +kernel⟩

theorem test_witness_WindowEndFoundsASystem : listening.Sound ∧ listening.ru.state = .listening :=
  ⟨test_sound_listening, rfl⟩

theorem test_witness_AttemptExpiryRetriesOrGivesUp :
    (syncingSends.Sound ∧ syncingSends.ru.attemptTimer ≠ none ∧ syncingSends.lc.inFlight ≠ none) ∧
      ((rebuilding .syncing 1 false).Sound ∧ (rebuilding .syncing 1 false).ru.attemptTimer ≠ none ∧
        (rebuilding .syncing 1 false).lc.inFlight = none ∧ (rebuilding .syncing 1 false).ru.attempt < 3) ∧
      ((rebuilding .joining 3 true).Sound ∧ 3 ≤ (rebuilding .joining 3 true).ru.attempt) ∧
      (rebuilding .syncing 3 true).Sound ∧ 3 ≤ (rebuilding .syncing 3 true).ru.attempt :=
  ⟨⟨test_sound_syncing_sends, by decide +kernel⟩, ⟨test_sound_syncing, by decide +kernel⟩, ⟨test_sound_joining, by decide +kernel⟩,
    test_sound_syncing_at_third, by decide +kernel⟩

/-- An expiry that waited for the end of the own attempt: LOST, accepted as the own JOIN, and at the third attempt. -/
theorem test_witness_AttemptExpiryRetriesOrGivesUp_deferred :
    ((expired .syncing 1).Sound ∧ (expired .syncing 1).ru.deferredExpiry = true ∧ (expired .syncing 1).lc.vetoCount + 1 < 8 ∧
      (after .arbitrationLost (expired .syncing 1)).ru.attempt = 2 ∧
      (let t := after (.joinAccepted 2 { mode := 1, profileDigest := demoDigest }) (expired .syncing 1)
       t.ru.attempt = 2 ∧ t.ru.ownJoin = false)) ∧
      (expired .joining 3).Sound ∧ (expired .joining 3).ru.deferredExpiry = true ∧
      (after (.senderFault 0) (expired .joining 3)).ru.state = .refused :=
  ⟨⟨test_sound_expired, by decide +kernel⟩, test_sound_expired_at_third, by decide +kernel⟩

/-- At the third failure the silence timers stop and the roster is frozen. -/
theorem test_witness_AttemptExpiryRetriesOrGivesUp_frozen :
    ((expired .joining 3).record 1).silence = some 3000 ∧
      (expired .joining 3).rosterFrozen (after (.senderFault 0) (expired .joining 3)) ∧
      (rebuilding .syncing 3 true).rosterFrozen (after .attemptTimerExpiry (rebuilding .syncing 3 true)) ∧
      (after .attemptTimerExpiry (rebuilding .syncing 3 true)).ru.state = .listening := by decide +kernel

theorem test_witness_PulsesEndAndFlashersTurnAndAlign :
    (settled { joined with ou := { joined.ou with pulses := vset joined.ou.pulses 4 (some 0) } }).OutputsOk ∧
      (settled { joined with ou := { joined.ou with pulses := vset joined.ou.pulses 4 (some 0) } }).ou.pulses[4] ≠ none ∧
      member.receives ∧ member.applies = true ∧ member.reference = some 0 ∧ presenceMeaning (presence 7) ≠ none ∧
      (presence 7).profileDigest = member.cs.profileDigest ∧ 0 < member.presenceMs ∧
      member.reference ≠ some (1 : StationId) :=
  ⟨settled_outputsOk _, by decide +kernel⟩

/-- With P of 1000 ms the slow flasher's interval is 2: a count one below it goes on to 1, one at it restarts, and one past it,
as a PROFILE LOAD that raises P can leave it, restarts too. -/
theorem test_witness_PulsesEndAndFlashersTurnAndAlign_boundary :
    let aligned : Nat → Flasher := fun n => (after (.presenceAccepted 0 (presence 9)) (aligning n)).ou.slow
    (∀ n, (aligning n).OutputsOk) ∧ (aligning 0).receives ∧ (aligning 0).reference = some 0 ∧
      (0 + 1) * (aligning 0).presenceMs < 2000 ∧ (1 + 1) * (aligning 0).presenceMs = 2000 ∧
      aligned 0 = { on := false, remaining := 7, alignment := 1 } ∧
      aligned 1 = { on := true, remaining := 1000, alignment := 0 } ∧
      aligned 5 = { on := true, remaining := 1000, alignment := 0 } :=
  ⟨fun _ => settled_outputsOk _, by decide +kernel⟩

/-- A PRESENCE that aligns nothing: of another station, with an undefined field, with another digest, and at a station that
applies no frame, its window decided or not. -/
theorem test_witness_PulsesEndAndFlashersTurnAndAlign_free :
    (member.receives ∧ member.reference ≠ some 1 ∧ presenceMeaning { presence 7 with state := 5 } = none ∧
      ({ presence 7 with profileDigest := 0 } : PresencePayload).profileDigest ≠ member.cs.profileDigest ∧
      (after (.presenceAccepted 0 { presence 7 with state := 5 }) member).ou.slow = member.ou.slow ∧
      (after (.presenceAccepted 0 { presence 7 with profileDigest := 0 }) member).ou.slow = member.ou.slow) ∧
      listening.receives ∧ listening.applies = false ∧
      (after (.presenceAccepted 0 (presence 7)) listening).ou.slow = listening.ou.slow := by decide +kernel

theorem test_witness_PromptReleasesAttnForOneMillisecond :
    (notified 1).lp.promptTimer ≠ none ∧
      ((after .promptTimerExpiry (notified 1)).lp.releaseTimer ≠ none ∧
        (after .promptTimerExpiry (notified 1)).lp.records ≠ []) ∧
      (let s : State := { member with lp := { member.lp with releaseTimer := some 0 } }
       s.lp.releaseTimer ≠ none ∧ s.lp.records = [] ∧ s.lp.marker = none) := by decide +kernel

theorem test_witness_TripReasonsFollowTheState : member.OutputsOk ∧ ∃ t, step member = .next t :=
  ⟨settled_outputsOk _, _, rfl⟩

theorem test_witness_PinsFollowTheState :
    member.OutputsOk ∧ member.cs.setup = some demoSetup ∧ State.reset.OutputsOk ∧ State.reset.cs.setup = none :=
  ⟨settled_outputsOk _, rfl, by decide +kernel, rfl⟩

theorem test_witness_StationRecordReportsEachChange : ∀ ids, Instr.leave ≠ .hardwareReset ids := fun _ h => nomatch h

/-- An event that changes the own state, one that changes nothing, and the completion of a read. -/
theorem test_witness_StationRecordReportsEachChange_clauses :
    (let t := after .leave member
     t.ru.state ≠ member.ru.state ∧ t.lp.marker = none ∧ t.lp.records.length = 1) ∧
      (let t := after .statusRead member
       t.ru.state = member.ru.state ∧ t.ou.trip = member.ou.trip ∧ t.lp.records = []) ∧
      (notified 2).lp.records = .tableLoaded 3 :: (after .notifyReadComplete (notified 2)).lp.records := by decide +kernel

theorem test_witness_EveryStepKeepsTheLocalPort : member.PortOk ∧ ∃ t, step member = .next t :=
  ⟨test_sound_member.port, _, rfl⟩

theorem test_witness_EveryStepKeepsSoundness : (sending 7).Sound ∧ ∃ t, step (sending 7) = .next t :=
  ⟨test_sound_sending, _, rfl⟩

end Sys2Proof.Tests
end

section
/-! PROOF. The commands that read or reset, the comparisons, the notices and segments built, and the commands outside R3. -/

namespace Sys2Proof.Machine

/-! ## The queue of commands, and reset -/

/-- Settles O1: it is the second case of `step`. -/
theorem stepRunsTheFrontCommand : Obligations.StepRunsTheFrontCommand := by
  intro c rest s front
  simp only [step, front]

/-- Settles O3, block by block; the vectors of the reset state hold one value throughout. -/
theorem hardwareResetGivesResetValues : Obligations.HardwareResetGivesResetValues := by
  intro ids s
  refine ⟨_, rfl, ?_⟩
  simp [State.reset, State.entry, State.record, State.point, stationOfPins, Flasher.restarted]

/-! ## Comparisons modulo 2^w (R8, R22) -/

/-- Subtraction of words, as a difference of numbers modulo 2^w. -/
theorem toNat_sub_eq_mod {w : Nat} (b a : BitVec w) : (b - a).toNat = (b.toNat + 2 ^ w - a.toNat) % 2 ^ w := by
  have := a.isLt
  rw [BitVec.toNat_sub]
  congr 1
  omega

/-- Settles O30: the three cases of `compareOccurrence` in the number d. -/
theorem occurrencesCompareModulo256 : Obligations.OccurrencesCompareModulo256 := by
  intro a b d
  have same : (b - a).toNat = d := toNat_sub_eq_mod b a
  have bound : d < 256 := Nat.mod_lt _ (by decide)
  simp only [compareOccurrence, same]
  refine ⟨?_, ?_, ?_⟩ <;> (repeat' split) <;> simp <;> omega

/-- `later` in the numbers of the two words (R22). -/
theorem later_iff (a m : Word32) : later a m = true ↔
    1 ≤ (a.toNat + 2 ^ 32 - m.toNat) % 2 ^ 32 ∧ (a.toNat + 2 ^ 32 - m.toNat) % 2 ^ 32 ≤ 2 ^ 31 - 1 := by
  simp only [later, toNat_sub_eq_mod, Bool.and_eq_true, decide_eq_true_eq]

theorem Phase.pending_iff (ph : Phase) : ph.pending = true ↔ ph = .raised ∨ ph = .lapsed := by
  cases ph <;> decide

/-- Settles O31: both halves are `later_iff`, the second one under the search for a matched entry. -/
theorem lineCountsCompareModulo : Obligations.LineCountsCompareModulo := by
  refine ⟨later_iff, fun s o r audible => ?_⟩
  simp only [State.modeValue, audible, State.someMatched, List.any_eq_true, Bool.and_eq_true, Phase.pending_iff, later_iff,
    List.mem_finRange, true_and]

/-! ## Reads of the table (R27, R164) -/

/-- The search through all numbers below `n` finds the first that passes. -/
theorem find?_finRange_eq_some {n : Nat} {q : Fin n → Bool} {i : Fin n} :
    (List.finRange n).find? q = some i ↔ q i = true ∧ ∀ j < i, q j = false := by
  rw [List.find?_eq_some_iff_getElem]
  refine and_congr_right fun _ => ⟨?_, fun first => ?_⟩
  · rintro ⟨k, hk, rfl, first⟩ j hj
    have : j.1 < k := by simpa [Fin.lt_def] using hj
    simpa using first j.1 this
  · refine ⟨i.1, by simp, by simp, fun j hj => ?_⟩
    simpa using first ⟨j, hj.trans i.isLt⟩ hj

theorem find?_finRange_eq_none {n : Nat} {q : Fin n → Bool} :
    (List.finRange n).find? q = none ↔ ∀ i, q i = false := by
  simp

/-- The four fields of the status byte of an entry form (R185). -/
theorem Entry.statusByte_fields (e : Entry) :
    e.statusByte.extractLsb' 0 2 = e.phase.code ∧ e.statusByte.getLsbD 2 = e.condition.isActive ∧
      e.statusByte.getLsbD 3 = e.orphaned ∧ e.statusByte.extractLsb' 4 4 = e.reminders := by
  have fields : ∀ (r : BitVec 4) (o k : Bool) (p : BitVec 2),
      let b : Byte := r ++ BitVec.ofBool o ++ BitVec.ofBool k ++ p
      b.extractLsb' 0 2 = p ∧ b.getLsbD 2 = k ∧ b.getLsbD 3 = o ∧ b.extractLsb' 4 4 = r := by decide
  exact fields e.reminders e.orphaned e.condition.isActive e.phase.code

/-- A command that does nothing but answer leaves every block but the Local Port. -/
theorem State.answer_sameOutsidePort (s : State) (r : ResultCode) (bytes : List Byte) :
    s.sameOutsidePort (s.answer r bytes) := by
  simp [State.sameOutsidePort]

@[simp] theorem State.answer_lp (s : State) (r : ResultCode) (bytes : List Byte) :
    (s.answer r bytes).lp = s.lp.answered r bytes := rfl

theorem finByte_byteIndex (b : Byte) : finByte (byteIndex b) = b := by
  simp [finByte, byteIndex]

theorem categoryByte_eq (c : Option CategoryId) :
    categoryByte c = match c with
      | some c => BitVec.ofNat 8 c.1
      | none => 0x08 := by cases c <;> rfl

theorem acknowledgerByte_eq (a : Option StationId) :
    acknowledgerByte a = match a with
      | some a => BitVec.ofNat 8 a.1
      | none => 0x10 := by cases a <;> rfl

theorem State.scan_eq_some {s : State} {start phases : Byte} {i : EntryIndex} :
    s.scan start phases = some i ↔
      (start.toNat ≤ i.1 ∧ phases.getLsbD (s.entry i).phase.code.toNat = true) ∧
        ∀ j < i, ¬(start.toNat ≤ j.1 ∧ phases.getLsbD (s.entry j).phase.code.toNat = true) := by
  simp only [State.scan, find?_finRange_eq_some, Bool.and_eq_true, decide_eq_true_eq, ← Bool.not_eq_true]

theorem State.scan_eq_none {s : State} {start phases : Byte} :
    s.scan start phases = none ↔
      ∀ i : EntryIndex, ¬(start.toNat ≤ i.1 ∧ phases.getLsbD (s.entry i).phase.code.toNat = true) := by
  simp only [State.scan, find?_finRange_eq_none, Bool.and_eq_true, decide_eq_true_eq, ← Bool.not_eq_true]

/-- Settles O5: the entry form gives the read, the search in index order the scan. -/
theorem entryReadAndScanAnswerFromTheTable : Obligations.EntryReadAndScanAnswerFromTheTable := by
  refine ⟨rfl, fun s => ⟨fun index => ?_, fun start phases => ?_⟩⟩
  · refine ⟨_, (s.entry (byteIndex index)).statusByte, rfl, State.answer_sameOutsidePort _ _ _, ?_,
      Entry.statusByte_fields _⟩
    simp only [State.answer_lp, Entry.form, entryFormBytes, finByte_byteIndex, categoryByte_eq, acknowledgerByte_eq] <;> rfl
  · refine ⟨_, rfl, ?_, fun badSet => ?_, fun goodSet => ⟨fun i from_ found first => ?_, fun nothing => ?_⟩⟩
    · (repeat' split) <;> exact State.answer_sameOutsidePort _ _ _
    · simp [badSet]
    · have : s.scan start phases = some i :=
        State.scan_eq_some.2 ⟨⟨from_, found⟩, fun j before hj => first j hj.1 before hj.2⟩
      simp only [goodSet, this]
      rfl
    · have : s.scan start phases = none := State.scan_eq_none.2 fun i hi => nothing i hi.1 hi.2
      simp only [goodSet, this]
      rfl

/-! ## Notices -/

theorem Entry.form_isEntryForm (i : EntryIndex) (e : Entry) : isEntryForm (entryFormBytes (Entry.form i e)) i e := by
  refine ⟨e.statusByte, ?_, Entry.statusByte_fields e⟩
  simp only [Entry.form, entryFormBytes, finByte, categoryByte_eq, acknowledgerByte_eq] <;> rfl

/-- A roster state is read back from its code. -/
@[simp] theorem RosterState.ofCode_code (r : RosterState) : RosterState.ofCode r.code = some r := by cases r <;> rfl

/-- The nibble of station `u` in a roster form, taken from its byte at its place. -/
theorem rosterNibble_eq (form : Vector Byte 8) (u : StationId) :
    rosterNibble form u = form[u.1 / 2].extractLsb' (4 * (u.1 % 2)) 4 := by
  simp only [rosterNibble]
  rcases Nat.mod_two_eq_zero_or_one u.1 with h | h <;> simp [h]

/-- The roster form gives each station's roster state by its code (R183, R185). -/
theorem rosterNibble_rosterForm (roster : Vector RosterRecord 16) (u : StationId) :
    rosterNibble (rosterForm roster) u = roster[u].state.code := by
  have nibbles : ∀ a b : BitVec 4, (a ++ b : Byte).extractLsb' 0 4 = b ∧ (a ++ b : Byte).extractLsb' 4 4 = a := by decide
  simp only [rosterNibble, rosterForm, Vector.getElem_ofFn, nibbles, Fin.getElem_fin]
  split
  · congr 3; omega
  · congr 3; omega

/-- The status byte of a POINT notice holds the condition in bit 7, the reminder count in bits 0 to 3, 0 between (R183). -/
theorem pointStatus_fields (active : Bool) (r : BitVec 4) :
    let b : Byte := BitVec.ofBool active ++ 0#3 ++ r
    b.getLsbD 7 = active ∧ b.extractLsb' 0 4 = r ∧ b.extractLsb' 4 3 = 0#3 := by
  revert active r
  decide

/-- Settles O24: each kind of item by its own equation; the roster by `rosterNibble_rosterForm`, the digest by `form_isEntryForm`. -/
theorem noticeIsBuiltFromCurrentState : Obligations.NoticeIsBuiltFromCurrentState := by
  refine ⟨rfl, rfl, fun s => ⟨?point, fun _ _ => rfl, ?lost, fun _ => rfl, ?digest, ?carried, ?roster, ?join, ?leave,
    fun _ => rfl, rfl⟩⟩
  case point =>
    intro p u held
    refine ⟨_, ?_, pointStatus_fields (s.point p).qualified.isActive (s.point p).pendingReminders⟩
    simp only [State.buildNotice, State.pointPayload, State.pointSetup, held, Option.map_some, finByte]
  case lost =>
    intro u
    have marked : ∀ u : StationId, finByte u ||| 0x80#8 = BitVec.ofNat 8 (128 + u.1) := by decide
    simp only [State.buildNotice, State.lostPayload, marked]
    cases (s.record u).lastHeard <;> rfl
  case digest => exact ⟨fun i => entryFormBytes (Entry.form i (s.entry i)), fun i => Entry.form_isEntryForm i _, rfl⟩
  case carried =>
    rintro timer p built u
    obtain rfl : s.presencePayload = p := by simpa [State.buildNotice] using built
    simp only [carriedState, State.presencePayload, rosterNibble_rosterForm, RosterState.ofCode_code, Option.getD_some]
    rfl
  case roster =>
    intro u
    rw [← rosterNibble_eq, rosterNibble_rosterForm]
    rfl
  case join => intro m; cases m <;> rfl
  case leave => intro c; cases c <;> rfl

/-! ## Segments (R151, R153) -/

theorem finByte_toNat (i : EntryIndex) : (finByte i).toNat = i.1 := by
  simp [finByte]

@[simp] theorem finByte_inj {i j : EntryIndex} : finByte i = finByte j ↔ i = j := by
  refine ⟨fun h => ?_, congrArg _⟩
  rw [← byteIndex_finByte i, h, byteIndex_finByte]

theorem State.mem_pendingSegment {s : State} {i : EntryIndex} :
    i ∈ s.pendingSegment ↔ s.ru.cursor ≤ i ∧ s.entry i ≠ Entry.pristine := by
  simp [State.pendingSegment, Entry.isPristine]

/-- The indices of a segment's entries ascend. -/
theorem State.pendingSegment_ascends (s : State) : s.pendingSegment.Pairwise (· < ·) :=
  (List.pairwise_lt_finRange 256).filter _

/-- In an ascending list the members below the one at place `k` are the first `k`. -/
theorem mem_take_iff_lt {n k : Nat} {l : List (Fin n)} (ascends : l.Pairwise (· < ·)) {i : Fin n} (at_k : l[k]? = some i)
    {j : Fin n} (member : j ∈ l) : j ∈ l.take k ↔ j < i := by
  obtain ⟨hk, hi⟩ := List.getElem?_eq_some_iff.1 at_k
  have split : l = l.take k ++ i :: l.drop (k + 1) := by rw [← hi, List.getElem_cons_drop, List.take_append_drop]
  rw [split, List.pairwise_append, List.pairwise_cons] at ascends
  obtain ⟨-, ⟨above, -⟩, below⟩ := ascends
  refine ⟨fun h => below j h i List.mem_cons_self, fun h => ?_⟩
  rw [split, List.mem_append, List.mem_cons] at member
  rcases member with first | rfl | later
  · exact first
  · exact absurd h (lt_irrefl _)
  · exact absurd h (lt_asymm (above j later))

/-- The sixth standing entry lies above the cursor. -/
theorem State.cursor_lt_sixth {s : State} {i : EntryIndex} (sixth : s.pendingSegment[5]? = some i) : s.ru.cursor < i := by
  obtain ⟨hk, -⟩ := List.getElem?_eq_some_iff.1 sixth
  have first : s.pendingSegment[0] ∈ s.pendingSegment := List.getElem_mem _
  have early : s.pendingSegment[0] ∈ s.pendingSegment.take 5 :=
    List.mem_take_iff_getElem.2 ⟨0, by omega, rfl⟩
  exact lt_of_le_of_lt (State.mem_pendingSegment.1 first).1
    ((mem_take_iff_lt s.pendingSegment_ascends sixth first).1 early)

/-- The last index of a segment: the one below the sixth standing entry, or 255 (R151). -/
theorem State.segment_last (s : State) :
    s.segment.last.toNat = match s.pendingSegment[5]? with
      | none => 255
      | some i => (i.1 - 1 : Nat) := by
  have drop : s.pendingSegment.drop 5 = match s.pendingSegment[5]? with
      | none => []
      | some i => i :: s.pendingSegment.drop 6 := by
    cases sixth : s.pendingSegment[5]? with
    | none => simpa using sixth
    | some i =>
      obtain ⟨hk, rfl⟩ := List.getElem?_eq_some_iff.1 sixth
      exact List.drop_eq_getElem_cons hk
  simp only [State.segment, drop]
  cases sixth : s.pendingSegment[5]? with
  | none => rfl
  | some i =>
    have : (1 : Byte).toNat ≤ (finByte i).toNat := by
      rw [finByte_toNat]
      exact Nat.succ_le_of_lt (Nat.zero_lt_of_lt (State.cursor_lt_sixth sixth))
    simp only [BitVec.toNat_sub_of_le this, finByte_toNat]
    rfl

/-- The standing entries that a segment's range holds are the first five (R151). -/
theorem State.le_segment_last {s : State} {j : EntryIndex} (standing : j ∈ s.pendingSegment) :
    j.1 ≤ s.segment.last.toNat ↔ j ∈ s.pendingSegment.take 5 := by
  rw [State.segment_last]
  cases sixth : s.pendingSegment[5]? with
  | none =>
    have : s.pendingSegment.length ≤ 5 := by simpa using sixth
    have := j.isLt
    simp only [List.take_of_length_le ‹_›, standing, iff_true]
    omega
  | some i =>
    rw [mem_take_iff_lt s.pendingSegment_ascends sixth standing]
    exact Nat.le_sub_one_iff_lt (Nat.zero_lt_of_lt (State.cursor_lt_sixth sixth))

theorem State.cursor_le_segment_last (s : State) : s.ru.cursor.1 ≤ s.segment.last.toNat := by
  rw [State.segment_last]
  cases sixth : s.pendingSegment[5]? with
  | none =>
    simp only
    omega
  | some i =>
    exact Nat.le_sub_one_of_lt (State.cursor_lt_sixth sixth)

theorem State.segment_first (s : State) : s.segment.first.toNat = s.ru.cursor.1 := finByte_toNat _

theorem State.mem_segment_entries {s : State} {f : EntryForm} :
    f ∈ s.segment.entries ↔ ∃ i ∈ s.pendingSegment.take 5, Entry.form i (s.entry i) = f := by
  simp only [State.segment, List.mem_map]

/-- Forms of ascending indices stand in ascending order. -/
theorem ascending_forms (e : EntryIndex → Entry) : ∀ l : List EntryIndex, l.Pairwise (· < ·) →
    ascending (l.map fun i => Entry.form i (e i)) = true
  | [], _ => rfl
  | [_], _ => rfl
  | i :: j :: rest, h => by
    obtain ⟨below, tail⟩ := List.pairwise_cons.1 h
    have : i.1 < j.1 := below j List.mem_cons_self
    simp only [List.map_cons, ascending, Entry.form, finByte_toNat, this, decide_true, Bool.true_and]
    exact ascending_forms e (j :: rest) tail

/-- The form of an entry with a category is one that a segment may carry. -/
theorem carriedEntryBad_form {p : SnapshotPayload} {i : EntryIndex} {e : Entry} (named : e.category ≠ none)
    (above : p.first.toNat ≤ i.1) (below : i.1 ≤ p.last.toNat) : carriedEntryBad p (Entry.form i e) = false := by
  have category : (categoryByte e.category).getLsbD 3 = false := by
    revert named
    generalize e.category = c
    revert c
    decide
  have acknowledger : ∀ a : Option StationId,
      ((acknowledgerByte a).getLsbD 4 && (acknowledgerByte a).extractLsb' 0 4 != 0#4) = false := by decide
  simp only [carriedEntryBad, Entry.form, finByte_toNat, category, acknowledger, Bool.or_false, Bool.or_eq_false_iff,
    decide_eq_false_iff_not]
  omega

/-- A segment built from entries that are pristine where they have no category is well formed (R154, R184). -/
theorem State.segment_wellFormed {s : State} (h : s.EntriesOk) : segmentMalformed s.segment = false := by
  have range : ¬s.segment.last.toNat < s.segment.first.toNat := by
    rw [State.segment_first]
    exact Nat.not_lt.2 s.cursor_le_segment_last
  have order : ascending s.segment.entries = true :=
    ascending_forms s.entry _ (s.pendingSegment_ascends.sublist (List.take_sublist _ _))
  have good : s.segment.entries.any (carriedEntryBad s.segment) = false := by
    rw [List.any_eq_false]
    intro f hf
    obtain ⟨i, early, rfl⟩ := State.mem_segment_entries.1 hf
    have standing := List.mem_of_mem_take early
    obtain ⟨above, stands⟩ := State.mem_pendingSegment.1 standing
    rw [carriedEntryBad_form (fun none => stands (h i none)) (by rw [State.segment_first]; exact above)
      ((State.le_segment_last standing).2 early)]
    exact Bool.false_ne_true
  simp only [segmentMalformed, range, order, good, decide_false, Bool.not_true, Bool.or_false]

theorem segmentCovers_iff {p : SnapshotPayload} {i : EntryIndex} :
    segmentCovers p i = true ↔ p.first.toNat ≤ i.1 ∧ i.1 ≤ p.last.toNat := by
  simp [segmentCovers]

/-- The form a segment carries for a standing index in its range is that of the sender's entry. -/
theorem State.find_segment_form {s : State} {i : EntryIndex} (early : i ∈ s.pendingSegment.take 5) :
    s.segment.entries.find? (fun f => f.index == finByte i) = some (Entry.form i (s.entry i)) := by
  have only : ∀ l : List EntryIndex, i ∈ l →
      (l.map fun j => Entry.form j (s.entry j)).find? (fun f => f.index == finByte i) =
        some (Entry.form i (s.entry i)) := by
    intro l
    induction l with
    | nil => simp
    | cons j rest ih =>
      intro member
      by_cases same : j = i
      · simp [Entry.form, same]
      · simpa [Entry.form, same] using ih (by simpa [Ne.symm same] using member)
  exact only _ early

/-- A segment gives its receiver the sender's entry at every index it covers (R153). -/
theorem State.segmentEntry_segment {s : State} {count : Word32} {i : EntryIndex} {e : Entry}
    (covered : segmentCovers s.segment i = true) :
    (segmentEntry s.segment count i e).sameReplicated (s.entry i) = true := by
  obtain ⟨above, below⟩ := segmentCovers_iff.1 covered
  simp only [segmentEntry, covered, if_true]
  by_cases stands : s.entry i = Entry.pristine
  · have : s.segment.entries.find? (fun f => f.index == finByte i) = none := by
      rw [List.find?_eq_none]
      intro f hf
      obtain ⟨j, early, rfl⟩ := State.mem_segment_entries.1 hf
      have : j ≠ i := fun same => (State.mem_pendingSegment.1 (List.mem_of_mem_take early)).2 (same ▸ stands)
      simpa [Entry.form] using this
    simp [this, stands, Entry.sameReplicated]
  · have standing : i ∈ s.pendingSegment := State.mem_pendingSegment.2 ⟨by rwa [State.segment_first] at above, stands⟩
    rw [State.find_segment_form ((State.le_segment_last standing).1 below)]
    simp [entryOfForm_form, Entry.sameReplicated]

/-- Settles O29: the five parts are lemmas on the segment built. -/
theorem segmentGivesTheSendersEntries : Obligations.SegmentGivesTheSendersEntries := by
  intro s count h
  refine ⟨State.segment_wellFormed h, State.segment_first s, rfl, ?_, ?_, ?_, fun i e => State.segmentEntry_segment⟩
  · simp [State.segment]
  · exact segmentCovers_iff.2 ⟨(State.segment_first s).le, s.cursor_le_segment_last⟩
  · have standing : ((List.finRange 256).filter fun i => decide (s.ru.cursor ≤ i ∧ s.entry i ≠ Entry.pristine)) =
        s.pendingSegment := by
      refine List.filter_congr fun i _ => ?_
      rw [Bool.decide_and, decide_not, Entry.isPristine, beq_eq_decide]
    simp only [standing]
    refine ⟨?_, fun few => ?_, fun i sixth => ?_⟩
    · simp [State.segment, Entry.form, finByte_toNat, Function.comp_def]
    · rw [State.segment_last, List.getElem?_eq_none few]
    · rw [State.segment_last, sixth]
      exact Nat.sub_one_add_one (Nat.ne_of_gt (Nat.zero_lt_of_lt (State.cursor_lt_sixth sixth)))

/-! ## The commands outside R3 (R3, R142, R148) -/

theorem execPurge_et (origin : Byte) (s : State) : ∃ t, execPurge origin s = .next t ∧ t.et = s.et := by
  refine ⟨_, rfl, ?_⟩
  cases byteTo16 origin with
  | none => simp
  | some o =>
    dsimp only
    split <;> simp

/-- Settles O32: each command outside R3 is made of operations that do not touch the Event Table. -/
theorem tableChangesOnlyAtItsEvents : Obligations.TableChangesOnlyAtItsEvents := by
  intro c s outside
  cases c
  case hardwareReset | start | muteTimerExpiry | windowTimerExpiry | attemptTimerExpiry | arbitrationLost | senderFault
    | frameVetoed | presenceAccepted | pointAccepted | claimAccepted | lostAccepted | purgeAccepted | leaveAccepted
    | joinAccepted | snapshotAccepted => exact nomatch outside
  case purge origin => exact execPurge_et origin s
  all_goals refine ⟨_, rfl, ?_⟩
  case statusRead | entryRead | countersRead | countersClear | commandDiscarded | flasherPhaseChange | inputSample => simp
  all_goals (repeat' split) <;> simp

end Sys2Proof.Machine
end

/-! ## What the operations on RU, ET, SQ and LC write -/

section
namespace Sys2Proof.Machine

section Effects
variable (s : State)

@[simp] theorem State.enter_ru (st : StationState) : (s.enter st).ru = { s.ru with state := st } := rfl

@[simp] theorem State.stopRuTimers_ru : s.stopRuTimers.ru =
    { s.ru with presenceTimer := none, muteTimer := none, windowTimer := none, attemptTimer := none,
                deferredExpiry := false } := rfl

@[simp] theorem State.clearJoinState_ru : s.clearJoinState.ru =
    { s.ru with joinMode := none, attempt := 0, attemptTimer := none, ownJoin := false,
                coverage := Vector.replicate 256 false, deferredExpiry := false } := rfl

@[simp] theorem State.clearRoster_ru : s.clearRoster.ru =
    { s.ru with roster := Vector.replicate 16 RosterRecord.absent } := rfl

@[simp] theorem State.stopSilence_ru : s.stopSilence.ru =
    { s.ru with roster := vmap (fun _ x => { x with silence := none }) s.ru.roster } := rfl

@[simp] theorem State.startPresenceTimer_ru : s.startPresenceTimer.ru =
    { s.ru with presenceTimer := some s.presenceMs } := rfl

@[simp] theorem State.clearTable_et : s.clearTable.et =
    { s.et with table := Vector.replicate 256 Entry.pristine, countValid := false } := rfl

@[simp] theorem State.advanceCount_et : s.advanceCount.et =
    { s.et with lineCount := if s.et.countValid then s.et.lineCount + 1 else s.et.lineCount } := rfl

@[simp] theorem State.clearVetoes_lc : s.clearVetoes.lc = { s.lc with vetoCount := 0 } := rfl

@[simp] theorem State.endFlight_lc : s.endFlight.lc = { s.lc with inFlight := none, ltx := .released } := rfl

@[simp] theorem State.endFrame_lc : s.endFrame.lc =
    { s.lc with lineIdle := false, assembling := false, ltx := .released } := rfl

@[simp] theorem State.startReceiver_lc : s.startReceiver.lc =
    { s.lc with receiverOn := true, lineIdle := false, assembling := false } := rfl

@[simp] theorem State.push_lp (r : Record) : (s.push r).lp = s.lp.push s.promptPeriod r := rfl

@[simp] theorem State.dropItem_sq (x : Item) : (s.dropItem x).sq =
    { s.sq with items := s.sq.items.filter fun y => y.age != x.age } := rfl

@[simp] theorem State.withdraw_sq (k : ItemKind → Bool) : (s.withdraw k).sq =
    { s.sq with items := s.sq.items.filter fun x => !k x.kind || s.flies x } := rfl

@[simp] theorem State.removeItems_sq (k : ItemKind → Bool) : (s.removeItems k).sq =
    { s.sq with items := s.sq.items.filter fun x => !k x.kind } :=
  (State.foldl_keeps State.sq _ (fun u x => by simp) _ _).trans rfl

end Effects

/-! ### Values that rest on the configuration alone -/

theorem State.presenceMs_congr {s t : State} (h : t.cs = s.cs) : t.presenceMs = s.presenceMs := by
  simp only [State.presenceMs, h]

theorem State.promptPeriod_congr {s t : State} (h : t.cs = s.cs) : t.promptPeriod = s.promptPeriod := by
  simp only [State.promptPeriod, h]

/-! ### Changes of station state -/

/-- With an empty list there is nothing to remove and nothing to report. -/
theorem State.removeItems_of_empty {s : State} (empty : s.sq.items = []) (k : ItemKind → Bool) : s.removeItems k = s := by
  simp [State.removeItems, State.onSq, empty]
  rw [← empty]

end Sys2Proof.Machine
end

section
/-! PROOF. The notification queue: what each operation pushes, as a list of records (R169, R170). -/

namespace Sys2Proof.Machine

/-! ## Records pushed in turn -/

/-- `t` has the configuration of `s`, and its port is that of `s` once the records `rs` have been pushed. -/
def State.Pushed (s t : State) (rs : List Record) : Prop := t.cs = s.cs ∧ t.lp = s.portAfter rs

theorem State.Pushed.cs {s t : State} {rs : List Record} (h : s.Pushed t rs) : t.cs = s.cs := h.1

theorem State.Pushed.lp {s t : State} {rs : List Record} (h : s.Pushed t rs) : t.lp = s.portAfter rs := h.2

/-- Nothing is pushed where configuration and port stand. -/
theorem State.Pushed.nothing {s t : State} (hc : t.cs = s.cs) (hl : t.lp = s.lp) : s.Pushed t [] := ⟨hc, hl⟩

theorem State.Pushed.refl (s : State) : s.Pushed s [] := .nothing rfl rfl

theorem State.Pushed.trans {s t u : State} {rs rs' : List Record} (h : s.Pushed t rs) (h' : t.Pushed u rs') :
    s.Pushed u (rs ++ rs') := by
  refine ⟨h'.cs.trans h.cs, ?_⟩
  rw [h'.lp, State.portAfter, State.portAfter, List.foldl_append, State.promptPeriod_congr h.cs, h.lp]
  rfl

theorem State.pushed_push (s : State) (r : Record) : s.Pushed (s.push r) [r] := ⟨by simp, rfl⟩

theorem State.pushed_ite {s t u : State} {c : Prop} [Decidable c] {rs rs' : List Record} (ht : s.Pushed t rs)
    (hu : s.Pushed u rs') : s.Pushed (if c then t else u) (if c then rs else rs') := by
  split <;> assumption

/-- What the steps of a fold push, the fold pushes in turn, when no step changes what a later one pushes. -/
theorem State.pushed_foldl {α : Type} (keep : State → Prop) (step : State → α → State) (record : α → List Record)
    (l : List α) (each : ∀ u, keep u → ∀ a ∈ l, u.Pushed (step u a) (record a) ∧ keep (step u a)) :
    ∀ s, keep s → s.Pushed (l.foldl step s) (l.flatMap record) ∧ keep (l.foldl step s) := by
  induction l with
  | nil => exact fun s hs => ⟨.refl s, hs⟩
  | cons a rest ih =>
    intro s hs
    obtain ⟨first, kept⟩ := each s hs a List.mem_cons_self
    obtain ⟨more, kept⟩ := ih (fun u hu b hb => each u hu b (List.mem_cons_of_mem a hb)) (step s a) kept
    exact ⟨first.trans more, kept⟩

/-- Pushes keep the Local Port's invariant (R169 to R174). -/
theorem State.Pushed.portOk {s t : State} {rs : List Record} (h : s.Pushed t rs) (ok : s.PortOk) : t.PortOk := by
  have pushAll : ∀ (rs : List Record) (u : State), u.PortOk → u.cs = s.cs →
      ∃ v : State, v.PortOk ∧ v.cs = s.cs ∧ v.lp = rs.foldl (fun l r => l.push s.promptPeriod r) u.lp := by
    intro rs
    induction rs with
    | nil => exact fun u hu hc => ⟨u, hu, hc, rfl⟩
    | cons r rest ih =>
      intro u hu hc
      obtain ⟨v, hv, hvc, hvl⟩ := ih (u.push r) (State.push_portOk hu r) (by simpa using hc)
      refine ⟨v, hv, hvc, ?_⟩
      rw [hvl, State.push_lp, State.promptPeriod_congr hc]
      rfl
  obtain ⟨v, ⟨hq, hr, ha, hp⟩, hvc, hvl⟩ := pushAll rs s ok rfl
  have hlp : t.lp = v.lp := h.lp.trans hvl.symm
  have period : t.promptPeriod = v.promptPeriod := State.promptPeriod_congr (h.cs.trans hvc.symm)
  simp only [State.PortOk, State.PromptOk, hlp, period]
  exact ⟨hq, hr, ha, hp⟩

/-- Where the queue has had room for all of them, the records pushed stand at its end. -/
theorem LocalPort.foldl_push_records (period : Option Nat) (rs : List Record) : ∀ l : LocalPort,
    (rs.foldl (fun l r => l.push period r) l).marker = none →
      l.marker = none ∧ (rs.foldl (fun l r => l.push period r) l).records = l.records ++ rs := by
  induction rs with
  | nil => exact fun l h => ⟨h, (List.append_nil _).symm⟩
  | cons r rest ih =>
    intro l h
    obtain ⟨room, records⟩ := ih (l.push period r) h
    have free : l.marker = none ∧ l.records.length < 31 := by
      rw [LocalPort.push_marker] at room
      cases hm : l.marker with
      | some n => simp [hm] at room
      | none => simpa [hm] using room
    refine ⟨free.1, ?_⟩
    rw [List.foldl_cons, records, LocalPort.push_records, if_pos free, List.append_assoc, List.singleton_append]

theorem State.Pushed.records {s t : State} {rs : List Record} (h : s.Pushed t rs) (room : t.lp.marker = none) :
    t.lp.records = s.lp.records ++ rs := by
  rw [h.lp] at room ⊢
  exact (LocalPort.foldl_push_records _ _ _ room).2

/-- The records of a kind among those pushed. -/
theorem State.Pushed.pushes {s t : State} {rs rs' : List Record} {k : Record → Bool} (h : s.Pushed t rs)
    (kind : rs.filter k = rs') : s.pushes t k rs' := fun room => ⟨rs, h.records room, kind⟩

/-! ## ENTRY and ROSTER records (R15, R16, R20, R52, R131) -/

/-- The words of the statements for the ENTRY records that ET pushes. -/
theorem State.wantsEntry_eq (s : State) (e : Entry) : s.wantsEntry e =
    (s.pushesEntries && match e.category with
      | some c => s.notifies c
      | none => false) := by
  simp only [State.wantsEntry, State.pushesEntries, State.inState, State.notifies]
  cases s.cs.setup <;> cases e.category <;> simp

theorem State.wantsRoster_eq (s : State) : s.wantsRoster = s.pushesRoster := rfl

/-- Whether an ENTRY record is wanted rests on own state, setup and category alone. -/
theorem State.wantsEntry_congr {s t : State} {e e' : Entry} (hc : t.cs = s.cs) (hs : t.ru.state = s.ru.state)
    (he : e'.category = e.category) : t.wantsEntry e' = s.wantsEntry e := by
  simp only [State.wantsEntry, hc, hs, he]

theorem State.pushed_pushEntry (s : State) (i : EntryIndex) (cause : EntryCause) :
    s.Pushed (s.pushEntry i cause) (if s.wantsEntry (s.entry i) then [s.entryRecord i cause] else []) := by
  rw [State.wantsEntry_eq]
  exact State.pushed_ite (State.pushed_push s _) (State.Pushed.refl s)

end Sys2Proof.Machine
end

section
/-! PROOF. The Event Table: entries rewritten one origin at a time (R16, R20), the marks of the roster (R130, R131). -/

namespace Sys2Proof.Machine

/-! ## Orphaning and purging an origin (R16, R20) -/

/-- The ENTRY record of an entry (R172). -/
def Entry.record (i : EntryIndex) (e : Entry) (cause : EntryCause) : Record :=
  .entry i e.phase e.condition e.occurrence e.acknowledger cause

/-- What orphaning and purging share: an entry that `skip` does not spare becomes `f` of itself, with an ENTRY record. -/
def State.rewriteEntry (skip : Entry → Bool) (f : Entry → Entry) (cause : EntryCause) (s : State) (i : EntryIndex) : State :=
  if skip (s.entry i) then s else (s.setEntry i (f (s.entry i))).pushEntry i cause

/-- An entry that an orphaning spares (R16). -/
def Entry.sparedByOrphaning (e : Entry) : Bool := e.isPristine || e.orphaned

/-- An entry that a purge spares (R20). -/
def Entry.sparedByPurge (e : Entry) : Bool := e.isPristine || e.sameReplicated (purgedEntry e)

/-- An entry marked orphaned (R16). -/
def Entry.markOrphaned (e : Entry) : Entry := { e with orphaned := true }

theorem State.orphanEntry_eq : State.orphanEntry =
    State.rewriteEntry Entry.sparedByOrphaning Entry.markOrphaned .orphaned := rfl

theorem State.purgeEntry_eq : State.purgeEntry = State.rewriteEntry Entry.sparedByPurge purgedEntry .purged := rfl

section Rewrite
variable (skip : Entry → Bool) (f : Entry → Entry) (cause : EntryCause)

theorem State.rewriteEntry_frame (s : State) (i : EntryIndex) :
    (s.rewriteEntry skip f cause i).cs = s.cs ∧ (s.rewriteEntry skip f cause i).ru = s.ru ∧
      (s.rewriteEntry skip f cause i).et.lineCount = s.et.lineCount ∧
      (s.rewriteEntry skip f cause i).et.countValid = s.et.countValid := by
  unfold State.rewriteEntry
  split <;> simp

theorem State.entry_congr {s t : State} (h : t.et.table = s.et.table) (i : EntryIndex) : t.entry i = s.entry i := by
  simp only [State.entry, h]

theorem State.entry_rewriteEntry (s : State) (i j : EntryIndex) :
    (s.rewriteEntry skip f cause i).entry j =
      if j = i ∧ skip (s.entry j) = false then f (s.entry j) else s.entry j := by
  simp only [State.rewriteEntry]
  by_cases same : j = i
  · subst same
    by_cases spared : skip (s.entry j) = true
    · simp [spared]
    · have : ((s.setEntry j (f (s.entry j))).pushEntry j cause).entry j = f (s.entry j) :=
        (State.entry_congr (by simp) j).trans (State.entry_setEntry_self s j _)
      simp [spared, this]
  · by_cases spared : skip (s.entry i) = true
    · simp [spared, same]
    · have : ((s.setEntry i (f (s.entry i))).pushEntry i cause).entry j = s.entry j :=
        (State.entry_congr (congrArg EventTable.table (State.pushEntry_frame _ i cause).2.1) j).trans
          (State.entry_setEntry_other s i j _ same)
      simp [spared, this, same]

/-- The record a rewrite of the entry at `i` pushes. -/
def State.rewriteRecord (s : State) (i : EntryIndex) : Option Record :=
  if !skip (s.entry i) && s.wantsEntry (f (s.entry i)) then some (Entry.record i (f (s.entry i)) cause) else none

theorem State.pushed_rewriteEntry (s : State) (i : EntryIndex) :
    s.Pushed (s.rewriteEntry skip f cause i) (s.rewriteRecord skip f cause i).toList := by
  simp only [State.rewriteEntry, State.rewriteRecord]
  by_cases spared : skip (s.entry i) = true
  · simpa [spared] using State.Pushed.refl s
  · have written : s.Pushed (s.setEntry i (f (s.entry i))) [] := .nothing (by simp) (by simp)
    have wanted : (s.setEntry i (f (s.entry i))).wantsEntry (f (s.entry i)) = s.wantsEntry (f (s.entry i)) :=
      State.wantsEntry_congr (by simp) (by simp) rfl
    have pushed := written.trans (State.pushed_pushEntry (s.setEntry i (f (s.entry i))) i cause)
    rw [State.entryRecord, State.entry_setEntry_self, wanted] at pushed
    simp only [spared, if_false, Bool.false_eq_true, Bool.not_false, Bool.true_and]
    split <;> simpa [*, Entry.record] using pushed

/-- Every point of an origin's list of points is rewritten. -/
def State.rewriteOrigin (s : State) (o : StationId) (points : List PointId) : State :=
  points.foldl (fun s p => s.rewriteEntry skip f cause (entryIndex o p)) s

theorem entryIndex_inj {o : StationId} {p q : PointId} : entryIndex o p = entryIndex o q ↔ p = q := by
  refine ⟨fun h => ?_, congrArg _⟩
  rw [← pointOf_entryIndex o p, h, pointOf_entryIndex]

theorem State.rewriteOrigin_count (o : StationId) (points : List PointId) (s : State) :
    (s.rewriteOrigin skip f cause o points).et.lineCount = s.et.lineCount ∧
      (s.rewriteOrigin skip f cause o points).et.countValid = s.et.countValid :=
  ⟨State.foldl_keeps (fun u => u.et.lineCount) _ (fun u _ => (u.rewriteEntry_frame skip f cause _).2.2.1) points s,
    State.foldl_keeps (fun u => u.et.countValid) _ (fun u _ => (u.rewriteEntry_frame skip f cause _).2.2.2) points s⟩

/-- Each entry of the origin is rewritten once, the records come in the order of the points, and every other entry stands. -/
theorem State.rewriteOrigin_spec (o : StationId) (points : List PointId) (once : points.Nodup) : ∀ s : State,
    (∀ i, (s.rewriteOrigin skip f cause o points).entry i =
      if (originOf i = o ∧ pointOf i ∈ points) ∧ skip (s.entry i) = false then f (s.entry i) else s.entry i) ∧
    s.Pushed (s.rewriteOrigin skip f cause o points)
      (points.filterMap fun p => s.rewriteRecord skip f cause (entryIndex o p)) := by
  induction points with
  | nil => exact fun s => ⟨by simp [State.rewriteOrigin], State.Pushed.refl s⟩
  | cons p rest ih =>
    intro s
    obtain ⟨fresh, once⟩ := List.nodup_cons.1 once
    obtain ⟨entries, records⟩ := ih once (s.rewriteEntry skip f cause (entryIndex o p))
    obtain ⟨hc, hr, -⟩ := s.rewriteEntry_frame skip f cause (entryIndex o p)
    have index : ∀ i : EntryIndex, i = entryIndex o p ↔ originOf i = o ∧ pointOf i = p := by
      intro i
      refine ⟨fun h => by simp [h], fun ⟨ho, hp⟩ => ?_⟩
      rw [← entryIndex_parts i, ho, hp]
    refine ⟨fun i => ?_, ?_⟩
    · change ((s.rewriteEntry skip f cause (entryIndex o p)).rewriteOrigin skip f cause o rest).entry i = _
      simp only [entries, State.entry_rewriteEntry, index]
      by_cases ho : originOf i = o
      · by_cases hp : pointOf i = p
        · simp [ho, hp, fresh]
        · simp [ho, hp]
      · simp [ho]
    · have later : (rest.filterMap fun q => (s.rewriteEntry skip f cause (entryIndex o p)).rewriteRecord skip f cause
          (entryIndex o q)) = rest.filterMap fun q => s.rewriteRecord skip f cause (entryIndex o q) := by
        refine List.filterMap_congr fun q hq => ?_
        have apart : entryIndex o q ≠ entryIndex o p := fun h => fresh (entryIndex_inj.1 h ▸ hq)
        simp only [State.rewriteRecord, State.entry_rewriteEntry, apart, false_and, if_false,
          State.wantsEntry_congr hc (congrArg RosterUnit.state hr) rfl]
      rw [later] at records
      have := (s.pushed_rewriteEntry skip f cause (entryIndex o p)).trans records
      rw [List.filterMap_cons]
      change s.Pushed ((s.rewriteEntry skip f cause (entryIndex o p)).rewriteOrigin skip f cause o rest) _
      cases h : s.rewriteRecord skip f cause (entryIndex o p) <;> simpa [h] using this

end Rewrite

theorem State.orphanOrigin_eq (s : State) (o : StationId) : s.orphanOrigin o =
    s.rewriteOrigin Entry.sparedByOrphaning Entry.markOrphaned .orphaned o (List.finRange 16) := rfl

theorem State.purgeOrigin_eq (s : State) (o : StationId) : s.purgeOrigin o =
    s.rewriteOrigin Entry.sparedByPurge purgedEntry .purged o (List.finRange 16) := rfl

theorem State.entry_orphanOrigin (s : State) (o : StationId) (i : EntryIndex) :
    (s.orphanOrigin o).entry i =
      if originOf i = o ∧ s.entry i ≠ Entry.pristine then { s.entry i with orphaned := true } else s.entry i := by
  rw [State.orphanOrigin_eq, (State.rewriteOrigin_spec _ _ _ o _ (List.nodup_finRange 16) s).1]
  by_cases pristine : s.entry i = Entry.pristine
  · simp [Entry.sparedByOrphaning, Entry.isPristine, pristine]
  · by_cases orphaned : (s.entry i).orphaned = true
    · have : { s.entry i with orphaned := true } = s.entry i := by rw [← orphaned]
      simp [Entry.sparedByOrphaning, orphaned, this]
    · simp [Entry.sparedByOrphaning, Entry.isPristine, Entry.markOrphaned, pristine, orphaned]

theorem State.entry_purgeOrigin (s : State) (o : StationId) (i : EntryIndex) :
    (s.purgeOrigin o).entry i =
      if originOf i = o ∧ s.entry i ≠ Entry.pristine then purgedEntry (s.entry i) else s.entry i := by
  rw [State.purgeOrigin_eq, (State.rewriteOrigin_spec _ _ _ o _ (List.nodup_finRange 16) s).1]
  by_cases pristine : s.entry i = Entry.pristine
  · simp [Entry.sparedByPurge, Entry.isPristine, pristine]
  · by_cases settled : (s.entry i).sameReplicated (purgedEntry (s.entry i)) = true
    · have : purgedEntry (s.entry i) = s.entry i := by
        have := settled
        simp only [Entry.sameReplicated, purgedEntry, beq_iff_eq, Entry.mk.injEq] at this
        rw [purgedEntry]
        rcases h : s.entry i with ⟨ph, co, oc, ca, ac, re, or, ra⟩
        rw [h] at this
        simp_all
      simp [Entry.sparedByPurge, this]
    · simp [Entry.sparedByPurge, Entry.isPristine, pristine, settled]

@[simp] theorem State.orphanOrigin_count (s : State) (o : StationId) :
    (s.orphanOrigin o).et.lineCount = s.et.lineCount ∧ (s.orphanOrigin o).et.countValid = s.et.countValid := by
  rw [State.orphanOrigin_eq]
  exact State.rewriteOrigin_count _ _ _ o _ s

@[simp] theorem State.purgeOrigin_count (s : State) (o : StationId) :
    (s.purgeOrigin o).et.lineCount = s.et.lineCount ∧ (s.purgeOrigin o).et.countValid = s.et.countValid := by
  rw [State.purgeOrigin_eq]
  exact State.rewriteOrigin_count _ _ _ o _ s

theorem State.pushed_orphanOrigin (s : State) (o : StationId) :
    s.Pushed (s.orphanOrigin o) ((List.finRange 16).filterMap fun p =>
      s.rewriteRecord Entry.sparedByOrphaning Entry.markOrphaned .orphaned (entryIndex o p)) := by
  rw [State.orphanOrigin_eq]
  exact (State.rewriteOrigin_spec _ _ _ o _ (List.nodup_finRange 16) s).2

theorem State.pushed_purgeOrigin (s : State) (o : StationId) :
    s.Pushed (s.purgeOrigin o) ((List.finRange 16).filterMap fun p =>
      s.rewriteRecord Entry.sparedByPurge purgedEntry .purged (entryIndex o p)) := by
  rw [State.purgeOrigin_eq]
  exact (State.rewriteOrigin_spec _ _ _ o _ (List.nodup_finRange 16) s).2

end Sys2Proof.Machine
end

section
/-! PROOF. The send queue: the invariants of the list kept by placing, removing and reclassing items (R42, R112, R113). -/

namespace Sys2Proof.Machine

/-! ## Placing again the items of a kind (R42, R113, R115) -/

/-- The items that `k` picks out, changed by `g` and placed again among the others. -/
def replaced (k : ItemKind → Bool) (g : Item → Item) (items : List Item) : List Item :=
  (items.filter fun x => k x.kind).foldl (fun l x => insertItem (g x) l) (items.filter fun x => !k x.kind)

@[simp] theorem State.reclassItems_sq (s : State) (k : ItemKind → Bool) (c : Fin 4) :
    (s.reclassItems k c).sq = { s.sq with items := replaced k (fun x => { x with cls := c }) s.sq.items } := rfl

theorem SendQueue.promote_items (q : SendQueue) :
    q.promote.items = replaced ItemKind.awaitsPromotion Item.promote q.items := rfl

theorem foldl_insertItem_perm (g : Item → Item) (moved : List Item) : ∀ others : List Item,
    (moved.foldl (fun l x => insertItem (g x) l) others).Perm (moved.map g ++ others) := by
  induction moved with
  | nil => exact fun others => List.Perm.refl _
  | cons x rest ih =>
    intro others
    refine (ih (insertItem (g x) others)).trans ?_
    refine ((insertItem_perm (g x) others).append_left (rest.map g)).trans ?_
    exact List.perm_middle

theorem replaced_perm (k : ItemKind → Bool) (g : Item → Item) (items : List Item) :
    (replaced k g items).Perm ((items.filter fun x => k x.kind).map g ++ items.filter fun x => !k x.kind) :=
  foldl_insertItem_perm g _ _

theorem mem_replaced {k : ItemKind → Bool} {g : Item → Item} {items : List Item} {y : Item} :
    y ∈ replaced k g items ↔ (∃ x ∈ items, k x.kind = true ∧ g x = y) ∨ (y ∈ items ∧ k y.kind = false) := by
  simp [(replaced_perm k g items).mem_iff, and_assoc]

/-- Placing items again keeps every count that the change of an item does not touch. -/
theorem countP_replaced {k : ItemKind → Bool} {g : Item → Item} {P : Item → Bool}
    (same : ∀ x, k x.kind = true → P (g x) = P x) (items : List Item) : (replaced k g items).countP P = items.countP P := by
  rw [(replaced_perm k g items).countP_eq, List.countP_append, List.countP_map]
  have moved : (items.filter fun x => k x.kind).countP (P ∘ g) = (items.filter fun x => k x.kind).countP P :=
    List.countP_congr fun x hx => by simp [same x (List.mem_filter.1 hx).2]
  rw [moved, ← List.countP_append]
  exact (List.filter_append_perm (fun x : Item => k x.kind) items).countP_eq P

theorem foldl_insertItem_ordered (g : Item → Item) (moved : List Item) : ∀ others : List Item,
    others.Pairwise (fun a b => a.before b = true) → ((moved.map g ++ others).map Item.age).Nodup →
      (moved.foldl (fun l x => insertItem (g x) l) others).Pairwise fun a b => a.before b = true := by
  induction moved with
  | nil => exact fun others h _ => h
  | cons x rest ih =>
    intro others ordered distinct
    have fresh : ∀ y ∈ others, y.age ≠ (g x).age := by
      intro y hy same
      rw [List.map_cons, List.cons_append, List.map_cons, List.nodup_cons] at distinct
      exact distinct.1 (same ▸ List.mem_map_of_mem (List.mem_append_right _ hy))
    refine ih (insertItem (g x) others) (insertItem_ordered (g x) others ordered fresh) ?_
    refine ((List.Perm.map Item.age ?_).nodup_iff).2 distinct
    exact ((insertItem_perm (g x) others).append_left (rest.map g)).trans List.perm_middle

/-- Placing items again at unchanged ages keeps the list in order, and its ages. -/
theorem replaced_ordered {k : ItemKind → Bool} {g : Item → Item} (age : ∀ x, (g x).age = x.age) {items : List Item}
    (ordered : items.Pairwise fun a b => a.before b = true) (distinct : (items.map Item.age).Nodup) :
    ((replaced k g items).Pairwise fun a b => a.before b = true) ∧ ((replaced k g items).map Item.age).Nodup := by
  have ages : ((items.filter fun x => k x.kind).map g ++ items.filter fun x => !k x.kind).map Item.age =
      ((items.filter fun x => k x.kind) ++ items.filter fun x => !k x.kind).map Item.age := by
    simp [Function.comp_def, age]
  have nodup : (((items.filter fun x => k x.kind).map g ++ items.filter fun x => !k x.kind).map Item.age).Nodup := by
    rw [ages]
    exact (((List.filter_append_perm (fun x : Item => k x.kind) items).map Item.age).nodup_iff).2 distinct
  exact ⟨foldl_insertItem_ordered g _ _ (ordered.filter _) nodup,
    (((replaced_perm k g items).map Item.age).nodup_iff).2 nodup⟩

/-! ## The invariants of the list -/

/-- The invariants of the list: its order and ages, its bounds by kind, the classes of the point items, and how the list stands
to the item `flying` of an attempt under way. The points in `stale` are those whose class has not yet been computed anew
(R42, R104, R112, R113, R121). -/
structure State.ListOk (flying : Option Item) (stale : List PointId) (s : State) : Prop where
  order : s.sq.items.Pairwise fun a b => a.before b = true
  ages : (s.sq.items.map Item.age).Nodup
  young : ∀ x ∈ s.sq.items, x.age < s.sq.nextAge
  flightYoung : ∀ f ∈ flying, f.age < s.sq.nextAge
  flight : ∀ f ∈ flying, ∀ x ∈ s.sq.items, x.age = f.age →
    x.kind = f.kind ∨ (x.kind.isPresence = true ∧ f.kind.isPresence = true)
  empty : s.ru.state.holdsNothing = true → s.sq.items = []
  points : ∀ p : PointId, s.countItems (ItemKind.isPointOf p) = if (s.point p).queued then 1 else 0
  claim : ∀ i : EntryIndex, s.countItems (ItemKind.isClaimOf i) ≤ 1
  claims : s.countItems ItemKind.isClaim ≤ 8
  lost : ∀ t : StationId, s.countItems (· == .lost t) ≤ if t = s.own then 0 else 1
  presence : s.countItems ItemKind.isPresence ≤ 1
  join : s.countItems ItemKind.isJoin ≤ 1
  leave : s.countItems ItemKind.isLeave ≤ if s.inState .leaving then 1 else 0
  snapshot : s.countItems (· == .snapshot) ≤ 1
  purge : s.countItems ItemKind.isPurge ≤ 1
  classes : ∀ x ∈ s.sq.items, ∀ p : PointId, p ∉ stale → x.kind = .point p → x.cls = s.pointClass p

theorem State.listOk_iff (s : State) :
    s.ListOk (s.lc.inFlight.map InFlight.item) [] ↔ s.QueueOk ∧ s.BoundsOk ∧ s.FlightOk ∧ s.ClassesOk := by
  constructor
  · intro h
    exact ⟨⟨h.order, h.ages, h.young, fun f hf => h.flightYoung f.item (Option.mem_map_of_mem _ hf), h.empty⟩,
      ⟨h.points, h.claim, h.claims, h.lost, h.presence, h.join, h.leave, h.snapshot, h.purge⟩,
      fun f hf => h.flight f.item (Option.mem_map_of_mem _ hf), fun x hx p => h.classes x hx p (by simp)⟩
  · rintro ⟨⟨h1, h2, h3, h4, h5⟩, ⟨b1, b2, b3, b4, b5, b6, b7, b8, b9⟩, hf, hc⟩
    refine ⟨h1, h2, h3, fun x hx => ?_, fun x hx => ?_, h5, b1, b2, b3, b4, b5, b6, b7, b8, b9, fun x hx p _ => hc x hx p⟩
    all_goals
      obtain ⟨f, flies, rfl⟩ := Option.mem_map.1 hx
    · exact h4 f flies
    · exact hf f flies

/-- The class of a point item rests on configuration and pending reminder count alone. -/
theorem State.pointClass_congr {s t : State} {p : PointId} (hc : t.cs = s.cs)
    (hp : (t.point p).pendingReminders = (s.point p).pendingReminders) : t.pointClass p = s.pointClass p := by
  simp only [State.pointClass, State.pointCategory, State.pointSetup, State.category, hc, hp]

/-- The invariants of the list rest on the list, what is in flight, the own state and number, and the points' queued flags
and reminder counts. -/
theorem State.ListOk.congr {flying : Option Item} {stale : List PointId} {s t : State} (h : s.ListOk flying stale)
    (items : t.sq.items = s.sq.items)
    (next : t.sq.nextAge = s.sq.nextAge) (state : t.ru.state = s.ru.state) (cs : t.cs = s.cs)
    (queued : ∀ p, (t.point p).queued = (s.point p).queued)
    (pending : ∀ p, p ∉ stale → (t.point p).pendingReminders = (s.point p).pendingReminders) : t.ListOk flying stale := by
  have count : ∀ k, t.countItems k = s.countItems k := fun k => by simp only [State.countItems, items]
  refine ⟨items ▸ h.order, items ▸ h.ages, by rw [items, next]; exact h.young, ?_, ?_, by rw [state, items]; exact h.empty,
    fun p => by rw [count, queued]; exact h.points p, fun i => by rw [count]; exact h.claim i, by rw [count]; exact h.claims,
    fun u => by rw [count, State.own, cs]; exact h.lost u, by rw [count]; exact h.presence, by rw [count]; exact h.join,
    by rw [count, State.inState, state]; exact h.leave, by rw [count]; exact h.snapshot, by rw [count]; exact h.purge, ?_⟩
  · exact fun f hf => next ▸ h.flightYoung f hf
  · exact fun f hf x hx => h.flight f hf x (items ▸ hx)
  · intro x hx p fresh kind
    rw [State.pointClass_congr cs (pending p fresh)]
    exact h.classes x (items ▸ hx) p fresh kind

theorem State.ListOk.weaken {flying : Option Item} {stale more : List PointId} {s : State} (h : s.ListOk flying stale)
    (sub : ∀ p ∈ stale, p ∈ more) :
    s.ListOk flying more :=
  { h with classes := fun x hx p fresh => h.classes x hx p fun hp => fresh (sub p hp) }

theorem State.ListOk.landed {flying : Option Item} {stale : List PointId} {s : State} (h : s.ListOk flying stale) :
    s.ListOk none stale :=
  { h with flightYoung := nofun, flight := nofun }

/-! ### Removing items -/

/-- Taking items out keeps the invariants, when the queued flags follow and the new own state allows what is left. -/
theorem State.ListOk.remove {flying : Option Item} {stale : List PointId} {s t : State} (h : s.ListOk flying stale)
    (items : t.sq.items.Sublist s.sq.items)
    (next : t.sq.nextAge = s.sq.nextAge) (cs : t.cs = s.cs)
    (empty : t.ru.state.holdsNothing = true → t.sq.items = [])
    (leave : t.countItems ItemKind.isLeave ≤ if t.inState .leaving then 1 else 0)
    (points : ∀ p : PointId, t.countItems (ItemKind.isPointOf p) = if (t.point p).queued then 1 else 0)
    (pending : ∀ p, p ∉ stale → (t.point p).pendingReminders = (s.point p).pendingReminders) : t.ListOk flying stale := by
  have fewer : ∀ {k n}, s.countItems k ≤ n → t.countItems k ≤ n := fun hn => items.countP_le.trans hn
  have own : t.own = s.own := congrArg ConfigStore.stationNumber cs
  refine ⟨h.order.sublist items, h.ages.sublist (items.map _), ?_, ?_, ?_, empty, points, fun i => fewer (h.claim i),
    fewer h.claims, fun u => own ▸ fewer (h.lost u), fewer h.presence, fewer h.join, leave, fewer h.snapshot, fewer h.purge, ?_⟩
  · exact fun x hx => next ▸ h.young x (items.subset hx)
  · exact fun f hf => next ▸ h.flightYoung f hf
  · exact fun f hf x hx => h.flight f hf x (items.subset hx)
  · intro x hx p fresh kind
    rw [State.pointClass_congr cs (pending p fresh)]
    exact h.classes x (items.subset hx) p fresh kind

/-- Taking out items other than point items keeps the invariants. -/
theorem State.ListOk.filter {flying : Option Item} {stale : List PointId} {s t : State} (h : s.ListOk flying stale)
    (keep : Item → Bool)
    (items : t.sq.items = s.sq.items.filter keep) (points : ∀ x ∈ s.sq.items, x.kind.isPoint = true → keep x = true)
    (next : t.sq.nextAge = s.sq.nextAge) (state : t.ru.state = s.ru.state) (cs : t.cs = s.cs) (pu : t.pu = s.pu) :
    t.ListOk flying stale := by
  have point : ∀ p, t.point p = s.point p := fun p => by simp only [State.point, pu]
  have sublist : t.sq.items.Sublist s.sq.items := items ▸ List.filter_sublist
  refine h.remove sublist next cs ?_ ?_ (fun p => ?_) (fun p _ => by rw [point])
  · intro hold
    rw [items, h.empty (state ▸ hold), List.filter_nil]
  · rw [State.inState, state]
    exact sublist.countP_le.trans h.leave
  · rw [point, ← h.points p, State.countItems, State.countItems, items, List.countP_filter]
    refine List.countP_congr fun x hx => ?_
    have := points x hx
    cases kind : x.kind <;> simp_all [ItemKind.isPointOf, ItemKind.isPoint]

/-! ### Placing a new item -/

/-- There is room in the list for one more item of the kind (R112). -/
def State.roomFor (s : State) : ItemKind → Prop
  | .point p => (s.point p).queued = false
  | .claim i _ => s.countItems (ItemKind.isClaimOf i) = 0 ∧ s.countItems ItemKind.isClaim < 8
  | .lost t => t ≠ s.own ∧ s.countItems (· == .lost t) = 0
  | .presence _ => s.countItems ItemKind.isPresence = 0
  | .join _ => s.countItems ItemKind.isJoin = 0
  | .leave _ => s.countItems ItemKind.isLeave = 0 ∧ s.ru.state = .leaving
  | .snapshot => s.countItems (· == .snapshot) = 0
  | .purge _ => s.countItems ItemKind.isPurge = 0

theorem State.countItems_eq_zero {s : State} {k : ItemKind → Bool} : s.countItems k = 0 ↔ s.hasItem k = false := by
  simp [State.countItems, State.hasItem, List.countP_eq_zero]

theorem countP_insertItem (P : Item → Bool) (x : Item) (l : List Item) :
    (insertItem x l).countP P = l.countP P + if P x then 1 else 0 := by
  rw [(insertItem_perm x l).countP_eq, List.countP_cons]

/-- A new item at the tail of its class keeps the invariants, when there is room for it and a point's flag follows. -/
theorem State.ListOk.place {flying : Option Item} {stale : List PointId} {s t : State} (h : s.ListOk flying stale)
    {kind : ItemKind} {cls : Fin 4}
    (room : s.roomFor kind) (listed : s.ru.state.holdsNothing = false)
    (cls_eq : ∀ p, p ∉ stale → kind = .point p → cls = s.pointClass p)
    (sq : t.sq = s.sq.enqueue kind cls) (state : t.ru.state = s.ru.state)
    (cs : t.cs = s.cs) (queued : ∀ p, (t.point p).queued = ((s.point p).queued || kind.isPointOf p))
    (pending : ∀ p, p ∉ stale → (t.point p).pendingReminders = (s.point p).pendingReminders) : t.ListOk flying stale := by
  have count : ∀ k : ItemKind → Bool, t.countItems k = s.countItems k + if k kind then 1 else 0 := by
    intro k
    rw [State.countItems, sq]
    exact countP_insertItem _ _ _
  have own : t.own = s.own := congrArg ConfigStore.stationNumber cs
  have bound : ∀ (k : ItemKind → Bool) (n : Nat), s.countItems k ≤ n → (k kind = true → s.countItems k < n) →
      t.countItems k ≤ n := by
    intro k n below more
    rw [count]
    split
    · exact more ‹_›
    · exact below
  obtain ⟨order, ages, young⟩ := s.sq.enqueue_keeps kind cls h.order h.ages h.young
  refine ⟨sq ▸ order, sq ▸ ages, sq ▸ young, ?_, ?_, ?_, ?_, fun i => bound _ _ (h.claim i) ?_, bound _ _ h.claims ?_,
    fun u => ?_, bound _ _ h.presence ?_, bound _ _ h.join ?_, ?_, bound _ _ h.snapshot ?_, bound _ _ h.purge ?_, ?_⟩
  case refine_1 =>
    intro f hf
    rw [sq]
    exact Nat.lt_succ_of_lt (h.flightYoung f hf)
  case refine_2 =>
    intro f hf x hx same
    rw [sq] at hx
    rcases (mem_insertItem _ x s.sq.items).1 hx with rfl | old
    · exact absurd same (Nat.ne_of_gt (h.flightYoung f hf))
    · exact h.flight f hf x old same
  case refine_3 =>
    intro hold
    rw [state, listed] at hold
    exact nomatch hold
  case refine_4 =>
    intro p
    rw [count, queued, h.points]
    by_cases this : kind.isPointOf p = true
    · obtain rfl : kind = .point p := by cases kind <;> simp_all [ItemKind.isPointOf]
      have free : (s.point p).queued = false := room
      simp [this, free]
    · simp [this]
  case refine_7 =>
    rw [own]
    refine bound _ _ (h.lost u) fun this => ?_
    obtain rfl : kind = .lost u := by simpa using this
    obtain ⟨peer, none⟩ := room
    rw [none, if_neg peer]
    exact Nat.zero_lt_one
  case refine_10 =>
    rw [State.inState, state]
    refine bound _ _ h.leave fun this => ?_
    cases kind with
    | leave cause =>
      obtain ⟨none, leaving⟩ := room
      simp [none, leaving]
    | _ => exact nomatch this
  case refine_13 =>
    intro x hx p fresh kind_eq
    rw [State.pointClass_congr cs (pending p fresh)]
    rw [sq] at hx
    rcases (mem_insertItem _ x s.sq.items).1 hx with rfl | old
    · exact cls_eq p fresh kind_eq
    · exact h.classes x old p fresh kind_eq
  case refine_5 =>
    intro this
    cases kind with
    | claim j occ =>
      obtain rfl : i = j := by simpa [ItemKind.isClaimOf] using this
      exact Nat.lt_one_iff.2 room.1
    | _ => exact nomatch this
  case refine_6 =>
    intro this
    cases kind with
    | claim j occ => exact room.2
    | _ => exact nomatch this
  case refine_8 =>
    intro this
    cases kind with
    | presence timer => exact Nat.lt_one_iff.2 room
    | _ => exact nomatch this
  case refine_9 =>
    intro this
    cases kind with
    | join mode => exact Nat.lt_one_iff.2 room
    | _ => exact nomatch this
  case refine_11 =>
    intro this
    obtain rfl : kind = .snapshot := by simpa using this
    exact Nat.lt_one_iff.2 room
  case refine_12 =>
    intro this
    cases kind with
    | purge o => exact Nat.lt_one_iff.2 room
    | _ => exact nomatch this

end Sys2Proof.Machine
end

section
/-! PROOF. The operations on the send queue, one by one: each keeps the invariants of the list. -/

namespace Sys2Proof.Machine

theorem State.point_congr {s t : State} (h : t.pu = s.pu) (p : PointId) : t.point p = s.point p := by
  simp only [State.point, h]

theorem State.point_onPoint (s : State) (p q : PointId) (g : PointRecord → PointRecord) :
    (s.onPoint p g).point q = if q = p then g (s.point q) else s.point q := by
  split
  · rename_i same
    exact same ▸ State.point_onPoint_self s q g
  · exact State.point_onPoint_other s p q g ‹_›

theorem State.ListOk.congr_blocks {flying : Option Item} {stale : List PointId} {s t : State} (h : s.ListOk flying stale)
    (sq : t.sq = s.sq)
    (state : t.ru.state = s.ru.state) (cs : t.cs = s.cs) (pu : t.pu = s.pu) :
    t.ListOk flying stale :=
  h.congr (by rw [sq]) (by rw [sq]) state cs (fun p => by rw [State.point_congr pu])
    fun p _ => by rw [State.point_congr pu]

/-! ## Requests (R112) -/

/-- A new item of a kind other than a point's. -/
theorem State.ListOk.enqueue {flying : Option Item} {stale : List PointId} {s : State} (h : s.ListOk flying stale)
    {kind : ItemKind} {cls : Fin 4}
    (room : s.roomFor kind) (listed : s.ru.state.holdsNothing = false) (other : kind.isPoint = false) :
    (s.enqueue kind cls).ListOk flying stale := by
  refine h.place room listed (fun p _ same => ?_) rfl rfl rfl (fun p => ?_) fun p _ => rfl
  · subst same
    exact nomatch other
  · have : kind.isPointOf p = false := by cases kind <;> first | rfl | exact nomatch other
    rw [this, Bool.or_false]
    rfl

theorem State.ListOk.requestPresence {flying : Option Item} {stale : List PointId} {s : State} (h : s.ListOk flying stale)
    (listed : s.ru.state.holdsNothing = false) : s.requestPresence.ListOk flying stale := by
  unfold State.requestPresence
  split
  · exact h
  · exact h.enqueue (State.countItems_eq_zero.2 (Bool.eq_false_iff.2 ‹_›)) listed rfl

theorem State.ListOk.requestLost {flying : Option Item} {stale : List PointId} {s : State} (h : s.ListOk flying stale)
    (listed : s.ru.state.holdsNothing = false) {t : StationId} (peer : t ≠ s.own) : (s.requestLost t).ListOk flying stale := by
  unfold State.requestLost
  split
  · exact h
  · exact h.enqueue ⟨peer, State.countItems_eq_zero.2 (Bool.eq_false_iff.2 ‹_›)⟩ listed rfl

theorem State.ListOk.requestSnapshot {flying : Option Item} {stale : List PointId} {s : State} (h : s.ListOk flying stale)
    (listed : s.ru.state.holdsNothing = false) : s.requestSnapshot.ListOk flying stale := by
  unfold State.requestSnapshot
  split
  · exact h
  · exact h.enqueue (State.countItems_eq_zero.2 (Bool.eq_false_iff.2 ‹_›)) listed rfl

theorem State.ListOk.replaceJoin {flying : Option Item} {stale : List PointId} {s : State} (h : s.ListOk flying stale)
    (listed : s.ru.state.holdsNothing = false) (mode : JoinMode) : (s.replaceJoin mode).ListOk flying stale := by
  have without : (s.onSq fun q => { q with items := q.items.filter fun x => !x.kind.isJoin }).ListOk flying stale := by
    refine h.filter (fun x => !x.kind.isJoin) rfl (fun x _ point => ?_) rfl rfl rfl rfl
    cases kind : x.kind <;> simp_all [ItemKind.isPoint, ItemKind.isJoin]
  refine without.enqueue ?_ listed rfl
  simp [State.roomFor, State.countItems, List.countP_filter]

/-! ## Withdrawals (R119, R139, R152) -/

theorem State.ListOk.withdraw {flying : Option Item} {stale : List PointId} {s : State} (h : s.ListOk flying stale)
    {k : ItemKind → Bool}
    (others : ∀ p, k (.point p) = false) : (s.withdraw k).ListOk flying stale := by
  refine h.filter (fun x => !k x.kind || s.flies x) rfl (fun x _ point => ?_) rfl rfl rfl rfl
  cases kind : x.kind <;> simp_all [ItemKind.isPoint]

/-- Removing an item by its age, when no point item has that age. -/
theorem State.ListOk.dropItem {flying : Option Item} {stale : List PointId} {s : State} (h : s.ListOk flying stale) {x : Item}
    (other : ∀ y ∈ s.sq.items, y.age = x.age → y.kind.isPoint = false) : (s.dropItem x).ListOk flying stale := by
  refine h.filter (fun y => y.age != x.age) rfl (fun y hy point => ?_) rfl rfl rfl rfl
  simpa using fun same => by simp [other y hy same] at point

/-- Two items of one age are one item. -/
theorem State.ListOk.eq_of_age {flying : Option Item} {stale : List PointId} {s : State} (h : s.ListOk flying stale)
    {x y : Item} (hx : x ∈ s.sq.items)
    (hy : y ∈ s.sq.items) (same : x.age = y.age) : x = y :=
  List.inj_on_of_nodup_map h.ages hx hy same

/-! ## Points (R35, R42, R44) -/

/-- The class of a point's item computed anew. -/
theorem State.ListOk.reclassPoint {flying : Option Item} {stale : List PointId} {s : State} {p : PointId}
    (h : s.ListOk flying (p :: stale)) :
    (s.reclassPoint p).ListOk flying stale := by
  have kept : ∀ x : Item, ItemKind.isPointOf p x.kind = true → x.kind = .point p := by
    intro x moved
    cases kind : x.kind with
    | point q =>
      rw [kind] at moved
      rw [show p = q by simpa [ItemKind.isPointOf] using moved]
    | _ =>
      rw [kind] at moved
      exact nomatch moved
  have count : ∀ k, (s.reclassPoint p).countItems k = s.countItems k := fun k =>
    countP_replaced (P := fun x => k x.kind) (g := fun x => { x with cls := s.pointClass p }) (fun _ _ => rfl) _
  have old : ∀ x ∈ (s.reclassPoint p).sq.items, ∃ y ∈ s.sq.items, y.kind = x.kind ∧ y.age = x.age ∧
      (x.cls = y.cls ∧ x.kind.isPointOf p = false ∨ x.cls = s.pointClass p ∧ x.kind = .point p) := by
    intro x hx
    rcases mem_replaced.1 hx with ⟨y, hy, moved, rfl⟩ | ⟨hx, stays⟩
    · exact ⟨y, hy, rfl, rfl, .inr ⟨rfl, kept y moved⟩⟩
    · exact ⟨x, hx, rfl, rfl, .inl ⟨rfl, stays⟩⟩
  obtain ⟨order, ages⟩ := replaced_ordered (k := ItemKind.isPointOf p) (g := fun x => { x with cls := s.pointClass p })
    (fun _ => rfl) h.order h.ages
  refine ⟨order, ages, ?_, h.flightYoung, ?_, ?_, fun q => by rw [count]; exact h.points q,
    fun i => by rw [count]; exact h.claim i, by rw [count]; exact h.claims, fun u => by rw [count]; exact h.lost u,
    by rw [count]; exact h.presence, by rw [count]; exact h.join, by rw [count]; exact h.leave,
    by rw [count]; exact h.snapshot, by rw [count]; exact h.purge, ?_⟩
  · intro x hx
    obtain ⟨y, hy, -, age, -⟩ := old x hx
    exact age ▸ h.young y hy
  · intro f hf x hx same
    obtain ⟨y, hy, kind, age, -⟩ := old x hx
    exact kind ▸ h.flight f hf y hy (age.trans same)
  · intro hold
    change replaced _ _ s.sq.items = []
    rw [h.empty hold]
    rfl
  · intro x hx q fresh kind_x
    obtain ⟨y, hy, kind, -, ⟨cls, other⟩ | ⟨cls, kind'⟩⟩ := old x hx
    · have : q ≠ p := by
        rintro rfl
        rw [kind_x] at other
        simp [ItemKind.isPointOf] at other
      rw [cls]
      exact h.classes y hy q (by simp [this, fresh]) (kind.trans kind_x)
    · obtain rfl : q = p := by
        rw [kind_x] at kind'
        injection kind'
      exact cls

theorem State.ListOk.reclassAll {flying : Option Item} (points : List PointId) : ∀ {s : State}, s.ListOk flying points →
    (points.foldl State.reclassPoint s).ListOk flying [] := by
  induction points with
  | nil => exact fun h => h
  | cons p rest ih => exact fun h => ih h.reclassPoint

theorem State.ListOk.queuePoint {flying : Option Item} {stale : List PointId} {s : State} (h : s.ListOk flying stale)
    (listed : s.ru.state.holdsNothing = false) {p : PointId} (free : (s.point p).queued = false) :
    (s.queuePoint p).ListOk flying stale := by
  have point : ∀ q, (s.queuePoint p).point q = if q = p then { s.point q with queued := true } else s.point q :=
    fun q => State.point_onPoint _ p q _
  refine h.place (kind := .point p) free listed (fun q _ same => ?_) rfl rfl rfl (fun q => ?_) fun q _ => ?_
  · injection same with same
    rw [same]
  · rw [point]
    by_cases same : q = p
    · simp [same, ItemKind.isPointOf]
    · simp [same, ItemKind.isPointOf]
  · rw [point]
    split <;> rfl

theorem State.member_listed {s : State} (h : s.ru.state = .member) : s.ru.state.holdsNothing = false := by rw [h]; rfl

theorem State.inState_iff {s : State} {st : StationState} : s.inState st = true ↔ s.ru.state = st := beq_iff_eq

theorem State.ListOk.announceCheck {flying : Option Item} {stale : List PointId} {s : State} (h : s.ListOk flying stale)
    (p : PointId) (forced : Bool) :
    (s.announceCheck p forced).ListOk flying stale := by
  unfold State.announceCheck
  split
  · rename_i due
    simp only [Bool.and_eq_true, State.inState_iff, Bool.not_eq_true'] at due
    exact h.queuePoint (State.member_listed due.1.1.1) due.1.2
  · exact h

theorem State.ListOk.reannounceAll {flying : Option Item} {stale : List PointId} {s : State} (h : s.ListOk flying stale)
    (listed : s.ru.state.holdsNothing = false) : s.reannounceAll.ListOk flying stale := by
  refine (List.foldlRecOn (motive := fun u : State => u.ListOk flying stale ∧ u.ru = s.ru) (List.finRange 16) _ ⟨h, rfl⟩ ?_).1
  rintro u ⟨hu, same⟩ p -
  split
  · rename_i due
    simp only [Bool.and_eq_true, Bool.not_eq_true'] at due
    exact ⟨hu.queuePoint (same ▸ listed) due.2, by simpa using same⟩
  · exact ⟨hu, same⟩

/-- A change of one point's record that leaves its queued flag makes at most its class stale. -/
theorem State.ListOk.onPoint {flying : Option Item} {s : State} (h : s.ListOk flying []) {p : PointId}
    {g : PointRecord → PointRecord}
    (queued : (g (s.point p)).queued = (s.point p).queued) : (s.onPoint p g).ListOk flying [p] := by
  refine (h.weaken (more := [p]) (by simp)).congr rfl rfl rfl rfl (fun q => ?_) fun q fresh => ?_
  · rw [State.point_onPoint]
    split
    · rename_i same
      rw [same, queued]
    · rfl
  · rw [State.point_onPoint, if_neg (by simpa using fresh)]

/-- A change of the points' records that leaves queued flags and reminder counts. -/
theorem State.ListOk.onPoints {flying : Option Item} {stale : List PointId} {s : State} (h : s.ListOk flying stale)
    {g : PointId → PointRecord → PointRecord} (queued : ∀ p r, (g p r).queued = r.queued)
    (pending : ∀ p r, (g p r).pendingReminders = r.pendingReminders) : (s.onPoints g).ListOk flying stale :=
  h.congr rfl rfl rfl rfl (fun p => by rw [State.point_onPoints, queued])
    fun p _ => by rw [State.point_onPoints, pending]

/-- A change of the points' records that leaves queued flags makes at most all classes stale. -/
theorem State.ListOk.onPoints_stale {flying : Option Item} {s : State} (h : s.ListOk flying [])
    {g : PointId → PointRecord → PointRecord}
    (queued : ∀ p r, (g p r).queued = r.queued) : (s.onPoints g).ListOk flying (List.finRange 16) :=
  (h.weaken (by simp)).congr rfl rfl rfl rfl (fun p => by rw [State.point_onPoints, queued])
    fun p fresh => absurd (List.mem_finRange p) fresh

theorem State.ListOk.qualifyTo {flying : Option Item} {s : State} (h : s.ListOk flying []) (p : PointId) (c : Condition) :
    (s.qualifyTo p c).ListOk flying [] :=
  (State.ListOk.reclassPoint (h.onPoint (by cases c <;> rfl))).announceCheck p false

theorem State.ListOk.remind {flying : Option Item} {s : State} (h : s.ListOk flying []) (p : PointId) :
    (s.remind p).ListOk flying [] :=
  (State.ListOk.reclassPoint (h.onPoint rfl)).announceCheck p true

theorem adoptOccurrence_queued (e : Entry) (r : PointRecord) : (adoptOccurrence e r).queued = r.queued := by
  simp only [adoptOccurrence]
  (repeat' split) <;> rfl

theorem State.ListOk.adoptOccurrences {flying : Option Item} {s : State} (h : s.ListOk flying []) :
    s.adoptOccurrences.ListOk flying [] := by
  refine State.ListOk.reclassAll _ (h.onPoints_stale fun p r => ?_)
  split
  · exact adoptOccurrence_queued _ _
  · rfl

theorem State.ListOk.resetPending {flying : Option Item} {s : State} (h : s.ListOk flying []) : s.resetPending.ListOk flying [] :=
  State.ListOk.reclassAll _ (h.onPoints_stale fun _ _ => rfl)

theorem State.ListOk.startReminder {flying : Option Item} {stale : List PointId} {s : State} (h : s.ListOk flying stale)
    (p : PointId) :
    (s.startReminder p).ListOk flying stale := by
  unfold State.startReminder
  split
  · refine h.congr rfl rfl rfl rfl (fun q => ?_) fun q _ => ?_
    all_goals
      rw [State.point_onPoint]
      split <;> rfl
  · exact h

/-! ## The own point's item (R37, R118) -/

theorem State.ListOk.nodup {flying : Option Item} {stale : List PointId} {s : State} (h : s.ListOk flying stale) :
    s.sq.items.Nodup := h.ages.of_map Item.age

/-- Dropping by age an item of the list erases it. -/
theorem State.ListOk.dropItem_items {flying : Option Item} {stale : List PointId} {s : State} (h : s.ListOk flying stale)
    {y : Item} (hy : y ∈ s.sq.items) : (s.dropItem y).sq.items = s.sq.items.erase y := by
  rw [h.nodup.erase_eq_filter, State.dropItem_sq]
  refine List.filter_congr fun x hx => ?_
  rw [Bool.eq_iff_iff]
  simp only [bne_iff_ne, ne_eq, not_iff_not]
  exact ⟨fun same => h.eq_of_age hx hy same, congrArg _⟩

/-- A point's item leaves the list, and its queued flag with it. -/
theorem State.ListOk.dropPoint {flying : Option Item} {stale : List PointId} {s : State} (h : s.ListOk flying stale)
    {y : Item} {p : PointId} (hy : y ∈ s.sq.items) (kind : y.kind = .point p) :
    ((s.dropItem y).onPoint p fun r => { r with queued := false }).ListOk flying stale := by
  have items : ((s.dropItem y).onPoint p fun r => { r with queued := false }).sq.items = s.sq.items.erase y :=
    h.dropItem_items hy
  have sublist : (s.sq.items.erase y).Sublist s.sq.items := List.erase_sublist
  have point : ∀ q, ((s.dropItem y).onPoint p fun r => { r with queued := false }).point q =
      if q = p then { s.point q with queued := false } else s.point q := fun q => State.point_onPoint _ p q _
  refine h.remove (items ▸ sublist) rfl rfl ?_ ?_ (fun q => ?_) fun q _ => ?_
  · intro hold
    exact absurd hy (by simp [h.empty hold])
  · rw [State.countItems, items]
    exact sublist.countP_le.trans h.leave
  · have count := h.points q
    rw [State.countItems] at count ⊢
    rw [items, List.countP_erase, count]
    by_cases same : q = p
    · subst same
      have one : 0 < s.sq.items.countP fun x => x.kind.isPointOf q :=
        List.countP_pos_iff.2 ⟨y, hy, by simp [kind, ItemKind.isPointOf]⟩
      have queued : (s.point q).queued = true := by
        by_contra no
        rw [count, if_neg no] at one
        exact Nat.lt_irrefl _ one
      rw [point]
      simp [hy, kind, ItemKind.isPointOf, queued]
    · rw [point]
      simp [kind, ItemKind.isPointOf, same]
  · rw [point]
    split <;> rfl

/-- A point's item goes to the tail of its class with a new age (R37, R113). -/
theorem State.ListOk.requeue {flying : Option Item} {s : State} (h : s.ListOk flying [])
    {y : Item} {p : PointId} (hy : y ∈ s.sq.items) (kind : y.kind = .point p) : (s.requeue y).ListOk flying [] := by
  have listed : s.ru.state.holdsNothing = false := by
    by_contra hold
    rw [h.empty (by simpa using hold)] at hy
    exact nomatch hy
  have queued : (s.point p).queued = true := by
    have := h.points p
    by_contra no
    rw [if_neg no, State.countItems, List.countP_eq_zero] at this
    exact this y hy (by simp [kind, ItemKind.isPointOf])
  have point : ∀ q, ((s.dropItem y).onPoint p fun r => { r with queued := false }).point q =
      if q = p then { s.point q with queued := false } else s.point q := fun q => State.point_onPoint _ p q _
  have pending : ∀ q, (((s.dropItem y).onPoint p fun r => { r with queued := false }).point q).pendingReminders =
      (s.point q).pendingReminders := by
    intro q
    rw [point]
    split <;> rfl
  refine (h.dropPoint hy kind).place (kind := y.kind) (cls := y.cls) ?_ listed (fun q fresh same => ?_) rfl rfl rfl
    (fun q => ?_) fun q _ => (pending q).symm
  · rw [kind]
    change PointRecord.queued _ = false
    rw [point, if_pos rfl]
  · rw [h.classes y hy q fresh same]
    exact (State.pointClass_congr (s := s) (t := (s.dropItem y).onPoint p _) (State.dropItem_frame s y).1 (pending q)).symm
  · change (s.point q).queued = _
    rw [point, kind]
    by_cases same : q = p
    · simp [same, ItemKind.isPointOf, queued]
    · simp [same, ItemKind.isPointOf]

/-- The items that the item of an attempt can be are of its kind, a PRESENCE apart. -/
theorem State.ListOk.own_kind {x y : Item} {stale : List PointId} {s : State} (h : s.ListOk (some x) stale)
    (hy : y ∈ s.sq.items) (same : y.age = x.age) (other : x.kind.isPresence = false) : y.kind = x.kind := by
  rcases h.flight x rfl y hy same with kind | ⟨-, presence⟩
  · exact kind
  · rw [other] at presence
    exact nomatch presence

theorem State.ListOk.settlePoint {s : State} {x : Item} {p : PointId} (h : s.ListOk (some x) [])
    (kind : x.kind = .point p) : (s.settlePoint x p).ListOk (some x) [] := by
  unfold State.settlePoint
  refine State.ListOk.startReminder ?_ p
  cases found : s.sq.items.find? fun y => y.age == x.age with
  | none => exact h
  | some y =>
    have hy := List.mem_of_find?_eq_some found
    have kind_y : y.kind = .point p := by
      rw [← kind]
      exact h.own_kind hy (by simpa using List.find?_some found) (by rw [kind]; rfl)
    dsimp only
    split
    · exact (h.dropPoint hy kind_y).announceCheck p false
    · exact h.requeue hy kind_y

theorem State.ListOk.settleOwnPoint {s : State} {own : Option Item} (h : s.ListOk own []) :
    (s.settleOwnPoint own).ListOk own [] := by
  unfold State.settleOwnPoint
  cases own with
  | none => exact h
  | some x =>
    dsimp only
    cases kind : x.kind with
    | point p => exact h.settlePoint kind
    | _ => exact h

/-! ## The list at an acceptance (R54, R55, R118, R119) -/

theorem State.ListOk.push {flying : Option Item} {stale : List PointId} {s : State} (h : s.ListOk flying stale) (r : Record) :
    (s.push r).ListOk flying stale :=
  h.congr_blocks (by simp) (by simp) (by simp) (by simp)

theorem State.ListOk.settleOwn {flying : Option Item} {old s : State} {x : Item} (h : s.ListOk flying [])
    (only : ∀ y ∈ s.sq.items, y.age = x.age → y = x) : (State.settleOwn old s x).ListOk flying [] := by
  have dropped : x.kind.isPoint = false → (s.dropItem x).ListOk flying [] := fun other =>
    h.dropItem fun y hy same => (only y hy same).symm ▸ other
  unfold State.settleOwn
  cases kind : x.kind with
  | point p => exact h
  | claim i n => exact (dropped (by rw [kind]; rfl)).push _
  | purge o => exact (dropped (by rw [kind]; rfl)).push _
  | presence timer => exact (dropped (by rw [kind]; rfl)).congr rfl rfl rfl rfl (fun _ => rfl) fun _ _ => rfl
  | lost t => exact dropped (by rw [kind]; rfl)
  | join m => exact dropped (by rw [kind]; rfl)
  | leave c => exact dropped (by rw [kind]; rfl)
  | snapshot =>
    dsimp only
    split
    · exact h
    · exact dropped (by rw [kind]; rfl)

theorem State.ListOk.checkClaim {flying : Option Item} {old s : State} {x : Item} (h : s.ListOk flying [])
    (only : ∀ y ∈ s.sq.items, y.age = x.age → y = x) : (State.checkClaim old s x).ListOk flying [] := by
  unfold State.checkClaim
  cases kind : x.kind with
  | claim i n =>
    have dropped : (s.dropItem x).ListOk flying [] := h.dropItem fun y hy same => by rw [only y hy same, kind]; rfl
    dsimp only
    split
    · exact h
    · cases s.claimDecision i (s.entry i) n with
      | wins => exact h
      | void r => exact dropped.push _
  | _ => exact h

theorem State.ListOk.settleItem {flying own : Option Item} {old s : State} {x : Item} (h : s.ListOk flying [])
    (only : ∀ y ∈ s.sq.items, y.age = x.age → y = x) : (State.settleItem old own s x).ListOk flying [] := by
  unfold State.settleItem
  cases own with
  | none => exact h.checkClaim only
  | some y =>
    dsimp only
    split
    · exact h.settleOwn only
    · exact h.checkClaim only

/-- Settling an item adds none. -/
theorem State.settleItem_subset (old s : State) (own : Option Item) (x : Item) :
    (State.settleItem old own s x).sq.items ⊆ s.sq.items := by
  have unclaimed : (State.checkClaim old s x).sq.items ⊆ s.sq.items := by
    unfold State.checkClaim
    (repeat' split) <;> simp
  have settled : (State.settleOwn old s x).sq.items ⊆ s.sq.items := by
    unfold State.settleOwn
    (repeat' split) <;> simp
  unfold State.settleItem
  (repeat' split) <;> assumption

theorem State.ListOk.settleItems {flying own : Option Item} {old s : State} (h : s.ListOk flying []) :
    (s.sq.items.foldl (State.settleItem old own) s).ListOk flying [] := by
  refine (List.foldlRecOn (motive := fun u : State => u.ListOk flying [] ∧ u.sq.items ⊆ s.sq.items) s.sq.items _
    ⟨h, List.Subset.refl _⟩ ?_).1
  rintro u ⟨hu, subset⟩ x hx
  exact ⟨hu.settleItem fun y hy same => h.eq_of_age (subset hy) hx same,
    List.Subset.trans (State.settleItem_subset old u own x) subset⟩

theorem State.ListOk.withdrawOvertaken {flying : Option Item} {s : State} (h : s.ListOk flying []) (sender : StationId) :
    (s.withdrawOvertaken sender).ListOk flying [] := by
  unfold State.withdrawOvertaken
  dsimp only
  split
  · exact h.withdraw fun _ => rfl
  · exact State.ListOk.withdraw (h.withdraw fun _ => rfl) fun _ => rfl

theorem State.ListOk.settleQueue {flying own : Option Item} {old s : State} (h : s.ListOk flying []) (sender : StationId)
    (n : Notice) : (State.settleQueue old s sender own n).ListOk flying [] := by
  refine State.ListOk.withdrawOvertaken ?_ sender
  refine State.ListOk.congr_blocks (h.settleItems (old := old) (own := own)) (by simp) ?_ (by simp) (by simp)
  unfold State.moveCursor
  split <;> simp

/-! ## The duties of the reference (R138, R139, R150, R152) -/

/-- A station that is its own reference is a MEMBER. -/
theorem State.member_of_isOwnReference {s : State} (h : s.isOwnReference = true) : s.ru.state = .member := by
  simp only [State.isOwnReference, beq_iff_eq, State.reference] at h
  split at h
  · have := (find?_finRange_eq_some.1 h).1
    simpa [State.qualifies, State.inState_iff] using this
  · exact nomatch h

theorem State.ListOk.requestAllLost {flying : Option Item} {s : State} (h : s.ListOk flying [])
    (listed : s.ru.state.holdsNothing = false) : s.requestAllLost.ListOk flying [] := by
  refine (List.foldlRecOn (motive := fun u : State => u.ListOk flying [] ∧ u.ru = s.ru ∧ u.cs = s.cs) (List.finRange 16) _
    ⟨h, rfl, rfl⟩ ?_).1
  rintro u ⟨hu, ru, cs⟩ t -
  split
  · rename_i due
    have peer : t ≠ u.own := by
      simp only [Bool.and_eq_true, bne_iff_ne, ne_eq] at due
      exact due.1
    exact ⟨hu.requestLost (ru ▸ listed) peer, by simpa using ru, by simpa using cs⟩
  · exact ⟨hu, ru, cs⟩

theorem State.ListOk.startSweep {flying : Option Item} {s : State} (h : s.ListOk flying [])
    (listed : s.ru.state.holdsNothing = false) : s.startSweep.ListOk flying [] :=
  State.ListOk.requestSnapshot (h.congr rfl rfl rfl rfl (fun _ => rfl) fun _ _ => rfl) listed

theorem State.isOwnReference_congr {s t : State} (cs : t.cs = s.cs) (state : t.ru.state = s.ru.state)
    (roster : t.ru.roster = s.ru.roster) : t.isOwnReference = s.isOwnReference := by
  have : t.qualifies = s.qualifies := by
    funext u
    have own : t.own = s.own := congrArg ConfigStore.stationNumber cs
    simp only [State.qualifies, own, State.inState, State.record, state, roster]
  have own : t.own = s.own := congrArg ConfigStore.stationNumber cs
  simp only [State.isOwnReference, State.reference, own, this, state]

theorem State.ListOk.takeDuties {flying : Option Item} {old s : State} (h : s.ListOk flying []) :
    (State.takeDuties old s).ListOk flying [] := by
  unfold State.takeDuties
  extract_lets s1 s2
  have h1 : s1.ListOk flying [] ∧ s1.ru = s.ru := by
    simp only [s1]
    split
    · exact ⟨h.withdraw fun _ => rfl, by simp⟩
    · exact ⟨h, rfl⟩
  have h2 : s2.ListOk flying [] ∧ s2.ru = s.ru := by
    simp only [s2]
    split
    · rename_i due
      simp only [Bool.and_eq_true] at due
      exact ⟨h1.1.requestAllLost (State.member_listed (State.member_of_isOwnReference due.2)), by simpa using h1.2⟩
    · exact h1
  split
  · rename_i due
    simp only [State.sweeps, Bool.and_eq_true, State.inState_iff] at due
    exact h2.1.startSweep (State.member_listed due.2.1.1)
  · exact h2.1

/-! ## Removals with their reports, and changes of own state (R120, R121) -/

/-- The reports on removed items clear the queued flags of the points among them, and nothing else of a point. -/
theorem State.point_foldl_reportRemoved (p : PointId) (removed : List Item) : ∀ s : State,
    (removed.foldl State.reportRemoved s).point p =
      if removed.any fun x => x.kind.isPointOf p then { s.point p with queued := false } else s.point p := by
  induction removed with
  | nil => exact fun s => rfl
  | cons x rest ih =>
    intro s
    have one : (s.reportRemoved x).point p =
        if x.kind.isPointOf p then { s.point p with queued := false } else s.point p := by
      unfold State.reportRemoved
      cases kind : x.kind with
      | point q =>
        rw [State.point_onPoint]
        simp [ItemKind.isPointOf]
      | claim i n => by_cases flies : s.flies x <;> simp [flies, State.point, ItemKind.isPointOf]
      | purge o => by_cases flies : s.flies x <;> simp [flies, State.point, ItemKind.isPointOf]
      | _ => rfl
    rw [List.foldl_cons, ih, one, List.any_cons]
    by_cases first : x.kind.isPointOf p = true <;> simp [first]

/-- Removing items of kinds other than a point's leaves the points. -/
theorem State.point_removeItems_of_not {s : State} {k : ItemKind → Bool} (others : ∀ p, k (.point p) = false) (p : PointId) :
    (s.removeItems k).point p = s.point p := by
  have : ((s.sq.items.filter fun x => k x.kind).any fun x => x.kind.isPointOf p) = false := by
    rw [List.any_eq_false]
    intro x hx
    have := (List.mem_filter.1 hx).2
    cases kind : x.kind <;> simp_all [ItemKind.isPointOf]
  rw [State.removeItems, State.point_foldl_reportRemoved, this]
  rfl

/-- Removing every point item clears every queued flag. -/
theorem State.point_removeItems_of_all {s : State} {k : ItemKind → Bool}
    (points : ∀ p : PointId, s.countItems (ItemKind.isPointOf p) = if (s.point p).queued then 1 else 0)
    (all : ∀ p, k (.point p) = true) (p : PointId) :
    (s.removeItems k).point p = { s.point p with queued := false } := by
  rw [State.removeItems, State.point_foldl_reportRemoved]
  split
  · rfl
  · rename_i none
    have count : s.countItems (ItemKind.isPointOf p) = 0 := by
      rw [State.countItems, List.countP_eq_zero]
      intro x hx this
      refine none (List.any_eq_true.2 ⟨x, List.mem_filter.2 ⟨hx, ?_⟩, this⟩)
      cases kind : x.kind <;> simp_all [ItemKind.isPointOf]
    have queued : (s.point p).queued = false := by
      have := points p
      rw [count] at this
      by_contra yes
      simp [yes] at this
    change s.point p = { s.point p with queued := false }
    rw [← queued]

/-- With an empty list and no point queued the invariants hold in every own state. -/
theorem State.ListOk.of_empty {flying : Option Item} {stale : List PointId} {s t : State} (h : s.ListOk flying stale)
    (items : t.sq.items = []) (next : t.sq.nextAge = s.sq.nextAge) (queued : ∀ p, (t.point p).queued = false) :
    t.ListOk flying [] := by
  constructor <;> simp [State.countItems, items, queued]
  · intro f hf
    rw [next]
    exact h.flightYoung f hf

/-- A change between own states that hold a list, from one other than LEAVING. -/
theorem State.ListOk.restate {flying : Option Item} {stale : List PointId} {s t : State} (h : s.ListOk flying stale)
    (items : t.sq.items = s.sq.items) (next : t.sq.nextAge = s.sq.nextAge) (cs : t.cs = s.cs)
    (before : s.ru.state ≠ .leaving) (listed : t.ru.state.holdsNothing = false)
    (queued : ∀ p, (t.point p).queued = (s.point p).queued)
    (pending : ∀ p, p ∉ stale → (t.point p).pendingReminders = (s.point p).pendingReminders) : t.ListOk flying stale := by
  have count : ∀ k, t.countItems k = s.countItems k := fun k => by simp only [State.countItems, items]
  refine h.remove (items ▸ List.Sublist.refl _) next cs ?_ ?_ (fun p => by rw [count, queued]; exact h.points p) pending
  · intro hold
    rw [listed] at hold
    exact nomatch hold
  · have := h.leave
    rw [if_neg (by simpa [State.inState_iff] using before)] at this
    rw [count, Nat.le_zero.1 this]
    exact Nat.zero_le _

/-! ## Promotion and the passing of time (R115) -/

/-- A test of kinds that tells no two PRESENCE items apart. -/
def ItemKind.blind (k : ItemKind → Bool) : Prop := ∀ a b : Option Nat, k (.presence a) = k (.presence b)

/-- Changing only promotion timers, and the classes of PRESENCE items, keeps the invariants, in order as the list is. -/
theorem State.ListOk.relist {flying : Option Item} {stale : List PointId} {s t : State} (h : s.ListOk flying stale)
    (order : t.sq.items.Pairwise fun a b => a.before b = true) (ages : (t.sq.items.map Item.age).Nodup)
    (old : ∀ x ∈ t.sq.items, ∃ y ∈ s.sq.items, y.age = x.age ∧
      (x.kind = y.kind ∧ x.cls = y.cls ∨ x.kind.isPresence = true ∧ y.kind.isPresence = true))
    (count : ∀ k, ItemKind.blind k → t.countItems k = s.countItems k) (next : t.sq.nextAge = s.sq.nextAge)
    (state : t.ru.state = s.ru.state) (cs : t.cs = s.cs) (queued : ∀ p, (t.point p).queued = (s.point p).queued)
    (pending : ∀ p, (t.point p).pendingReminders = (s.point p).pendingReminders) : t.ListOk flying stale := by
  have blind_eq : ∀ k : ItemKind, k.isPresence = false → ItemKind.blind (· == k) := by
    intro k other a b
    cases k <;> first | rfl | exact nomatch other
  refine ⟨order, ages, ?_, fun f hf => next ▸ h.flightYoung f hf, ?_, ?_,
    fun p => by rw [count _ fun _ _ => rfl, queued]; exact h.points p,
    fun i => by rw [count _ fun _ _ => rfl]; exact h.claim i, by rw [count _ fun _ _ => rfl]; exact h.claims,
    fun u => by rw [count _ (blind_eq _ rfl), State.own, cs]; exact h.lost u,
    by rw [count _ fun _ _ => rfl]; exact h.presence, by rw [count _ fun _ _ => rfl]; exact h.join,
    by rw [count _ fun _ _ => rfl, State.inState, state]; exact h.leave, by rw [count _ (blind_eq _ rfl)]; exact h.snapshot,
    by rw [count _ fun _ _ => rfl]; exact h.purge, ?_⟩
  · intro x hx
    obtain ⟨y, hy, age, -⟩ := old x hx
    rw [next, ← age]
    exact h.young y hy
  · intro f hf x hx same
    obtain ⟨y, hy, age, ⟨kind, -⟩ | ⟨presence, presence'⟩⟩ := old x hx
    · exact kind ▸ h.flight f hf y hy (age.trans same)
    · rcases h.flight f hf y hy (age.trans same) with kind | ⟨-, flown⟩
      · exact .inr ⟨presence, kind ▸ presence'⟩
      · exact .inr ⟨presence, flown⟩
  · intro hold
    rw [List.eq_nil_iff_forall_not_mem]
    intro x hx
    obtain ⟨y, hy, -⟩ := old x hx
    rw [h.empty (state ▸ hold)] at hy
    exact nomatch hy
  · intro x hx p fresh kind
    obtain ⟨y, hy, -, ⟨kind', cls⟩ | ⟨presence, -⟩⟩ := old x hx
    · rw [State.pointClass_congr cs (pending p), cls]
      exact h.classes y hy p fresh (kind'.symm.trans kind)
    · rw [kind] at presence
      exact nomatch presence

theorem ItemKind.awaitsPromotion_isPresence {k : ItemKind} (h : k.awaitsPromotion = true) : k.isPresence = true := by
  cases k <;> first | rfl | exact nomatch h

theorem State.ListOk.promote {stale : List PointId} {flying : Option Item} {s : State} (h : s.ListOk flying stale) :
    (s.onSq SendQueue.promote).ListOk flying stale := by
  obtain ⟨order, ages⟩ := replaced_ordered (k := ItemKind.awaitsPromotion) (g := Item.promote) (fun _ => rfl) h.order h.ages
  refine h.relist order ages (fun x hx => ?_) (fun k blind => countP_replaced (fun x awaits => ?_) _) rfl rfl rfl
    (fun _ => rfl) fun _ => rfl
  · rcases mem_replaced.1 hx with ⟨y, hy, awaits, rfl⟩ | ⟨hx, -⟩
    · exact ⟨y, hy, rfl, .inr ⟨rfl, ItemKind.awaitsPromotion_isPresence awaits⟩⟩
    · exact ⟨x, hx, rfl, .inl ⟨rfl, rfl⟩⟩
  · have := ItemKind.awaitsPromotion_isPresence awaits
    cases kind : x.kind <;> simp_all [ItemKind.isPresence, Item.promote]
    exact blind _ _

theorem ItemKind.countDown_eq (k : ItemKind) : k.countDown = k ∨ ∃ a b, k = .presence a ∧ k.countDown = .presence b := by
  cases k <;> first | exact .inl rfl | exact .inr ⟨_, _, rfl, rfl⟩

theorem State.tick_sq (s : State) : s.tick.sq =
    { s.sq with items := s.sq.items.map fun x => { x with kind := x.kind.countDown } } := by
  simp [State.tick]

theorem State.tick_point (s : State) (p : PointId) :
    s.tick.point p = { s.point p with reminder := (s.point p).reminder.countDown } := by
  simp [State.tick, State.point]

theorem State.tick_state (s : State) : s.tick.ru.state = s.ru.state := by
  simp [State.tick]

theorem State.ListOk.tick {stale : List PointId} {flying : Option Item} {s : State} (h : s.ListOk flying stale) :
    s.tick.ListOk flying stale := by
  have items : s.tick.sq.items = s.sq.items.map fun x => { x with kind := x.kind.countDown } := by rw [State.tick_sq]
  refine h.relist ?_ ?_ (fun x hx => ?_) (fun k blind => ?_) (by rw [State.tick_sq]) s.tick_state s.tick_frame.1
    (fun p => by rw [State.tick_point]) fun p => by rw [State.tick_point]
  · rw [items, List.pairwise_map]
    exact h.order
  · rw [items, List.map_map]
    exact h.ages
  · rw [items] at hx
    obtain ⟨y, hy, rfl⟩ := List.mem_map.1 hx
    refine ⟨y, hy, rfl, ?_⟩
    rcases y.kind.countDown_eq with same | ⟨a, b, kind, down⟩
    · exact .inl ⟨same, rfl⟩
    · exact .inr ⟨by rw [down]; rfl, by rw [kind]; rfl⟩
  · rw [State.countItems, items, List.countP_map]
    refine List.countP_congr fun x _ => ?_
    rcases x.kind.countDown_eq with same | ⟨a, b, kind, down⟩
    · simp [same]
    · simp only [Function.comp_apply, kind]
      rw [← kind, down, kind, blind b a]

end Sys2Proof.Machine
end

section
/-! PROOF. The invariants of a state between the parts of an event: `State.Settled` is `State.Sound` without the Output Unit,
which the close of the event brings into agreement, and without the mark of a deferred expiry. -/

namespace Sys2Proof.Machine

/-! ## The invariants that hold between the parts of an event -/

/-- `State.StationOk` without its clause on a deferred expiry, which waits for the end of the own attempt (R106, R148). -/
abbrev State.TimersOk (s : State) : Prop :=
  s.ru.presenceTimer.isSome = s.ru.state.announces ∧
  s.ru.windowTimer.isSome = s.inState .listening ∧
  s.ru.muteTimer.isSome = s.inState .muted ∧
  s.ru.entryState.isSome = s.inState .muted ∧
  s.ru.refusal.isSome = s.inState .refused ∧
  (s.ru.attemptTimer.isSome || s.ru.deferredExpiry) = s.ru.state.attempts ∧
  (s.sq.returnPending = true → s.ru.state = .member)

/-- Every invariant but those of the Output Unit and of a deferred expiry; `flying` is the item of the attempt that is under
way or has just ended. -/
structure State.Settled (flying : Option Item) (s : State) : Prop where
  port : s.PortOk
  roster : s.RosterOk
  timers : s.TimersOk
  config : s.ConfigOk
  line : s.LineOk
  count : s.CountOk
  list : s.ListOk flying []
  points : s.PointsOk
  entries : s.EntriesOk

/-- An expiry is deferred only while an own attempt is under way (R106, R148). -/
abbrev State.DeferralOk (s : State) : Prop := s.ru.deferredExpiry = true → s.lc.inFlight.isSome = true

theorem State.sound_iff (s : State) :
    s.Sound ↔ s.OutputsOk ∧ s.DeferralOk ∧ s.Settled (s.lc.inFlight.map InFlight.item) := by
  constructor
  · intro h
    obtain ⟨t1, t2, t3, t4, t5, t6, deferral, t7⟩ := h.station
    exact ⟨h.outputs, deferral, h.port, h.roster, ⟨t1, t2, t3, t4, t5, t6, t7⟩, h.config, h.line, h.count,
      (State.listOk_iff s).2 ⟨h.queue, h.bounds, h.flight, h.classes⟩, h.points, h.entries⟩
  · rintro ⟨outputs, deferral, h⟩
    obtain ⟨t1, t2, t3, t4, t5, t6, t7⟩ := h.timers
    obtain ⟨queue, bounds, flight, classes⟩ := (State.listOk_iff s).1 h.list
    exact ⟨h.port, outputs, h.roster, ⟨t1, t2, t3, t4, t5, t6, deferral, t7⟩, h.config, h.line, queue, bounds, flight,
      h.points, classes, h.count, h.entries⟩

theorem State.Settled.landed {flying : Option Item} {s : State} (h : s.Settled flying) : s.Settled none :=
  { h with list := h.list.landed }

/-! ## What each invariant rests on -/

theorem State.PortOk.congr {s t : State} (h : s.PortOk) (lp : t.lp = s.lp) (cs : t.cs = s.cs) : t.PortOk :=
  (State.Pushed.nothing cs lp).portOk h

theorem State.record_congr {s t : State} (h : t.ru.roster = s.ru.roster) (u : StationId) : t.record u = s.record u := by
  simp only [State.record, h]

theorem State.RosterOk.congr {s t : State} (h : s.RosterOk) (roster : t.ru.roster = s.ru.roster)
    (cs : t.cs = s.cs) : t.RosterOk := by
  intro u
  rw [State.record_congr roster, State.own, cs]
  exact h u

theorem State.EntriesOk.congr {s t : State} (h : s.EntriesOk) (table : t.et.table = s.et.table) : t.EntriesOk := by
  intro i
  rw [State.entry_congr table]
  exact h i

theorem State.PointsOk.congr {s t : State} (h : s.PointsOk) (pu : t.pu = s.pu) (state : t.ru.state = s.ru.state) :
    t.PointsOk := by
  intro p
  rw [State.point_congr pu, state]
  exact h p

/-- The parts of RU that its timers, the configuration, the line and the count rest on: all but roster and cursor. -/
def RosterUnit.sameControl (r r' : RosterUnit) : Prop := r' = { r with roster := r'.roster, cursor := r'.cursor }

theorem RosterUnit.sameControl.refl (r : RosterUnit) : r.sameControl r := rfl

theorem RosterUnit.sameControl.of_eq {r r' : RosterUnit} (h : r' = r) : r.sameControl r' := h ▸ .refl r

theorem RosterUnit.sameControl.trans {r r' r'' : RosterUnit} (h : r.sameControl r') (h' : r'.sameControl r'') :
    r.sameControl r'' := by
  rw [RosterUnit.sameControl] at *
  rw [h', h]

theorem RosterUnit.sameControl.state {r r' : RosterUnit} (h : r.sameControl r') : r'.state = r.state := by
  rw [RosterUnit.sameControl] at h
  rw [h]

/-- The invariants go from `s` to `t` where the control of RU and LC stands, for the blocks that have changed. -/
theorem State.Settled.change {flying : Option Item} {s t : State} (h : s.Settled flying) (cs : t.cs = s.cs)
    (ru : s.ru.sameControl t.ru) (lc : t.lc = { s.lc with counters := t.lc.counters })
    (valid : s.et.countValid = true → t.et.countValid = true)
    (mark : t.sq.returnPending = true → s.sq.returnPending = true) (port : t.PortOk) (roster : t.RosterOk)
    (list : t.ListOk flying []) (points : t.PointsOk) (entries : t.EntriesOk) : t.Settled flying := by
  obtain ⟨t1, t2, t3, t4, t5, t6, t7⟩ := h.timers
  obtain ⟨c1, c2, c3, c4⟩ := h.config
  rw [RosterUnit.sameControl] at ru
  refine ⟨port, roster, ?_, ?_, ?_, ?_, list, points, entries⟩
  · simp only [State.TimersOk, State.inState]
    rw [ru]
    exact ⟨t1, t2, t3, t4, t5, t6, fun pending => t7 (mark pending)⟩
  · simp only [State.ConfigOk]
    rw [ru, lc, cs]
    exact ⟨c1, c2, c3, c4⟩
  · simp only [State.LineOk]
    rw [ru, lc]
    exact h.line
  · simp only [State.CountOk]
    rw [ru]
    exact fun due => valid (h.count due)

/-- Only the Local Port, by pushes, and what no invariant reads have changed. -/
theorem State.Settled.pushed {flying : Option Item} {s t : State} (h : s.Settled flying) {rs : List Record}
    (pushed : s.Pushed t rs) (et : t.et = s.et) (ru : t.ru = s.ru) (pu : t.pu = s.pu) (sq : t.sq = s.sq)
    (lc : t.lc = s.lc) : t.Settled flying :=
  h.change pushed.cs (.of_eq ru) (by rw [lc]) (by rw [et]; exact id) (by rw [sq]; exact id) (pushed.portOk h.port)
    (h.roster.congr (by rw [ru]) pushed.cs) (h.list.congr_blocks sq (by rw [ru]) pushed.cs pu) (h.points.congr pu (by rw [ru]))
    (h.entries.congr (by rw [et]))

/-! ## The close of an event -/

theorem State.pushed_close (old s : State) :
    s.Pushed (State.close old s) (if s.ru.state ≠ old.ru.state ∨ s.tripReasons ≠ old.ou.trip then
      [.station s.ru.state s.ru.refusal s.tripReasons] else []) := by
  refine ⟨by simp, ?_⟩
  rw [State.close_lp]
  split <;> rfl

/-- An event that ends in a settled state with no expiry left over ends in a sound one. -/
theorem State.Settled.sound_close {s old : State} (h : s.Settled (s.lc.inFlight.map InFlight.item)) (deferral : s.DeferralOk) :
    (State.close old s).Sound := by
  rw [State.sound_iff]
  refine ⟨State.close_outputsOk old s, ?_, ?_⟩
  · simpa [State.DeferralOk] using deferral
  · have := h.pushed (State.pushed_close old s) (by simp) (by simp) (by simp) (by simp) (by simp)
    simpa using this

/-! ## The Output Unit between events -/

/-- Outputs agree with a state from which nothing that they rest on has changed. -/
theorem State.OutputsOk.congr {s t : State} (h : s.OutputsOk) (cs : t.cs = s.cs) (et : t.et = s.et)
    (qualified : ∀ p, (t.point p).qualified = (s.point p).qualified) (state : t.ru.state = s.ru.state)
    (entry : t.ru.entryState = s.ru.entryState) (trip : t.ou.trip = s.ou.trip) (pins : t.ou.pins = s.ou.pins)
    (mark : t.ou.silenceMark = s.ou.silenceMark) (fast : t.ou.fast.on = s.ou.fast.on) (slow : t.ou.slow.on = s.ou.slow.on)
    (pulses : ∀ o : OutputId, t.ou.pulses[o].isSome = s.ou.pulses[o].isSome) : t.OutputsOk := by
  have category : t.category = s.category := by funext c; simp only [State.category, cs]
  have setup : t.pointSetup = s.pointSetup := by funext p; simp only [State.pointSetup, cs]
  have reasons : t.tripReasons = s.tripReasons := by
    simp only [State.tripReasons, State.tripTable, State.tripOwnPoint, State.tripUncertain, State.entry, State.isTripEntry,
      State.isTripCategory, State.pointUsed, State.pointSource, State.pointCategory, category, setup, qualified, cs, et, state,
      entry]
  have modes : t.modesCount = s.modesCount := State.modesCount_congr state entry
  have matched : t.someMatched = s.someMatched := by
    funext r q
    simp only [State.someMatched, State.entry, et]
  have driven : t.outputPins = s.outputPins := by
    refine congrArg Vector.ofFn (funext fun o => ?_)
    simp only [State.outputPin, State.rule, State.outputValue, State.modeValue, State.annunciateValue,
      modes, matched, cs, trip, mark, fast, slow, pulses]
  obtain ⟨h1, h2, h3⟩ := h
  refine ⟨by rw [trip, h1, reasons], by rw [pins, h2, driven], fun off => ?_⟩
  have stopped := h3 (modes ▸ off)
  refine Vector.ext fun i hi => ?_
  have := pulses ⟨i, hi⟩
  simp only [stopped, Fin.getElem_fin, Vector.getElem_replicate, Option.isSome_none, Option.isSome_eq_false_iff,
    Option.isNone_iff_eq_none] at this
  rw [Vector.getElem_replicate, this]

theorem State.OutputsOk.congr_blocks {s t : State} (h : s.OutputsOk) (cs : t.cs = s.cs) (et : t.et = s.et) (pu : t.pu = s.pu)
    (state : t.ru.state = s.ru.state) (entry : t.ru.entryState = s.ru.entryState) (ou : t.ou = s.ou) : t.OutputsOk :=
  h.congr cs et (fun p => by rw [State.point_congr pu]) state entry (by rw [ou]) (by rw [ou]) (by rw [ou]) (by rw [ou])
    (by rw [ou]) fun o => by rw [ou]

/-- An event without a close that changes nothing the outputs rest on. -/
theorem State.Sound.of_settled {s t : State} (h : s.Sound) (settled : t.Settled (t.lc.inFlight.map InFlight.item))
    (deferral : t.DeferralOk) (cs : t.cs = s.cs) (et : t.et = s.et) (pu : t.pu = s.pu) (state : t.ru.state = s.ru.state)
    (entry : t.ru.entryState = s.ru.entryState) (ou : t.ou = s.ou) : t.Sound :=
  (State.sound_iff t).2 ⟨h.outputs.congr_blocks cs et pu state entry ou, deferral, settled⟩

end Sys2Proof.Machine
end

section
/-! PROOF. What an accepted frame does to roster, table and port, kind by kind (R9 to R20, R49 to R52, R103, R130 to R132, R140,
R153). -/

namespace Sys2Proof.Machine

/-! ## The sender's record and the roster (R130, R131) -/

theorem State.record_onRecord (s : State) (t u : StationId) (g : RosterRecord → RosterRecord) :
    (s.onRecord t g).record u = if u = t then g (s.record u) else s.record u := by
  split
  · rename_i same
    exact same ▸ State.record_onRecord_self s u g
  · exact State.record_onRecord_other s t u g ‹_›

/-- The record of a sender that has been heard (R130). -/
theorem State.record_hearSender (s : State) (t u : StationId) :
    (s.hearSender t).record u = if u = t then
      { s.record u with
        lastHeard := if s.et.countValid then some s.et.lineCount else none
        suspect := false
        silence := if (s.record u).state.live && t != s.own then some (3 * s.presenceMs) else (s.record u).silence }
    else s.record u := State.record_onRecord s t u _

/-- The record of a station that has taken a state (R131). -/
theorem State.record_setRoster (s : State) (t u : StationId) (st : RosterState) (cause : Option LeaveCause) :
    (s.setRoster t st cause).record u =
      if u = t then (s.record u).become st (t == s.own) s.presenceMs else s.record u := by
  unfold State.setRoster
  by_cases same : (s.record t).state = st
  · rw [if_pos same]
    split
    · rename_i at_t
      rw [RosterRecord.become, if_pos (at_t ▸ same)]
    · rfl
  · have changed := State.record_onRecord s t u fun r => r.become st (t == s.own) s.presenceMs
    rw [if_neg same]
    dsimp only
    split
    · exact (State.record_congr (by simp) u).trans changed
    · exact changed

theorem State.pushed_setRoster (s : State) (t : StationId) (st : RosterState) (cause : Option LeaveCause) :
    s.Pushed (s.setRoster t st cause) (s.rosterRecords t st cause) := by
  unfold State.setRoster State.rosterRecords
  rw [State.wantsRoster_eq]
  by_cases same : (s.record t).state = st
  · simpa [same] using State.Pushed.refl s
  · have changed : s.Pushed (s.onRecord t fun r => r.become st (t == s.own) s.presenceMs) [] := .nothing rfl rfl
    have wanted : (s.onRecord t fun r => r.become st (t == s.own) s.presenceMs).pushesRoster = s.pushesRoster := rfl
    simp only [same, if_false, wanted, ne_eq, not_false_eq_true, true_and]
    split
    · exact changed.trans (State.pushed_push _ (.roster t st cause))
    · exact changed

theorem State.setRoster_sameControl (s : State) (t : StationId) (st : RosterState) (cause : Option LeaveCause) :
    s.ru.sameControl (s.setRoster t st cause).ru := by
  unfold State.setRoster
  dsimp only
  (repeat' split) <;> simp [RosterUnit.sameControl]

theorem State.hearSender_sameControl (s : State) (t : StationId) : s.ru.sameControl (s.hearSender t).ru := rfl

/-- Invariant of one roster record (R129, R131). -/
def RosterRecord.Ok (own : Bool) (r : RosterRecord) : Prop :=
  (own = true ∨ r.state.live = false) → r.suspect = false ∧ r.silence = none

theorem State.rosterOk_iff (s : State) : s.RosterOk ↔ ∀ t, (s.record t).Ok (t == s.own) := by
  simp only [State.RosterOk, RosterRecord.Ok, beq_iff_eq]

/-- A record keeps its invariant when it takes a state (R131). -/
theorem RosterRecord.Ok.become {own : Bool} {r : RosterRecord} (h : r.Ok own) (st : RosterState) (period : Nat) :
    (r.become st own period).Ok own := by
  unfold RosterRecord.become
  split
  · exact h
  · split
    · rename_i live
      rintro (rfl | dead)
      · exact ⟨(h (.inl rfl)).1, rfl⟩
      · rw [live] at dead
        exact nomatch dead
    · exact fun _ => ⟨rfl, rfl⟩

theorem State.RosterOk.onRecord {s : State} (h : s.RosterOk) (t : StationId) (g : RosterRecord → RosterRecord)
    (keeps : (s.record t).Ok (t == s.own) → (g (s.record t)).Ok (t == s.own)) : (s.onRecord t g).RosterOk := by
  rw [State.rosterOk_iff] at h ⊢
  intro u
  rw [State.record_onRecord]
  split
  · rename_i same
    subst same
    exact keeps (h u)
  · exact h u

theorem State.RosterOk.hearSender {s : State} (h : s.RosterOk) (t : StationId) : (s.hearSender t).RosterOk := by
  refine h.onRecord t _ fun ok due => ⟨rfl, ?_⟩
  have silent : ((s.record t).state.live && t != s.own) = false := by
    rcases due with own | dead
    · simp [beq_iff_eq.1 own]
    · have : (s.record t).state.live = false := dead
      simp [this]
  dsimp only
  rw [if_neg (by simp [silent])]
  exact (ok due).2

theorem State.RosterOk.setRoster {s : State} (h : s.RosterOk) (t : StationId) (st : RosterState) (cause : Option LeaveCause) :
    (s.setRoster t st cause).RosterOk := by
  rw [State.rosterOk_iff] at h ⊢
  intro u
  have own : (s.setRoster t st cause).own = s.own :=
    congrArg ConfigStore.stationNumber (s.setRoster_frame t st cause).1
  rw [State.record_setRoster, own]
  split
  · rename_i same
    subst same
    exact (h u).become st _
  · exact h u

/-! ## POINT (R9 to R15) -/

theorem State.entry_setEntry (s : State) (i j : EntryIndex) (e : Entry) :
    (s.setEntry i e).entry j = if j = i then e else s.entry j := by
  split
  · rename_i same
    exact same ▸ State.entry_setEntry_self s j e
  · exact State.entry_setEntry_other s i j e ‹_›

/-- The entry of a POINT notice is rewritten, every other entry stands. -/
theorem State.applyPoint_et (s : State) (sender : StationId) (n : PointStatement) :
    (s.applyPoint sender n).et = (s.setEntry (entryIndex sender n.point)
      (s.pointEntry (s.entry (entryIndex sender n.point)) n)).et := by
  unfold State.applyPoint
  dsimp only
  (repeat' split) <;> simp

theorem State.entry_applyPoint (s : State) (sender : StationId) (n : PointStatement) (j : EntryIndex) :
    (s.applyPoint sender n).entry j = if j = entryIndex sender n.point then s.pointEntry (s.entry j) n else s.entry j := by
  rw [State.entry_congr (congrArg EventTable.table (s.applyPoint_et sender n)), State.entry_setEntry]
  split
  · rename_i same
    rw [same]
  · rfl

/-- A stale notice is counted (R13). -/
theorem State.applyPoint_lc (s : State) (sender : StationId) (n : PointStatement) :
    (s.applyPoint sender n).lc =
      if compareOccurrence n.occurrence (s.entry (entryIndex sender n.point)).occurrence = .older then
        { s.lc with counters := { s.lc.counters with staleNotices := bump s.lc.counters.staleNotices } }
      else s.lc := by
  unfold State.applyPoint
  dsimp only
  (repeat' split) <;> simp_all

/-- The one ENTRY record of a POINT notice (R15). -/
theorem State.pushed_applyPoint (s : State) (sender : StationId) (n : PointStatement) :
    let i := entryIndex sender n.point
    let e := s.entry i
    let e' := s.pointEntry e n
    s.Pushed (s.applyPoint sender n)
      (if !e.sameButCategory e' && s.wantsEntry e' then [Entry.record i e' (pointCause n e e')] else []) := by
  intro i e e'
  unfold State.applyPoint
  extract_lets order s1 s2 s3
  have h2 : s.Pushed s2 [] := by
    simp only [s2, s1]
    split <;> exact .nothing (by simp) (by simp)
  have entry : s2.entry i = e' := by
    simp only [s2, s1]
    split <;> exact State.entry_setEntry_self s i e'
  have wants : s2.wantsEntry e' = s.wantsEntry e' := by
    refine State.wantsEntry_congr h2.cs ?_ rfl
    simp only [s2, s1]
    split <;> simp
  have h3 : s.Pushed s3 (if !e.sameButCategory e' && s.wantsEntry e' then [Entry.record i e' (pointCause n e e')] else []) := by
    have := h2.trans (State.pushed_pushEntry s2 i (pointCause n e e'))
    rw [entry, wants, State.entryRecord, entry] at this
    simp only [s3]
    by_cases same : e.sameButCategory e' = true
    · simpa [same] using h2
    · simpa [same, Entry.record] using this
  split
  · have := h3.trans (.nothing (s := s3) (t := s3.startPulses i) (by simp) (by simp))
    rwa [List.append_nil] at this
  · exact h3

/-! ## CLAIM (R49 to R52) -/

/-- The entry a winning claim leaves (R50). -/
def Entry.wonBy (e : Entry) (sender : StationId) : Entry :=
  { e with phase := phaseAfterWin e.phase, acknowledger := some sender }

theorem State.entry_applyClaim (s : State) (sender : StationId) (i : EntryIndex) (n : Byte) (j : EntryIndex) :
    (s.applyClaim sender i n).entry j =
      if j = i ∧ s.claimDecision i (s.entry i) n = .wins then
        (s.entry j).wonBy sender
      else s.entry j := by
  unfold State.applyClaim
  cases decision : s.claimDecision i (s.entry i) n with
  | wins =>
    dsimp only
    rw [State.entry_congr (congrArg EventTable.table (State.pushEntry_frame _ i .acked).2.1), State.entry_setEntry]
    by_cases same : j = i
    · simp [same, Entry.wonBy]
    · simp [same]
  | void r => simp [State.entry]

theorem State.applyClaim_count (s : State) (sender : StationId) (i : EntryIndex) (n : Byte) :
    (s.applyClaim sender i n).et.lineCount = s.et.lineCount ∧ (s.applyClaim sender i n).et.countValid = s.et.countValid := by
  unfold State.applyClaim
  split <;> simp

/-- A void claim is counted (R49, R110). -/
theorem State.applyClaim_lc (s : State) (sender : StationId) (i : EntryIndex) (n : Byte) :
    (s.applyClaim sender i n).lc =
      if s.claimDecision i (s.entry i) n = .wins then s.lc
      else { s.lc with counters := { s.lc.counters with voidClaims := bump s.lc.counters.voidClaims } } := by
  unfold State.applyClaim
  cases s.claimDecision i (s.entry i) n <;> simp

theorem State.pushed_applyClaim (s : State) (sender : StationId) (i : EntryIndex) (n : Byte) :
    s.Pushed (s.applyClaim sender i n)
      (if s.claimDecision i (s.entry i) n = .wins ∧ s.wantsEntry (s.entry i) = true then
        [Entry.record i ((s.entry i).wonBy sender) .acked] else []) := by
  unfold State.applyClaim
  cases decision : s.claimDecision i (s.entry i) n with
  | wins =>
    have written : s.Pushed (s.setEntry i ((s.entry i).wonBy sender)) [] := .nothing rfl rfl
    have wanted : (s.setEntry i ((s.entry i).wonBy sender)).wantsEntry ((s.entry i).wonBy sender) =
        s.wantsEntry (s.entry i) := State.wantsEntry_congr rfl rfl rfl
    have := written.trans (State.pushed_pushEntry _ i .acked)
    rw [State.entryRecord, State.entry_setEntry_self, wanted] at this
    simpa [Entry.wonBy, Entry.record] using this
  | void r => simpa using State.Pushed.nothing (s := s) (t := s.onCounters _) rfl rfl

/-- A winning claim finds a standing occurrence of the claimed number that nobody has acknowledged (R49). -/
theorem State.claimDecision_wins_iff (s : State) (i : EntryIndex) (e : Entry) (n : Byte) :
    s.claimDecision i e n = .wins ↔
      e.occurrence = n ∧ s.entryAckNone e = false ∧ e.acknowledger = none ∧ (e.phase = .raised ∨ e.phase = .lapsed) := by
  unfold State.claimDecision
  by_cases occurrence : e.occurrence = n
  · by_cases none : s.entryAckNone e = true
    · simp [occurrence, none]
    · by_cases acked : e.acknowledger.isSome = true
      · have : e.acknowledger ≠ Option.none := fun h => by simp [h] at acked
        simp [occurrence, none, acked, this]
      · cases phase : e.phase <;> simp_all
  · simp [occurrence]

/-! ## LOST, PURGE, LEAVE, JOIN, PRESENCE (R16, R18, R20, R131, R132, R135, R140) -/

/-- The ENTRY records of an origin's entries that an orphaning marks (R16). -/
def State.orphanRecords (s : State) (o : StationId) : List Record :=
  (List.finRange 16).filterMap fun p =>
    s.rewriteRecord Entry.sparedByOrphaning Entry.markOrphaned .orphaned (entryIndex o p)

/-- The ENTRY records of an origin's entries that a purge clears (R20). -/
def State.purgeRecords (s : State) (o : StationId) : List Record :=
  (List.finRange 16).filterMap fun p => s.rewriteRecord Entry.sparedByPurge purgedEntry .purged (entryIndex o p)

theorem State.rewriteRecord_congr {s t : State} {skip : Entry → Bool} {f : Entry → Entry} {cause : EntryCause}
    {i : EntryIndex} (cs : t.cs = s.cs) (state : t.ru.state = s.ru.state) (table : t.et.table = s.et.table) :
    t.rewriteRecord skip f cause i = s.rewriteRecord skip f cause i := by
  simp only [State.rewriteRecord, State.entry_congr table,
    State.wantsEntry_congr (s := s) (t := t) (e := f (s.entry i)) cs state rfl]

theorem State.orphanRecords_congr {s t : State} (o : StationId) (cs : t.cs = s.cs) (state : t.ru.state = s.ru.state)
    (table : t.et.table = s.et.table) : t.orphanRecords o = s.orphanRecords o :=
  List.filterMap_congr fun _ _ => State.rewriteRecord_congr cs state table

/-- A station departs: its record takes a state, its entries are orphaned. -/
theorem State.pushed_depart (s : State) (t : StationId) (st : RosterState) (cause : Option LeaveCause) :
    s.Pushed ((s.setRoster t st cause).orphanOrigin t) (s.rosterRecords t st cause ++ s.orphanRecords t) := by
  have := (s.pushed_setRoster t st cause).trans (State.pushed_orphanOrigin _ t)
  rwa [show ((List.finRange 16).filterMap fun p => (s.setRoster t st cause).rewriteRecord Entry.sparedByOrphaning
    Entry.markOrphaned .orphaned (entryIndex t p)) = s.orphanRecords t from
      State.orphanRecords_congr t (by simp) (s.setRoster_sameControl t st cause).state (by simp)] at this

theorem State.pushed_applyLost (s : State) (t : StationId) (count : Option Word32) :
    s.Pushed (s.applyLost t count)
      (if s.lostValid t count then s.rosterRecords t .lost none ++ s.orphanRecords t else []) :=
  State.pushed_ite (s.pushed_depart t .lost none) (.nothing rfl rfl)

theorem State.pushed_applyPurge (s : State) (o : StationId) :
    s.Pushed (s.applyPurge o) (if (s.record o).state.gone then s.purgeRecords o else []) :=
  State.pushed_ite (State.pushed_purgeOrigin s o) (.nothing rfl rfl)

theorem State.pushed_applyLeave (s : State) (t : StationId) (cause : LeaveCause) :
    s.Pushed (s.applyLeave t cause) (s.rosterRecords t .left (some cause) ++ s.orphanRecords t) :=
  s.pushed_depart t .left (some cause)

theorem State.pushed_applyJoin (s : State) (t : StationId) (m : JoinMode) (digest : Word16) :
    s.Pushed (s.applyJoin t m digest) (if digest = s.cs.profileDigest then s.rosterRecords t m.rosterState none else []) :=
  State.pushed_ite (s.pushed_setRoster t _ none) (.refl s)

/-- The records of a PRESENCE (R131, R135). -/
def State.presenceRecords (s : State) (t : StationId) (p : PresencePayload) : List Record :=
  match s.presenceApplies p with
  | some st => s.rosterRecords t (carriedRosterState st) none
  | none => []

theorem State.pushed_applyPresence (s : State) (t : StationId) (p : PresencePayload) :
    s.Pushed (s.applyPresence t p) (s.presenceRecords t p) := by
  unfold State.applyPresence State.presenceRecords
  cases s.presenceApplies p with
  | none => exact .refl s
  | some st => exact s.pushed_setRoster t _ none

/-! ## The kind's effect as a whole -/

/-- The records about table and roster that the kind's effect pushes. -/
def State.kindRecords (s : State) (sender : StationId) (n : Notice) : List Record :=
  match n with
  | .presence p => s.presenceRecords sender p
  | .point p =>
    match pointMeaning p with
    | some st =>
      let i := entryIndex sender st.point
      let e := s.entry i
      let e' := s.pointEntry e st
      if !e.sameButCategory e' && s.wantsEntry e' then [Entry.record i e' (pointCause st e e')] else []
    | none => []
  | .claim p =>
    match claimMeaning p with
    | some i =>
      if s.claimDecision i (s.entry i) p.occurrence = .wins ∧ s.wantsEntry (s.entry i) = true then
        [Entry.record i ((s.entry i).wonBy sender) .acked]
      else []
    | none => []
  | .lost p =>
    if s.lostValid (lostTarget p) (lostCount p) then
      s.rosterRecords (lostTarget p) .lost none ++ s.orphanRecords (lostTarget p)
    else []
  | .purge o =>
    match byteTo16 o with
    | some t => if (s.record t).state.gone then s.purgeRecords t else []
    | none => []
  | .leave c =>
    match LeaveCause.ofCode c with
    | some cause => s.rosterRecords sender .left (some cause) ++ s.orphanRecords sender
    | none => []
  | .join p =>
    match JoinMode.ofCode p.mode with
    | some m => if p.profileDigest = s.cs.profileDigest then s.rosterRecords sender m.rosterState none else []
    | none => []
  | .snapshot _ => []

theorem State.pushed_applyKind (s : State) (sender : StationId) (taken : Bool) (n : Notice) :
    s.Pushed (s.applyKind sender taken n) (s.kindRecords sender n) := by
  cases n with
  | presence p => exact s.pushed_applyPresence sender p
  | point p =>
    simp only [State.applyKind, State.kindRecords]
    cases pointMeaning p with
    | none => exact .refl s
    | some st => exact s.pushed_applyPoint sender st
  | claim p =>
    simp only [State.applyKind, State.kindRecords]
    cases claimMeaning p with
    | none => exact .refl s
    | some i => exact s.pushed_applyClaim sender i p.occurrence
  | lost p => exact s.pushed_applyLost _ _
  | purge o =>
    simp only [State.applyKind, State.kindRecords]
    cases byteTo16 o with
    | none => exact .refl s
    | some t => exact s.pushed_applyPurge t
  | leave c =>
    simp only [State.applyKind, State.kindRecords]
    cases LeaveCause.ofCode c with
    | none => exact .refl s
    | some cause => exact s.pushed_applyLeave sender cause
  | join p =>
    simp only [State.applyKind, State.kindRecords]
    cases JoinMode.ofCode p.mode with
    | none => exact .refl s
    | some m => exact s.pushed_applyJoin sender m p.profileDigest
  | snapshot p =>
    simp only [State.applyKind, State.kindRecords]
    split
    · exact .nothing (by simp) (by simp)
    · exact .refl s

end Sys2Proof.Machine
end

section
/-! PROOF. What an accepted frame keeps, up to the changes of station state: every invariant of `State.Settled`. -/

namespace Sys2Proof.Machine

/-! ## The table (R2, R9, R154, R184) -/

theorem State.EntriesOk.of_entry {s t : State} (h : s.EntriesOk)
    (each : ∀ i, t.entry i = s.entry i ∨ t.entry i = Entry.pristine ∨ (t.entry i).category ≠ none) : t.EntriesOk := by
  intro i none
  rcases each i with same | pristine | named
  · rw [same] at none ⊢
    exact h i none
  · exact pristine
  · exact absurd none named

theorem State.pointEntry_category (s : State) (e : Entry) (n : PointStatement) : (s.pointEntry e n).category ≠ none := by
  have : (s.pointCase e n).category = some n.category := by
    unfold State.pointCase
    dsimp only
    split <;> rfl
  simp [State.pointEntry, this]

/-- An entry that a segment carries has a category, when the segment is well formed (R184). -/
theorem segmentEntry_cases {p : SnapshotPayload} (wellFormed : segmentMalformed p = false) (count : Word32) (i : EntryIndex)
    (e : Entry) : segmentEntry p count i e = e ∨ segmentEntry p count i e = Entry.pristine ∨
      (segmentEntry p count i e).category ≠ none := by
  unfold segmentEntry
  split
  · cases found : p.entries.find? fun f => f.index == finByte i with
    | none => exact .inr (.inl rfl)
    | some f =>
      refine .inr (.inr ?_)
      simp only [segmentMalformed, Bool.or_eq_false_iff, List.any_eq_false] at wellFormed
      have good := wellFormed.2 f (List.mem_of_find?_eq_some found)
      simp only [carriedEntryBad, Bool.or_eq_true, not_or, Bool.not_eq_true] at good
      simp only [entryOfForm, good.1.2]
      exact Option.some_ne_none _
  · exact .inl rfl

theorem State.entry_applySegment (s : State) (p : SnapshotPayload) (i : EntryIndex) :
    (s.applySegment p).entry i = segmentEntry p s.et.lineCount i (s.entry i) := by
  simp [State.applySegment, State.entry]

/-- What the kind's effect can be: nothing, a POINT, a CLAIM, a departure, a purge, a change of the sender's roster state, a void
notice counted, or a segment taken. -/
theorem State.applyKind_cases {P : State → Prop} (s : State) (sender : StationId) (taken : Bool) (n : Notice) (nothing : P s)
    (point : ∀ st, P (s.applyPoint sender st)) (claim : ∀ i occ, P (s.applyClaim sender i occ))
    (depart : ∀ t st cause, P ((s.setRoster t st cause).orphanOrigin t)) (purge : ∀ o, P (s.purgeOrigin o))
    (move : ∀ st cause, P (s.setRoster sender st cause)) (void : ∀ g, P (s.onCounters g))
    (segment : ∀ p, n = .snapshot p → taken = true → segmentMalformed p = false → P (s.applySegment p)) :
    P (s.applyKind sender taken n) := by
  unfold State.applyKind
  cases n with
  | presence p =>
    dsimp only
    unfold State.applyPresence
    cases s.presenceApplies p with
    | none => exact nothing
    | some st => exact move _ _
  | point p =>
    dsimp only
    cases pointMeaning p with
    | none => exact nothing
    | some st => exact point st
  | claim p =>
    dsimp only
    cases claimMeaning p with
    | none => exact nothing
    | some i => exact claim i _
  | lost p =>
    dsimp only
    unfold State.applyLost
    split
    · exact depart _ _ _
    · exact void _
  | purge o =>
    dsimp only
    cases byteTo16 o with
    | none => exact nothing
    | some t =>
      dsimp only
      unfold State.applyPurge
      split
      · exact purge t
      · exact void _
  | leave c =>
    dsimp only
    cases LeaveCause.ofCode c with
    | none => exact nothing
    | some cause => exact depart _ _ _
  | join p =>
    dsimp only
    cases JoinMode.ofCode p.mode with
    | none => exact nothing
    | some m =>
      dsimp only
      unfold State.applyJoin
      split
      · exact move _ _
      · exact nothing
  | snapshot p =>
    dsimp only
    split
    · rename_i due
      simp only [Bool.and_eq_true, Bool.not_eq_true'] at due
      exact segment p rfl due.1 due.2
    · exact nothing

theorem State.EntriesOk.applyKind {s : State} (h : s.EntriesOk) (sender : StationId) (taken : Bool) (n : Notice) :
    (s.applyKind sender taken n).EntriesOk := by
  have stands : ∀ i, s.entry i ≠ Entry.pristine → (s.entry i).category ≠ none := fun i stands none => stands (h i none)
  refine s.applyKind_cases sender taken n h (fun st => ?point) (fun j occ => ?claim) (fun t st cause => ?depart)
    (fun o => ?purge) (fun st cause => h.congr (by simp)) (fun g => h.congr rfl) fun p _ _ good => ?segment
  case point =>
    refine h.of_entry fun i => ?_
    rw [State.entry_applyPoint]
    split
    · exact .inr (.inr (State.pointEntry_category _ _ _))
    · exact .inl rfl
  case claim =>
    refine h.of_entry fun i => ?_
    rw [State.entry_applyClaim]
    split
    · rename_i wins
      obtain ⟨rfl, wins⟩ := wins
      obtain ⟨-, -, -, pending⟩ := (State.claimDecision_wins_iff _ _ _ _).1 wins
      refine .inr (.inr (stands i fun pristine => ?_))
      rw [pristine] at pending
      rcases pending with pending | pending <;> exact nomatch pending
    · exact .inl rfl
  case depart =>
    refine h.of_entry fun i => ?_
    rw [State.entry_orphanOrigin, State.entry_congr (s := s) (by simp)]
    split
    · exact .inr (.inr (stands i (And.right ‹_›)))
    · exact .inl rfl
  case purge =>
    refine h.of_entry fun i => ?_
    rw [State.entry_purgeOrigin]
    split
    · exact .inr (.inr (stands i (And.right ‹_›)))
    · exact .inl rfl
  case segment =>
    refine h.of_entry fun i => ?_
    rw [State.entry_applySegment]
    exact segmentEntry_cases good _ _ _

/-! ## Count, roster, control -/

/-- The kind's effect leaves the line count, which the acceptance has advanced before (R23, R103). -/
theorem State.applyKind_count (s : State) (sender : StationId) (taken : Bool) (n : Notice) :
    (s.applyKind sender taken n).et.lineCount = s.et.lineCount ∧
      (s.applyKind sender taken n).et.countValid = s.et.countValid := by
  refine s.applyKind_cases (P := fun t => t.et.lineCount = s.et.lineCount ∧ t.et.countValid = s.et.countValid) sender taken n
    ⟨rfl, rfl⟩ (fun st => ?_) (s.applyClaim_count sender) (fun t st cause => ?_) s.purgeOrigin_count (fun st cause => ?_)
    (fun _ => ⟨rfl, rfl⟩) fun p _ _ _ => ?_
  · rw [State.applyPoint_et]
    exact ⟨rfl, rfl⟩
  · simp
  · simp
  · simp [State.applySegment]

/-- The one change of roster state that the kind's effect brings, if any: whose record, which state, which cause (R131). -/
def State.kindMove (s : State) (sender : StationId) (n : Notice) : Option (StationId × RosterState × Option LeaveCause) :=
  match n with
  | .presence p => (s.presenceApplies p).map fun st => (sender, carriedRosterState st, none)
  | .lost p => if s.lostValid (lostTarget p) (lostCount p) then some (lostTarget p, .lost, none) else none
  | .leave c => (LeaveCause.ofCode c).map fun cause => (sender, .left, some cause)
  | .join p =>
    (JoinMode.ofCode p.mode).bind fun m =>
      if p.profileDigest = s.cs.profileDigest then some (sender, m.rosterState, none) else none
  | .point _ | .claim _ | .purge _ | .snapshot _ => none

/-- The roster after the kind's effect. -/
theorem State.roster_applyKind (s : State) (sender : StationId) (taken : Bool) (n : Notice) :
    (s.applyKind sender taken n).ru.roster =
      match s.kindMove sender n with
      | some (t, st, cause) => (s.setRoster t st cause).ru.roster
      | none => s.ru.roster := by
  unfold State.applyKind State.kindMove
  cases n with
  | presence p =>
    dsimp only
    unfold State.applyPresence
    cases s.presenceApplies p <;> rfl
  | point p =>
    dsimp only
    cases pointMeaning p <;> simp
  | claim p =>
    dsimp only
    cases claimMeaning p <;> simp
  | lost p =>
    dsimp only
    unfold State.applyLost
    split <;> simp
  | purge o =>
    dsimp only
    cases byteTo16 o <;> simp
  | leave c =>
    dsimp only
    cases LeaveCause.ofCode c <;> simp [State.applyLeave]
  | join p =>
    dsimp only
    cases JoinMode.ofCode p.mode with
    | none => rfl
    | some m =>
      simp only [State.applyJoin, Option.bind_some]
      split <;> rfl
  | snapshot p =>
    dsimp only
    split <;> rfl

theorem State.RosterOk.applyKind {s : State} (h : s.RosterOk) (sender : StationId) (taken : Bool) (n : Notice) :
    (s.applyKind sender taken n).RosterOk := by
  have roster := s.roster_applyKind sender taken n
  have cs := (s.applyKind_frame sender taken n).1
  cases move : s.kindMove sender n with
  | none =>
    rw [move] at roster
    exact h.congr roster cs
  | some m =>
    obtain ⟨t, st, cause⟩ := m
    rw [move] at roster
    exact (h.setRoster t st cause).congr roster (cs.trans (s.setRoster_frame t st cause).1.symm)

/-- But for a segment that is taken, the kind's effect leaves the control of RU. -/
theorem State.applyKind_sameControl (s : State) (sender : StationId) (taken : Bool) (n : Notice)
    (other : ∀ p, n = .snapshot p → taken = true → segmentMalformed p = true) :
    s.ru.sameControl (s.applyKind sender taken n).ru := by
  refine s.applyKind_cases (P := fun t => s.ru.sameControl t.ru) sender taken n (.refl _) (fun st => .of_eq (by simp))
    (fun i occ => .of_eq (by simp)) (fun t st cause => ?_) (fun o => .of_eq (by simp)) (s.setRoster_sameControl sender)
    (fun _ => .refl _) fun p snapshot yes good => ?_
  · rw [(State.orphanOrigin_frame _ t).2.1]
    exact s.setRoster_sameControl t st cause
  rw [other p snapshot yes] at good
  exact nomatch good

/-- The kind's effect leaves the Line Controller, its counters apart. -/
theorem State.applyKind_lc (s : State) (sender : StationId) (taken : Bool) (n : Notice) :
    (s.applyKind sender taken n).lc = { s.lc with counters := (s.applyKind sender taken n).lc.counters } := by
  refine s.applyKind_cases (P := fun t => t.lc = { s.lc with counters := t.lc.counters }) sender taken n rfl (fun st => ?_)
    (fun i occ => ?_) (fun t st cause => by simp) (fun o => by simp) (fun st cause => by simp) (fun g => rfl) fun _ _ _ _ => rfl
  · rw [State.applyPoint_lc]
    split <;> rfl
  · rw [State.applyClaim_lc]
    split <;> rfl

end Sys2Proof.Machine
end

section
/-! PROOF. What follows an accepted frame in PU and SQ (R35, R37, R39, R40, R43, R141), and the invariants up to there. -/

namespace Sys2Proof.Machine

/-! ## The points (R28, R32, R39, R40) -/

/-- Two records of a point agree but for reminder count, reminder timer and queued flag. -/
def PointRecord.sameLevels (r r' : PointRecord) : Prop :=
  r' = { r with pendingReminders := r'.pendingReminders, reminder := r'.reminder, queued := r'.queued }

theorem PointRecord.sameLevels.trans {r r' r'' : PointRecord} (h : r.sameLevels r') (h' : r'.sameLevels r'') :
    r.sameLevels r'' := by
  rw [PointRecord.sameLevels] at *
  rw [h', h]

/-- An operation that leaves the points' levels and their qualification, and starts or holds reminder timers only where the
own state lets it (R39, R40). -/
structure State.KeepsLevels (s t : State) : Prop where
  state : t.ru.state = s.ru.state
  levels : ∀ p, (s.point p).sameLevels (t.point p)
  reminder : ∀ p, (s.point p).reminder.okIn s.ru.state = true → (t.point p).reminder.okIn s.ru.state = true

theorem State.KeepsLevels.of_pu {s t : State} (state : t.ru.state = s.ru.state) (pu : t.pu = s.pu) : s.KeepsLevels t :=
  ⟨state, fun p => by rw [State.point_congr pu]; rfl, fun p => by rw [State.point_congr pu]; exact id⟩

theorem State.KeepsLevels.trans {s t u : State} (h : s.KeepsLevels t) (h' : t.KeepsLevels u) : s.KeepsLevels u :=
  ⟨h'.state.trans h.state, fun p => (h.levels p).trans (h'.levels p),
    fun p ok => h.state ▸ h'.reminder p (h.state ▸ h.reminder p ok)⟩

theorem State.KeepsLevels.pointsOk {s t : State} (h : s.KeepsLevels t) (ok : s.PointsOk) : t.PointsOk := by
  intro p
  obtain ⟨qualify, release, reminder⟩ := ok p
  have levels := h.levels p
  rw [PointRecord.sameLevels] at levels
  refine ⟨?_, ?_, by rw [h.state]; exact h.reminder p reminder⟩
  · rw [levels]
    exact qualify
  · rw [levels]
    exact release

theorem State.KeepsLevels.onPoints {s : State} {g : PointId → PointRecord → PointRecord}
    (levels : ∀ p (r : PointRecord), r.sameLevels (g p r))
    (reminder : ∀ p (r : PointRecord), r.reminder.okIn s.ru.state = true → (g p r).reminder.okIn s.ru.state = true) :
    s.KeepsLevels (s.onPoints g) :=
  ⟨rfl, fun p => by rw [State.point_onPoints]; exact levels p _,
    fun p => by rw [State.point_onPoints]; exact reminder p _⟩

theorem State.KeepsLevels.onPoint {s : State} {p : PointId} {g : PointRecord → PointRecord}
    (levels : ∀ r : PointRecord, r.sameLevels (g r))
    (reminder : ∀ r : PointRecord, r.reminder.okIn s.ru.state = true → (g r).reminder.okIn s.ru.state = true) :
    s.KeepsLevels (s.onPoint p g) := by
  refine ⟨rfl, fun q => ?_, fun q ok => ?_⟩ <;> rw [State.point_onPoint] <;> split
  · exact levels _
  · exact rfl
  · exact reminder _ ok
  · exact ok

theorem State.KeepsLevels.foldl {α : Type} {step : State → α → State} (each : ∀ (u : State) a, u.KeepsLevels (step u a))
    (l : List α)
    (s : State) : s.KeepsLevels (l.foldl step s) :=
  List.foldlRecOn (motive := fun u => s.KeepsLevels u) l step (.of_pu rfl rfl) fun u hu a _ => hu.trans (each u a)

theorem State.keepsLevels_queuePoint (s : State) (p : PointId) : s.KeepsLevels (s.queuePoint p) :=
  (State.KeepsLevels.of_pu (by simp) (by simp)).trans
    (State.KeepsLevels.onPoint (s := s.enqueue (.point p) (s.pointClass p)) (fun _ => rfl) fun _ => id)

theorem State.keepsLevels_announceCheck (s : State) (p : PointId) (forced : Bool) :
    s.KeepsLevels (s.announceCheck p forced) := by
  unfold State.announceCheck
  split
  · exact s.keepsLevels_queuePoint p
  · exact .of_pu rfl rfl

theorem State.keepsLevels_reannounceAll (s : State) : s.KeepsLevels s.reannounceAll := by
  refine State.KeepsLevels.foldl (fun u p => ?_) _ s
  split
  · exact u.keepsLevels_queuePoint p
  · exact .of_pu rfl rfl

theorem State.keepsLevels_stopSettledReminders (s : State) : s.KeepsLevels s.stopSettledReminders := by
  refine State.KeepsLevels.onPoints (fun p r => ?_) fun p r ok => ?_ <;> split
  · exact rfl
  · exact rfl
  · exact ok
  · rfl

theorem State.reclassAll_pu (points : List PointId) (s : State) : (points.foldl State.reclassPoint s).pu = s.pu :=
  State.foldl_keeps State.pu _ (fun u p => (u.reclassPoint_frame p).2.2.2.1) points s

theorem State.resetPending_point (s : State) (p : PointId) :
    s.resetPending.point p = { s.point p with pendingReminders := 0 } := by
  rw [State.resetPending, State.point_congr (State.reclassAll_pu _ _), State.point_onPoints]

theorem State.keepsLevels_settlePurged (old s : State) (n : Notice) : s.KeepsLevels (State.settlePurged old s n) := by
  have reset : s.KeepsLevels s.resetPending :=
    ⟨by simp, fun p => by rw [State.resetPending_point]; rfl, fun p => by rw [State.resetPending_point]; exact id⟩
  unfold State.settlePurged
  cases n with
  | purge o =>
    dsimp only
    split
    · exact reset
    · exact .of_pu rfl rfl
  | _ => exact .of_pu rfl rfl

theorem State.keepsLevels_checkChanged (old s : State) : s.KeepsLevels (State.checkChanged old s) := by
  refine State.KeepsLevels.foldl (fun u p => ?_) _ s
  split
  · exact .of_pu rfl rfl
  · exact u.keepsLevels_announceCheck p false

theorem State.keepsLevels_startReminder (s : State) (p : PointId) : s.KeepsLevels (s.startReminder p) := by
  unfold State.startReminder
  split
  · rename_i may
    have member : s.ru.state = .member := by
      simp only [State.mayRemind, Bool.and_eq_true, State.inState_iff] at may
      exact may.2
    exact State.KeepsLevels.onPoint (g := fun r => { r with reminder := .running (s.reminderMs p) })
      (fun _ => rfl) fun _ _ => by simp [ReminderTimer.okIn, member]
  · exact .of_pu rfl rfl

theorem State.keepsLevels_settlePoint (s : State) (x : Item) (p : PointId) : s.KeepsLevels (s.settlePoint x p) := by
  unfold State.settlePoint
  refine State.KeepsLevels.trans ?_ (State.keepsLevels_startReminder _ p)
  cases s.sq.items.find? fun y => y.age == x.age with
  | none => exact .of_pu rfl rfl
  | some y =>
    dsimp only
    split
    · have dropped : s.KeepsLevels (s.dropItem y) := .of_pu rfl rfl
      have left : (s.dropItem y).KeepsLevels ((s.dropItem y).onPoint p fun r => { r with queued := false }) :=
        State.KeepsLevels.onPoint (g := fun r => { r with queued := false }) (fun _ => rfl) fun _ => id
      exact (dropped.trans left).trans (State.keepsLevels_announceCheck _ p false)
    · exact .of_pu (by simp) (by simp)

theorem State.keepsLevels_settleOwnPoint (s : State) (own : Option Item) : s.KeepsLevels (s.settleOwnPoint own) := by
  unfold State.settleOwnPoint
  cases own with
  | none => exact .of_pu rfl rfl
  | some x =>
    dsimp only
    cases x.kind with
    | point p => exact s.keepsLevels_settlePoint x p
    | _ => exact .of_pu rfl rfl

theorem State.keepsLevels_settlePoints (old s : State) (own : Option Item) (n : Notice) :
    s.KeepsLevels (State.settlePoints old s own n) :=
  (((State.keepsLevels_settlePurged old s n).trans (State.keepsLevels_stopSettledReminders _)).trans
    (State.keepsLevels_checkChanged old _)).trans (State.keepsLevels_settleOwnPoint _ own)

theorem State.keepsLevels_recoverFromLost (judged s : State) (n : Notice) :
    s.KeepsLevels (State.recoverFromLost judged s n) := by
  unfold State.recoverFromLost
  cases n with
  | lost p =>
    dsimp only
    split
    · exact (State.KeepsLevels.of_pu (by simp) (by simp)).trans (State.keepsLevels_reannounceAll s.requestPresence)
    · exact .of_pu rfl rfl
  | _ => exact .of_pu rfl rfl

/-! ## The list -/

theorem State.ListOk.settlePurged {flying : Option Item} {old s : State} (h : s.ListOk flying []) (n : Notice) :
    (State.settlePurged old s n).ListOk flying [] := by
  unfold State.settlePurged
  cases n with
  | purge o =>
    dsimp only
    split
    · exact h.resetPending
    · exact h
  | _ => exact h

theorem State.ListOk.stopSettledReminders {flying : Option Item} {s : State} (h : s.ListOk flying []) :
    s.stopSettledReminders.ListOk flying [] := by
  refine h.onPoints (fun p r => ?_) fun p r => ?_ <;> split <;> rfl

theorem State.ListOk.checkChanged {flying : Option Item} {old s : State} (h : s.ListOk flying []) :
    (State.checkChanged old s).ListOk flying [] := by
  refine List.foldlRecOn (motive := fun u : State => u.ListOk flying []) (List.finRange 16) _ h fun u hu p _ => ?_
  split
  · exact hu
  · exact hu.announceCheck p false

theorem State.ListOk.settlePoints {own : Option Item} {old s : State} (h : s.ListOk own []) (n : Notice) :
    (State.settlePoints old s own n).ListOk own [] :=
  ((h.settlePurged n).stopSettledReminders.checkChanged).settleOwnPoint

theorem State.ListOk.recoverFromLost {flying : Option Item} {judged s : State} (h : s.ListOk flying []) (n : Notice) :
    (State.recoverFromLost judged s n).ListOk flying [] := by
  unfold State.recoverFromLost
  cases n with
  | lost p =>
    dsimp only
    split
    · rename_i named
      have listed := State.member_listed (State.inState_iff.1 named.1)
      exact (h.requestPresence listed).reannounceAll (by simpa using listed)
    · exact h
  | _ => exact h

theorem State.announceCheck_mark (s : State) (p : PointId) (forced : Bool) :
    (s.announceCheck p forced).sq.returnPending = s.sq.returnPending := by
  unfold State.announceCheck
  split <;> rfl

/-- PU's part leaves the return presence mark. -/
theorem State.settlePoints_mark (old s : State) (own : Option Item) (n : Notice) :
    (State.settlePoints old s own n).sq.returnPending = s.sq.returnPending := by
  have purged : (State.settlePurged old s n).sq.returnPending = s.sq.returnPending := by
    unfold State.settlePurged
    cases n with
    | purge o =>
      dsimp only
      split
      · exact State.foldl_keeps (fun u => u.sq.returnPending) State.reclassPoint (fun _ _ => rfl) _ _
      · rfl
    | _ => rfl
  have changed : ∀ u : State, (State.checkChanged old u).sq.returnPending = u.sq.returnPending := by
    refine fun u => State.foldl_keeps (fun u => u.sq.returnPending) _ (fun v p => ?_) _ u
    split
    · rfl
    · exact v.announceCheck_mark p false
  have own_point : ∀ u : State, (u.settleOwnPoint own).sq.returnPending = u.sq.returnPending := by
    intro u
    unfold State.settleOwnPoint
    cases own with
    | none => rfl
    | some x =>
      dsimp only
      cases x.kind with
      | point p =>
        dsimp only
        unfold State.settlePoint
        rw [(State.startReminder_frame _ p).2.2.2.1]
        cases u.sq.items.find? fun y => y.age == x.age with
        | none => rfl
        | some y =>
          dsimp only
          split
          · rw [State.announceCheck_mark]
            rfl
          · rfl
      | _ => rfl
  rw [State.settlePoints, own_point, changed, (State.stopSettledReminders_frame _).2.2.2.1, purged]

theorem State.reannounceAll_mark (s : State) : s.reannounceAll.sq.returnPending = s.sq.returnPending := by
  unfold State.reannounceAll
  exact State.foldl_keeps (fun u => u.sq.returnPending) _ (fun u p => by split <;> rfl) _ _

theorem State.recoverFromLost_mark (judged s : State) (n : Notice) :
    (State.recoverFromLost judged s n).sq.returnPending = s.sq.returnPending := by
  unfold State.recoverFromLost
  cases n with
  | lost p =>
    dsimp only
    split
    · rw [State.reannounceAll_mark]
      unfold State.requestPresence
      split <;> rfl
    · rfl
  | _ => rfl

end Sys2Proof.Machine
end

section
/-! PROOF. The invariants through an acceptance, up to the changes of own state (R102, R103, R118, R119, R138, R139). -/

namespace Sys2Proof.Machine

/-! ## Changes of one block -/

/-- Only the Line Controller has changed. -/
theorem State.Settled.onLine {flying : Option Item} {s t : State} (h : s.Settled flying) (cs : t.cs = s.cs) (et : t.et = s.et)
    (ru : t.ru = s.ru) (pu : t.pu = s.pu) (sq : t.sq = s.sq) (lp : t.lp = s.lp) (line : t.LineOk)
    (receiver : t.lc.receiverOn = s.lc.receiverOn) : t.Settled flying := by
  refine ⟨h.port.congr lp cs, h.roster.congr (by rw [ru]) cs, ?_, ?_, line, ?_,
    h.list.congr_blocks sq (by rw [ru]) cs pu, h.points.congr pu (by rw [ru]), h.entries.congr (by rw [et])⟩
  · simp only [State.TimersOk, State.inState, ru, sq]
    exact h.timers
  · simp only [State.ConfigOk, cs, ru, receiver]
    exact h.config
  · simp only [State.CountOk, ru, et]
    exact h.count

/-- Only RU has changed, and neither the own state nor the roster. -/
theorem State.Settled.onRu {flying : Option Item} {s : State} {f : RosterUnit → RosterUnit} (h : s.Settled flying)
    (state : (f s.ru).state = s.ru.state) (roster : (f s.ru).roster = s.ru.roster) (timers : (s.onRu f).TimersOk)
    (count : (s.onRu f).CountOk) : (s.onRu f).Settled flying := by
  refine ⟨h.port, h.roster.congr roster rfl, timers, ?_, ?_, count, h.list.congr_blocks rfl state rfl rfl,
    h.points.congr rfl state, h.entries⟩
  · simp only [State.ConfigOk, State.onRu_ru, state]
    exact h.config
  · simp only [State.LineOk, State.onRu_ru, state]
    exact h.line

/-! ## The frame is taken (R93, R102, R104, R107) -/

theorem State.takeFrame_lc (s : State) (own : Option Item) : (s.takeFrame own).lc =
    { s.lc with
      counters := { s.lc.counters with framesAccepted := bump s.lc.counters.framesAccepted }
      lineIdle := false, assembling := false, ltx := .released
      inFlight := if own.isSome then none else s.lc.inFlight
      vetoCount := if own.isSome then 0 else s.lc.vetoCount } := by
  unfold State.takeFrame
  dsimp only
  split <;> rfl

theorem State.Settled.takeFrame {flying : Option Item} {s : State} (h : s.Settled flying) {own : Option Item}
    (done : own.isSome = true ∨ s.lc.inFlight = none) : (s.takeFrame own).Settled flying := by
  have ended : (s.takeFrame own).lc.inFlight = none := by
    rw [State.takeFrame_lc]
    rcases done with done | done <;> simp [done]
  have few : (s.takeFrame own).lc.vetoCount < 8 := by
    obtain ⟨-, -, -, -, few⟩ := h.line
    rw [State.takeFrame_lc]
    dsimp only
    split
    · decide
    · exact few
  refine h.onLine (by simp) (by simp) (by simp) (by simp) (by simp) (by simp) ?_ (by rw [State.takeFrame_lc])
  refine ⟨?_, ?_, ?_, ?_, few⟩ <;> rw [ended] <;> simp [State.takeFrame_lc]

theorem State.Settled.markOwnJoin {flying : Option Item} {s : State} (h : s.Settled flying) (own : Option Item) (n : Notice) :
    (s.markOwnJoin own n).Settled flying := by
  have marked : s.ru.state.attempts = true →
      (s.onRu fun r => { r with ownJoin := true, attemptTimer := some (8 * s.presenceMs) }).Settled flying := by
    intro attempts
    obtain ⟨t1, t2, t3, t4, t5, -, t7⟩ := h.timers
    exact h.onRu rfl rfl ⟨t1, t2, t3, t4, t5, by simpa using attempts.symm, t7⟩ h.count
  unfold State.markOwnJoin
  split
  · split
    · exact marked (by simp [StationState.attempts, *])
    · exact marked (by simp [StationState.attempts, *])
    all_goals exact h
  · exact h

/-! ## Table, line count and roster (R23, R103, R130, R153) -/

theorem State.countFrame_table (s : State) (sender : StationId) (n : Notice) :
    (s.countFrame sender n).et.table = s.et.table := by
  cases n with
  | snapshot p =>
    simp only [State.countFrame]
    split <;> rfl
  | _ => rfl

theorem State.countFrame_valid {s : State} (valid : s.et.countValid = true) (sender : StationId) (n : Notice) :
    (s.countFrame sender n).et.countValid = true := by
  cases n with
  | snapshot p =>
    simp only [State.countFrame]
    split
    · rfl
    · exact valid
  | _ => exact valid

theorem State.countFrame_taken {s : State} {sender : StationId} (taken : s.takesSegment sender = true) (p : SnapshotPayload) :
    (s.countFrame sender (.snapshot p)).et.countValid = true := by
  simp only [State.countFrame, if_pos taken]
  rfl

theorem State.attempts_of_appliesSegments {s : State} (h : s.appliesSegments = true) : s.ru.state.attempts = true := by
  unfold State.appliesSegments at h
  unfold StationState.attempts
  split at h <;> simp_all

theorem State.Settled.countFrame {flying : Option Item} {s : State} (h : s.Settled flying) (sender : StationId) (n : Notice) :
    (s.countFrame sender n).Settled flying :=
  h.change (by simp) (.of_eq (by simp)) (by simp) (fun valid => State.countFrame_valid valid sender n) (by simp)
    (h.port.congr (by simp) (by simp)) (h.roster.congr (by simp) (by simp))
    (h.list.congr_blocks (by simp) (by simp) (by simp) (by simp)) (h.points.congr (by simp) (by simp))
    (h.entries.congr (s.countFrame_table sender n))

theorem State.Settled.hearSender {flying : Option Item} {s : State} (h : s.Settled flying) (sender : StationId) :
    (s.hearSender sender).Settled flying :=
  h.change rfl (s.hearSender_sameControl sender) rfl id id h.port (h.roster.hearSender sender)
    (h.list.congr_blocks rfl rfl rfl rfl) h.points h.entries

theorem State.Settled.cover {flying : Option Item} {s : State} (h : s.Settled flying) (attempts : s.ru.state.attempts = true)
    (valid : s.et.countValid = true) (coverage : RosterUnit → Vector Bool 256) (time : Nat) :
    (s.onRu fun r => { r with coverage := coverage r, attemptTimer := some time }).Settled flying := by
  obtain ⟨t1, t2, t3, t4, t5, -, t7⟩ := h.timers
  exact h.onRu rfl rfl ⟨t1, t2, t3, t4, t5, by simpa using attempts.symm, t7⟩ fun _ => valid

/-- A segment is taken only while an attempt is under way, and makes the line count valid (R149, R153). -/
theorem State.Settled.applySegment {flying : Option Item} {s : State} (h : s.Settled flying) {p : SnapshotPayload}
    (attempts : s.ru.state.attempts = true) (valid : s.et.countValid = true) (entries : (s.applySegment p).EntriesOk) :
    (s.applySegment p).Settled flying := by
  have counted : (s.onEt fun t => { t with table := vmap (segmentEntry p t.lineCount) t.table }).Settled flying :=
    h.change (by simp) (.of_eq (by simp)) (by simp) (by simp) (by simp) (h.port.congr (by simp) (by simp))
      (h.roster.congr (by simp) (by simp)) (h.list.congr_blocks (by simp) (by simp) (by simp) (by simp))
      (h.points.congr (by simp) (by simp)) (entries.congr (by simp [State.applySegment]))
  exact counted.cover (by simpa using attempts) (by simpa using valid)
    (fun r => vmap (fun i c => c || segmentCovers p i) r.coverage) _

theorem State.Settled.applyKind {flying : Option Item} {s : State} (h : s.Settled flying) (sender : StationId) {taken : Bool}
    (n : Notice) (rebuilds : ∀ p, n = .snapshot p → taken = true → s.ru.state.attempts = true ∧ s.et.countValid = true) :
    (s.applyKind sender taken n).Settled flying := by
  have entries := h.entries.applyKind sender taken n
  by_cases segment : ∃ p, n = .snapshot p ∧ taken = true ∧ segmentMalformed p = false
  · obtain ⟨p, rfl, yes, good⟩ := segment
    obtain ⟨attempts, valid⟩ := rebuilds p rfl yes
    have effect : s.applyKind sender taken (.snapshot p) = s.applySegment p := by simp [State.applyKind, yes, good]
    rw [effect] at entries ⊢
    exact h.applySegment attempts valid entries
  · have control := s.applyKind_sameControl sender taken n fun p snapshot yes => by
      by_contra good
      exact segment ⟨p, snapshot, yes, by simpa using good⟩
    exact h.change (by simp) control (s.applyKind_lc sender taken n)
      (fun valid => (s.applyKind_count sender taken n).2.trans valid) (by simp)
      ((s.pushed_applyKind sender taken n).portOk h.port) (h.roster.applyKind sender taken n)
      (h.list.congr_blocks (by simp) control.state (by simp) (by simp)) (h.points.congr (by simp) control.state) entries

theorem State.Settled.applyCore {flying : Option Item} {s : State} (h : s.Settled flying) (sender : StationId) (n : Notice) :
    (s.applyCore sender n).Settled flying := by
  refine ((h.countFrame sender n).hearSender sender).applyKind sender n fun p snapshot taken => ⟨?_, ?_⟩
  · have segments : s.appliesSegments = true := by
      simp only [State.takesSegment, Bool.and_eq_true] at taken
      exact taken.1
    simpa [(State.hearSender_sameControl _ sender).state] using State.attempts_of_appliesSegments segments
  · subst snapshot
    simpa using State.countFrame_taken taken p

/-! ## Points (R35, R37, R39, R40, R43, R141) -/

theorem State.Settled.onPointsAndList {flying : Option Item} {s t : State} (h : s.Settled flying) (cs : t.cs = s.cs)
    (et : t.et = s.et) (ru : t.ru = s.ru) (lc : t.lc = s.lc) (lp : t.lp = s.lp)
    (mark : t.sq.returnPending = s.sq.returnPending) (list : t.ListOk flying []) (points : t.PointsOk) : t.Settled flying :=
  h.change cs (.of_eq ru) (by rw [lc]) (by rw [et]; exact id) (by rw [mark]; exact id) (h.port.congr lp cs)
    (h.roster.congr (by rw [ru]) cs) list points (h.entries.congr (by rw [et]))

theorem State.Settled.settlePoints {own : Option Item} {old s : State} (h : s.Settled own) (n : Notice) :
    (State.settlePoints old s own n).Settled own :=
  h.onPointsAndList (by simp) (by simp) (by simp) (by simp) (by simp) (State.settlePoints_mark old s own n)
    (h.list.settlePoints n) ((State.keepsLevels_settlePoints old s own n).pointsOk h.points)

theorem State.Settled.recoverFromLost {flying : Option Item} {judged s : State} (h : s.Settled flying) (n : Notice) :
    (State.recoverFromLost judged s n).Settled flying :=
  h.onPointsAndList (by simp) (by simp) (by simp) (by simp) (by simp) (State.recoverFromLost_mark judged s n)
    (h.list.recoverFromLost n) ((State.keepsLevels_recoverFromLost judged s n).pointsOk h.points)

theorem State.Settled.applyFrame {own : Option Item} {old s : State} (h : s.Settled own) (sender : StationId) (n : Notice) :
    (State.applyFrame old s sender own n).Settled own := by
  unfold State.applyFrame
  split
  · exact ((h.applyCore sender n).settlePoints n).recoverFromLost n
  · exact h

/-! ## Send Queue: the OUTCOME records and the list (R53 to R55, R118, R119) -/

/-- The OUTCOME of the own claim or purge, decided against the state before its acceptance (R53, R54). -/
def State.ownOutcome (old : State) (x : Item) : List Record :=
  match x.kind with
  | .claim i n => [.outcome (.claim i) (old.claimOutcome i (old.entry i) n)]
  | .purge o => [.outcome (.purge o) (old.purgeOutcome o)]
  | .point _ | .lost _ | .presence _ | .join _ | .leave _ | .snapshot => []

/-- The OUTCOME of a queued claim that a frame overtook (R55). -/
def State.overtakenOutcome (old s : State) (x : Item) : List Record :=
  match x.kind with
  | .claim i n =>
    if old.entry i = s.entry i then []
    else
      match s.claimDecision i (s.entry i) n with
      | .wins => []
      | .void r => [.outcome (.claim i) (.void r (voidWinner (s.entry i) r))]
  | .point _ | .lost _ | .presence _ | .join _ | .leave _ | .snapshot | .purge _ => []

/-- The OUTCOME that the settling of one item pushes. -/
def State.itemOutcome (old s : State) (own : Option Item) (x : Item) : List Record :=
  match own with
  | some y => if y.age = x.age then old.ownOutcome x else old.overtakenOutcome s x
  | none => old.overtakenOutcome s x

/-- The OUTCOME records of an acceptance: those of the items in list order, then that of an own item that a LEAVE command had
removed. -/
def State.queueOutcomes (old s : State) (own : Option Item) : List Record :=
  s.sq.items.flatMap (old.itemOutcome s own) ++
    match own with
    | some x => if old.sq.items.any fun y => y.age == x.age then [] else old.ownOutcome x
    | none => []

theorem State.claimDecision_congr {s t : State} (cs : t.cs = s.cs) (i : EntryIndex) (e : Entry) (n : Byte) :
    t.claimDecision i e n = s.claimDecision i e n := by
  have category : t.category = s.category := by funext c; simp only [State.category, cs]
  have mode : t.ackMode = s.ackMode := by funext c; simp only [State.ackMode, category]
  have silent : t.entryAckNone e = s.entryAckNone e := by simp only [State.entryAckNone, mode]
  simp only [State.claimDecision, silent]

theorem State.overtakenOutcome_congr {old s t : State} (cs : t.cs = s.cs) (table : t.et.table = s.et.table) (x : Item) :
    old.overtakenOutcome t x = old.overtakenOutcome s x := by
  simp only [State.overtakenOutcome, State.entry_congr table, State.claimDecision_congr cs]

theorem State.pushed_settleOwn (old s : State) (x : Item) : s.Pushed (State.settleOwn old s x) (old.ownOutcome x) := by
  have dropped : s.Pushed (s.dropItem x) [] := .nothing rfl rfl
  unfold State.settleOwn State.ownOutcome
  cases x.kind with
  | claim i n => exact dropped.trans (State.pushed_push _ _)
  | purge o => exact dropped.trans (State.pushed_push _ _)
  | presence t => exact .nothing rfl rfl
  | snapshot =>
    dsimp only
    split
    · exact .refl s
    · exact dropped
  | point p => exact .refl s
  | _ => exact dropped

theorem State.pushed_checkClaim (old s : State) (x : Item) :
    s.Pushed (State.checkClaim old s x) (old.overtakenOutcome s x) := by
  have dropped : s.Pushed (s.dropItem x) [] := .nothing rfl rfl
  unfold State.checkClaim State.overtakenOutcome
  cases x.kind with
  | claim i n =>
    dsimp only
    split
    · exact .refl s
    · cases s.claimDecision i (s.entry i) n with
      | wins => exact .refl s
      | void r => exact dropped.trans (State.pushed_push _ _)
  | _ => exact .refl s

theorem State.pushed_settleItem (old s : State) (own : Option Item) (x : Item) :
    s.Pushed (State.settleItem old own s x) (old.itemOutcome s own x) := by
  unfold State.settleItem State.itemOutcome
  cases own with
  | none => exact State.pushed_checkClaim old s x
  | some y => exact State.pushed_ite (State.pushed_settleOwn old s x) (State.pushed_checkClaim old s x)

theorem State.itemOutcome_congr {old s t : State} (own : Option Item) (cs : t.cs = s.cs) (table : t.et.table = s.et.table)
    (x : Item) : old.itemOutcome t own x = old.itemOutcome s own x := by
  simp only [State.itemOutcome, State.overtakenOutcome_congr cs table]

theorem State.pushed_settleRemoved (old s : State) (own : Option Item) :
    s.Pushed (State.settleRemoved old s own) (match own with
      | some x => if old.sq.items.any fun y => y.age == x.age then [] else old.ownOutcome x
      | none => []) := by
  unfold State.settleRemoved State.ownOutcome
  cases own with
  | none => exact .refl s
  | some x =>
    dsimp only
    split
    · exact .refl s
    · cases x.kind with
      | claim i n => exact State.pushed_push s _
      | purge o => exact State.pushed_push s _
      | _ => exact .refl s

theorem State.pushed_settleQueue (old s : State) (sender : StationId) (own : Option Item) (n : Notice) :
    s.Pushed (State.settleQueue old s sender own n) (old.queueOutcomes s own) := by
  obtain ⟨items, -⟩ := State.pushed_foldl (fun u => u.cs = s.cs ∧ u.et = s.et) (State.settleItem old own)
    (old.itemOutcome s own) s.sq.items (fun u ⟨cs, et⟩ x _ =>
      ⟨State.itemOutcome_congr own cs (by rw [et]) x ▸ State.pushed_settleItem old u own x, by simpa using cs, by simpa using et⟩)
    s ⟨rfl, rfl⟩
  have rest := items.trans (State.pushed_settleRemoved old (s.sq.items.foldl (State.settleItem old own) s) own)
  refine ⟨by simp, ?_⟩
  unfold State.queueOutcomes
  rw [← rest.lp]
  simp [State.settleQueue]

theorem State.moveCursor_sameControl (s : State) (own : Option Item) (n : Notice) :
    s.ru.sameControl (s.moveCursor own n).ru := by
  unfold State.moveCursor
  split <;> exact rfl

theorem State.settleItems_ru (old s : State) (own : Option Item) (l : List Item) :
    (l.foldl (State.settleItem old own) s).ru = s.ru :=
  State.foldl_keeps State.ru _ (fun u x => by simp) l s

theorem State.settleQueue_sameControl (old s : State) (sender : StationId) (own : Option Item) (n : Notice) :
    s.ru.sameControl (State.settleQueue old s sender own n).ru := by
  have moved := State.moveCursor_sameControl
    (State.settleRemoved old (s.sq.items.foldl (State.settleItem old own) s) own) own n
  simpa [State.settleQueue, State.settleItems_ru] using moved

/-- The settling of the list can clear the return presence mark, no more (R114). -/
theorem State.settleQueue_mark (old s : State) (sender : StationId) (own : Option Item) (n : Notice)
    (pending : (State.settleQueue old s sender own n).sq.returnPending = true) : s.sq.returnPending = true := by
  have item : ∀ (u : State) x, (State.settleItem old own u x).sq.returnPending = true → u.sq.returnPending = true := by
    intro u x
    unfold State.settleItem State.settleOwn State.checkClaim
    (repeat' split) <;> simp
  have list : ∀ (l : List Item) (u : State), (l.foldl (State.settleItem old own) u).sq.returnPending = true →
      u.sq.returnPending = true := by
    intro l
    induction l with
    | nil => exact fun u => id
    | cons x rest ih => exact fun u kept => item u x (ih _ kept)
  have withdrawn : ∀ u : State, (u.withdrawOvertaken sender).sq.returnPending = u.sq.returnPending := by
    intro u
    unfold State.withdrawOvertaken
    dsimp only
    split <;> rfl
  refine list s.sq.items s ?_
  simpa [State.settleQueue, withdrawn] using pending

theorem State.Settled.settleQueue {flying own : Option Item} {old s : State} (h : s.Settled flying) (sender : StationId)
    (n : Notice) : (State.settleQueue old s sender own n).Settled flying := by
  have control := State.settleQueue_sameControl old s sender own n
  have roster : (State.settleQueue old s sender own n).ru.roster = s.ru.roster := by
    have moved : ∀ u : State, (u.moveCursor own n).ru.roster = u.ru.roster := by
      intro u
      unfold State.moveCursor
      split <;> rfl
    simp [State.settleQueue, moved, State.settleItems_ru]
  exact h.change (by simp) control (by simp) (by simp) (State.settleQueue_mark old s sender own n)
    ((State.pushed_settleQueue old s sender own n).portOk h.port) (h.roster.congr roster (by simp)) (h.list.settleQueue sender n)
    (h.points.congr (by simp) control.state) (h.entries.congr (by simp))

/-! ## The duties of the reference (R138, R139, R150, R152) -/

theorem State.requestAllLost_mark (s : State) : s.requestAllLost.sq.returnPending = s.sq.returnPending := by
  unfold State.requestAllLost
  refine State.foldl_keeps (fun u => u.sq.returnPending) _ (fun u t => ?_) _ _
  split
  · unfold State.requestLost
    split <;> rfl
  · rfl

theorem State.startSweep_ru (s : State) : s.startSweep.ru = { s.ru with cursor := 0 } := by
  simp [State.startSweep]

theorem State.startSweep_mark (s : State) : s.startSweep.sq.returnPending = s.sq.returnPending := by
  unfold State.startSweep State.requestSnapshot
  split <;> rfl

theorem State.takeDuties_mark (old s : State) : (State.takeDuties old s).sq.returnPending = s.sq.returnPending := by
  unfold State.takeDuties
  extract_lets s1 s2
  have first : s1.sq.returnPending = s.sq.returnPending := by
    simp only [s1]
    split <;> rfl
  have second : s2.sq.returnPending = s.sq.returnPending := by
    simp only [s2]
    split
    · rw [State.requestAllLost_mark, first]
    · exact first
  split
  · rw [State.startSweep_mark, second]
  · exact second

theorem State.sweeps_congr {s t : State} (cs : t.cs = s.cs) (ru : t.ru = s.ru) : t.sweeps = s.sweeps := by
  have own := State.isOwnReference_congr cs (congrArg RosterUnit.state ru) (congrArg RosterUnit.roster ru)
  simp only [State.sweeps, State.inState, State.someRebuilding, State.record, own, ru]

/-- The duties leave RU but for the cursor, which a sweep that starts puts to 0 (R150). -/
theorem State.takeDuties_ru (old s : State) :
    (State.takeDuties old s).ru = if !old.sweeps && s.sweeps then { s.ru with cursor := 0 } else s.ru := by
  unfold State.takeDuties
  extract_lets s1 s2
  have first : s1.cs = s.cs ∧ s1.ru = s.ru := by
    simp only [s1]
    split <;> simp
  have second : s2.cs = s.cs ∧ s2.ru = s.ru := by
    simp only [s2]
    split
    · simpa using first
    · exact first
  rw [State.sweeps_congr second.1 second.2]
  split
  · rw [State.startSweep_ru, second.2]
  · exact second.2

theorem State.takeDuties_sameControl (old s : State) : s.ru.sameControl (State.takeDuties old s).ru := by
  rw [State.takeDuties_ru]
  split <;> exact rfl

theorem State.Settled.takeDuties {flying : Option Item} {old s : State} (h : s.Settled flying) :
    (State.takeDuties old s).Settled flying := by
  have control := State.takeDuties_sameControl old s
  have roster : (State.takeDuties old s).ru.roster = s.ru.roster := by
    rw [State.takeDuties_ru]
    split <;> rfl
  exact h.change (by simp) control (by simp) (by simp) (by rw [State.takeDuties_mark]; exact id)
    (h.port.congr (by simp) (by simp)) (h.roster.congr roster (by simp)) h.list.takeDuties
    (h.points.congr (by simp) control.state) (h.entries.congr (by simp))

end Sys2Proof.Machine
end

section
/-! PROOF. The changes of own state: what each leaves RU, the list and the points as, and that each ends in a settled state
(R121, R123, R126, R128, R142 to R148). -/

namespace Sys2Proof.Machine

/-! ## A settled state but for an expiry that RU has still to answer -/

/-- `State.TimersOk` without its clause on the attempt timer. -/
abbrev State.MarksOk (s : State) : Prop :=
  s.ru.presenceTimer.isSome = s.ru.state.announces ∧
  s.ru.windowTimer.isSome = s.inState .listening ∧
  s.ru.muteTimer.isSome = s.inState .muted ∧
  s.ru.entryState.isSome = s.inState .muted ∧
  s.ru.refusal.isSome = s.inState .refused ∧
  (s.sq.returnPending = true → s.ru.state = .member)

/-- `State.Settled` where the attempt timer may have run out (R148). -/
structure State.Steady (flying : Option Item) (s : State) : Prop where
  port : s.PortOk
  roster : s.RosterOk
  marks : s.MarksOk
  config : s.ConfigOk
  line : s.LineOk
  count : s.CountOk
  list : s.ListOk flying []
  points : s.PointsOk
  entries : s.EntriesOk

theorem State.Settled.steady {flying : Option Item} {s : State} (h : s.Settled flying) : s.Steady flying := by
  obtain ⟨t1, t2, t3, t4, t5, -, t7⟩ := h.timers
  exact ⟨h.port, h.roster, ⟨t1, t2, t3, t4, t5, t7⟩, h.config, h.line, h.count, h.list, h.points, h.entries⟩

/-- The attempt timer and its deferred expiry are free in a steady state. -/
theorem State.Steady.onAttempt {flying : Option Item} {s : State} (h : s.Steady flying) (timer : Option Nat) (deferred : Bool) :
    (s.onRu fun r => { r with attemptTimer := timer, deferredExpiry := deferred }).Steady flying :=
  ⟨h.port, h.roster, h.marks, h.config, h.line, h.count, h.list.congr_blocks rfl rfl rfl rfl, h.points, h.entries⟩

theorem State.MarksOk.refusal_none {s : State} (h : s.MarksOk) (other : s.ru.state ≠ .refused) : s.ru.refusal = none := by
  obtain ⟨-, -, -, -, refusal, -⟩ := h
  have : s.inState .refused = false := by simpa [State.inState] using other
  simpa [this] using refusal

theorem State.MarksOk.entryState_none {s : State} (h : s.MarksOk) (other : s.ru.state ≠ .muted) :
    s.ru.entryState = none := by
  obtain ⟨-, -, -, entryState, -⟩ := h
  have : s.inState .muted = false := by simpa [State.inState] using other
  simpa [this] using entryState

/-! ## What the invariants need of a change of own state -/

theorem State.LineOk.quiet {s t : State} (h : s.LineOk) (lc : t.lc = { s.lc with vetoCount := t.lc.vetoCount })
    (few : t.lc.vetoCount < 8) (quiet : s.lc.inFlight = none) : t.LineOk := by
  obtain ⟨l1, -, l3, l4, -⟩ := h
  refine ⟨?_, ?_, ?_, ?_, few⟩ <;> rw [lc]
  · exact l1
  · simp [quiet]
  · exact l3
  · exact l4

theorem State.LineOk.same {s t : State} (h : s.LineOk) (lc : t.lc = s.lc) (quiet : s.lc.inFlight = none) : t.LineOk :=
  h.quiet (by rw [lc]) (by rw [lc]; exact h.2.2.2.2) quiet

theorem State.ConfigOk.congr {s t : State} (h : s.ConfigOk) (cs : t.cs = s.cs) (receiver : t.lc.receiverOn = s.lc.receiverOn)
    (service : t.ru.state.outOfService = false → s.cs.setup.isSome = true) : t.ConfigOk := by
  obtain ⟨c1, c2, c3, -⟩ := h
  simp only [State.ConfigOk, cs, receiver]
  exact ⟨c1, c2, c3, service⟩

/-- The level a point is qualified at and the timers that lead out of it stand (R31, R32). -/
def PointRecord.sameQualification (r r' : PointRecord) : Prop :=
  r'.qualified = r.qualified ∧ r'.qualify = r.qualify ∧ r'.release = r.release

theorem State.PointsOk.requalified {s t : State} (h : s.PointsOk) (same : ∀ p, (s.point p).sameQualification (t.point p))
    (reminder : ∀ p, (t.point p).reminder.okIn t.ru.state = true) : t.PointsOk := by
  intro p
  obtain ⟨qualify, release, -⟩ := h p
  obtain ⟨h1, h2, h3⟩ := same p
  rw [h1, h2, h3]
  exact ⟨qualify, release, reminder p⟩

theorem PointRecord.sameLevels.sameQualification {r r' : PointRecord} (h : r.sameLevels r') : r.sameQualification r' := by
  rw [PointRecord.sameLevels] at h
  rw [h]
  exact ⟨rfl, rfl, rfl⟩

theorem State.RosterOk.of_records {s t : State} (h : s.RosterOk) (cs : t.cs = s.cs)
    (each : ∀ u, (s.record u).Ok (u == s.own) → (t.record u).Ok (u == s.own)) : t.RosterOk := by
  rw [State.rosterOk_iff] at h ⊢
  intro u
  have own : t.own = s.own := congrArg ConfigStore.stationNumber cs
  rw [own]
  exact each u (h u)

theorem RosterRecord.Ok.absent (own : Bool) : RosterRecord.absent.Ok own := fun _ => ⟨rfl, rfl⟩

/-! ## The list emptied, with its reports (R120, R121) -/

/-- The OUTCOME records at a removal of items: those of the claims and purges removed that are not in flight (R120, R121). -/
def State.removalOutcomes (s : State) (k : ItemKind → Bool) : List Record :=
  (s.sq.items.filter fun x => k x.kind).flatMap fun x => if s.flies x then [] else (withdrawnRecord x).toList

theorem State.flies_congr {s t : State} (lc : t.lc = s.lc) (x : Item) : t.flies x = s.flies x := by
  simp only [State.flies, lc]

theorem State.pushed_reportRemoved (s : State) (x : Item) :
    s.Pushed (s.reportRemoved x) (if s.flies x then [] else (withdrawnRecord x).toList) := by
  unfold State.reportRemoved withdrawnRecord
  cases x.kind with
  | claim i n => exact State.pushed_ite (.refl s) (State.pushed_push s _)
  | purge o => exact State.pushed_ite (.refl s) (State.pushed_push s _)
  | point p =>
    simp only [Option.toList_none, ite_self]
    exact .nothing rfl rfl
  | _ =>
    simp only [Option.toList_none, ite_self]
    exact .refl s

theorem State.pushed_removeItems (s : State) (k : ItemKind → Bool) : s.Pushed (s.removeItems k) (s.removalOutcomes k) := by
  have taken : s.Pushed (s.onSq fun q => { q with items := q.items.filter fun x => !k x.kind }) [] := .nothing rfl rfl
  have reports := State.pushed_foldl (fun u => u.lc = s.lc) State.reportRemoved
    (fun x => if s.flies x then [] else (withdrawnRecord x).toList) (s.sq.items.filter fun x => k x.kind)
    (fun u lc x _ => ⟨State.flies_congr lc x ▸ u.pushed_reportRemoved x, by simpa using lc⟩)
    (s.onSq fun q => { q with items := q.items.filter fun x => !k x.kind }) rfl
  exact taken.trans reports.1

/-! ## OFFLINE and REFUSED (R121, R128) -/

theorem State.enterOut_ru (s : State) (st : StationState) (reason : Option RefusalReason) : (s.enterOut st reason).ru =
    { s.ru with
      state := st, presenceTimer := none, muteTimer := none, windowTimer := none, attemptTimer := none
      deferredExpiry := false, refusal := reason, entryState := none
      roster := vmap (fun _ x => { x with silence := none }) s.ru.roster } := by
  simp [State.enterOut]

theorem State.enterOut_sq (s : State) (st : StationState) (reason : Option RefusalReason) : (s.enterOut st reason).sq =
    { s.sq with items := [], returnPending := s.sq.returnPending && st == .member } := by
  simp [State.enterOut]

theorem State.enterOut_lc (s : State) (st : StationState) (reason : Option RefusalReason) : (s.enterOut st reason).lc =
    { s.lc with vetoCount := 0 } := by
  simp [State.enterOut]

/-- The records of an entry to OFFLINE or REFUSED: the OUTCOMEs of what the list held (R121). -/
theorem State.pushed_enterOut (s : State) (st : StationState) (reason : Option RefusalReason) :
    s.Pushed (s.enterOut st reason) (s.removalOutcomes fun _ => true) := by
  have entered : s.Pushed (s.enter st) [] := .nothing rfl rfl
  have removed := entered.trans (State.pushed_removeItems (s.enter st) fun _ => true)
  have same : ((s.enter st).removalOutcomes fun _ => true) = s.removalOutcomes fun _ => true := rfl
  exact ⟨by simp, by simpa [State.enterOut, same] using removed.lp⟩

theorem State.point_enterOut {s : State}
    (points : ∀ p : PointId, s.countItems (ItemKind.isPointOf p) = if (s.point p).queued then 1 else 0) (st : StationState)
    (reason : Option RefusalReason) (p : PointId) :
    (s.enterOut st reason).point p = { s.point p with queued := false, reminder := .stopped } := by
  have removed : ((s.enter st).removeItems fun _ => true).point p = { s.point p with queued := false } :=
    State.point_removeItems_of_all (s := s.enter st) points (fun _ => rfl) p
  have stopped : (s.enterOut st reason).pu = ((s.enter st).removeItems fun _ => true).stopReminders.pu := by
    simp [State.enterOut, State.stopReminders]
  rw [State.point_congr stopped, State.stopReminders, State.point_onPoints, removed]

theorem State.RosterOk.silenced {s t : State} (h : s.RosterOk) (cs : t.cs = s.cs)
    (silenced : t.ru.roster = vmap (fun _ x => { x with silence := none }) s.ru.roster) : t.RosterOk := by
  refine h.of_records cs fun u ok due => ?_
  simp only [State.record, silenced, Fin.getElem_fin, vmap_get] at due ⊢
  exact ⟨(ok due).1, trivial⟩

theorem State.Steady.enterOut {flying : Option Item} {s : State} (h : s.Steady flying) (quiet : s.lc.inFlight = none)
    {st : StationState} {reason : Option RefusalReason}
    (out : st = .offline ∧ reason = none ∨ st = .refused ∧ reason.isSome = true) :
    (s.enterOut st reason).Settled flying := by
  have cs := (s.enterOut_frame st reason).1
  have et := (s.enterOut_frame st reason).2.1
  have ru := s.enterOut_ru st reason
  have sq := s.enterOut_sq st reason
  have lc := s.enterOut_lc st reason
  have point := State.point_enterOut h.list.points st reason
  refine ⟨(s.pushed_enterOut st reason).portOk h.port, h.roster.silenced cs (by rw [ru]), ?_,
    h.config.congr cs (by rw [lc]) ?_, h.line.quiet (by rw [lc]) (by rw [lc]; exact Nat.zero_lt_succ 7) quiet, ?_,
    h.list.of_empty (by rw [sq]) (by rw [sq]) fun p => by rw [point], h.points.requalified (fun p => ?_) (fun p => ?_),
    h.entries.congr (by rw [et])⟩
  · simp only [State.TimersOk, State.inState, ru, sq]
    rcases out with ⟨rfl, rfl⟩ | ⟨rfl, some⟩
    · simp [StationState.announces, StationState.attempts]
    · simp [StationState.announces, StationState.attempts, some]
  · rw [ru]
    rcases out with ⟨rfl, -⟩ | ⟨rfl, -⟩ <;> exact fun off => nomatch off
  · simp only [State.CountOk, ru, et]
    rcases out with ⟨rfl, -⟩ | ⟨rfl, -⟩ <;> simp
  · rw [point]
    exact ⟨rfl, rfl, rfl⟩
  · rw [point]
    rfl

end Sys2Proof.Machine
end

section
/-! PROOF. The changes of own state within service: MUTED, JOINING, SYNCING, LISTENING, MEMBER and LEAVING (R125 to R127, R142
to R148). -/

namespace Sys2Proof.Machine

/-- A change of own state ends in a settled state when RU, the list and the reminder timers suit the state it enters. -/
theorem State.Steady.move {flying : Option Item} {s t : State} (h : s.Steady flying) (cs : t.cs = s.cs) (lc : t.lc = s.lc)
    (quiet : s.lc.inFlight = none) (service : s.ru.state.outOfService = false) (port : t.PortOk) (roster : t.RosterOk)
    (timers : t.TimersOk) (count : t.CountOk) (list : t.ListOk flying [])
    (same : ∀ p, (s.point p).sameQualification (t.point p)) (reminder : ∀ p, (t.point p).reminder.okIn t.ru.state = true)
    (entries : t.EntriesOk) : t.Settled flying := by
  obtain ⟨-, -, -, setup⟩ := h.config
  exact ⟨port, roster, timers, h.config.congr cs (by rw [lc]) fun _ => setup service, h.line.same lc quiet, count, list,
    h.points.requalified same reminder, entries⟩

theorem State.EntriesOk.cleared {t : State} (cleared : t.et.table = Vector.replicate 256 Entry.pristine) : t.EntriesOk := by
  intro i _
  simp [State.entry, cleared]

theorem State.RosterOk.cleared {s t : State} (h : s.RosterOk) (cs : t.cs = s.cs)
    (cleared : t.ru.roster = Vector.replicate 16 RosterRecord.absent) : t.RosterOk := by
  refine h.of_records cs fun u _ => ?_
  simpa [State.record, cleared] using RosterRecord.Ok.absent _

theorem State.removeItems_pu_of_not {s : State} {k : ItemKind → Bool} (others : ∀ p, k (.point p) = false) :
    (s.removeItems k).pu = s.pu :=
  Vector.ext fun i hi => State.point_removeItems_of_not others ⟨i, hi⟩

theorem State.not_refused_of_service {s : State} (service : s.ru.state.outOfService = false) : s.ru.state ≠ .refused := by
  intro refused
  rw [refused] at service
  exact nomatch service

/-! ## MUTED (R126) -/

theorem State.enterMuted_ru (s : State) (e : EntryState) : (s.enterMuted e).ru =
    { s.ru with
      state := .muted, presenceTimer := none, windowTimer := none, attemptTimer := none, deferredExpiry := false
      entryState := some e, doubtful := false, muteTimer := some (16 * s.presenceMs) } := by
  simp [State.enterMuted, State.presenceMs]

theorem State.enterMuted_sq (s : State) (e : EntryState) : (s.enterMuted e).sq = { s.sq with returnPending := false } := by
  simp [State.enterMuted]

theorem State.point_enterMuted (s : State) (e : EntryState) (p : PointId) :
    (s.enterMuted e).point p = { s.point p with reminder := (s.point p).reminder.hold } :=
  have pu : (s.enterMuted e).pu = s.holdReminders.pu := by simp [State.enterMuted, State.holdReminders]
  (State.point_congr pu p).trans (State.point_onPoints s p _)

theorem ReminderTimer.hold_okIn_muted (r : ReminderTimer) : r.hold.okIn .muted = true := by cases r <;> rfl

/-- The state that a veto exhaustion or a mute remembers (R126). -/
def EntryState.toState : EntryState → StationState
  | .member => .member
  | .joining => .joining
  | .syncing => .syncing

theorem State.Steady.enterMuted {flying : Option Item} {s : State} (h : s.Steady flying) (quiet : s.lc.inFlight = none)
    {e : EntryState} (from_ : s.ru.state = e.toState) : (s.enterMuted e).Settled flying := by
  have ru := s.enterMuted_ru e
  have sq := s.enterMuted_sq e
  have point := s.point_enterMuted e
  have kept := h.marks.refusal_none (by cases e <;> rw [from_] <;> exact fun no => nomatch no)
  refine h.move (by simp) (by simp) quiet (by cases e <;> rw [from_] <;> rfl) (h.port.congr (by simp) (by simp))
    (h.roster.congr (by rw [ru]) (by simp)) ?_ ?_
    (h.list.restate (by rw [sq]) (by rw [sq]) (by simp) (by cases e <;> rw [from_] <;> exact fun no => nomatch no)
      (by rw [ru]; rfl) (fun p => by rw [point]) fun p _ => by rw [point])
    (fun p => by rw [point]; exact ⟨rfl, rfl, rfl⟩)
    (fun p => by rw [point, ru]; exact ReminderTimer.hold_okIn_muted _) (h.entries.congr (by simp))
  · simp [State.TimersOk, State.inState, ru, sq, kept, StationState.announces, StationState.attempts]
  · simp only [State.CountOk, ru, State.enterMuted_frame]
    intro due
    refine h.count ?_
    cases e with
    | member => exact .inl from_
    | syncing => exact .inr (.inl from_)
    | joining => simp at due

/-! ## Attempts (R145, R146) -/

theorem State.replaceJoin_mark (s : State) (m : JoinMode) : (s.replaceJoin m).sq.returnPending = s.sq.returnPending := rfl

theorem State.startResyncAttempt_ru (s : State) (n : Nat) : (s.startResyncAttempt n).ru =
    { s.ru with
      joinMode := some .resync, attempt := n, attemptTimer := some (8 * s.presenceMs), ownJoin := false
      coverage := Vector.replicate 256 false, deferredExpiry := false } := by
  simp [State.startResyncAttempt, State.startAttempt, State.replaceJoin]

theorem State.startJoinAttempt_ru (s : State) (n : Nat) : (s.startJoinAttempt n).ru =
    { s.ru with
      roster := Vector.replicate 16 RosterRecord.absent
      joinMode := some .join, attempt := n, attemptTimer := some (8 * s.presenceMs), ownJoin := false
      coverage := Vector.replicate 256 false, deferredExpiry := false } := by
  simp [State.startJoinAttempt, State.startAttempt, State.replaceJoin, State.presenceMs]

theorem State.startJoinAttempt_et (s : State) (n : Nat) : (s.startJoinAttempt n).et =
    { s.et with table := Vector.replicate 256 Entry.pristine, countValid := false } := by
  simp [State.startJoinAttempt]

theorem State.startAttempt_mark (s : State) (m : JoinMode) (n : Nat) :
    (s.startAttempt m n).sq.returnPending = s.sq.returnPending := rfl

theorem State.startJoinAttempt_mark (s : State) (n : Nat) :
    (s.startJoinAttempt n).sq.returnPending = s.sq.returnPending := by
  simp [State.startJoinAttempt, State.startAttempt_mark]

theorem State.ListOk.startAttempt {flying : Option Item} {s : State} (h : s.ListOk flying [])
    (listed : s.ru.state.holdsNothing = false) (m : JoinMode) (n : Nat) : (s.startAttempt m n).ListOk flying [] := by
  unfold State.startAttempt
  extract_lets u
  have started : u.ListOk flying [] := h.congr_blocks rfl rfl rfl rfl
  exact started.replaceJoin listed m

theorem State.ListOk.startJoinAttempt {flying : Option Item} {s : State} (h : s.ListOk flying [])
    (listed : s.ru.state.holdsNothing = false) (n : Nat) : (s.startJoinAttempt n).ListOk flying [] := by
  have cleared : s.clearTable.clearRoster.ListOk flying [] := h.congr_blocks (by simp) (by simp) (by simp) (by simp)
  exact cleared.startAttempt (by simpa using listed) .join n

/-- The next JOIN attempt (R145, R148). -/
theorem State.Steady.startJoinAttempt {flying : Option Item} {s : State} (h : s.Steady flying) (quiet : s.lc.inFlight = none)
    (joining : s.ru.state = .joining) (n : Nat) : (s.startJoinAttempt n).Settled flying := by
  have ru := s.startJoinAttempt_ru n
  have pu : (s.startJoinAttempt n).pu = s.pu := by simp
  obtain ⟨t1, t2, t3, t4, t5, t7⟩ := h.marks
  refine h.move (by simp) (by simp) quiet (by rw [joining]; rfl) (h.port.congr (by simp) (by simp))
    (h.roster.cleared (by simp) (by rw [ru])) ?_ ?_ (h.list.startJoinAttempt (by rw [joining]; rfl) n)
    (fun p => by rw [State.point_congr pu]; exact ⟨rfl, rfl, rfl⟩)
    (fun p => by rw [State.point_congr pu, ru]; exact (h.points p).2.2) (.cleared (by rw [State.startJoinAttempt_et]))
  · simp only [State.TimersOk, State.inState, ru, State.startJoinAttempt_mark]
    exact ⟨t1, t2, t3, t4, t5, by rw [joining]; rfl, t7⟩
  · have muted := h.marks.entryState_none (by rw [joining]; exact fun no => nomatch no)
    simp [State.CountOk, ru, joining, muted]

/-- The next resync attempt (R146, R148). -/
theorem State.Steady.startResyncAttempt {flying : Option Item} {s : State} (h : s.Steady flying)
    (quiet : s.lc.inFlight = none) (syncing : s.ru.state = .syncing) (n : Nat) : (s.startResyncAttempt n).Settled flying := by
  have ru := s.startResyncAttempt_ru n
  have pu : (s.startResyncAttempt n).pu = s.pu := by simp
  obtain ⟨t1, t2, t3, t4, t5, t7⟩ := h.marks
  refine h.move (by simp) (by simp) quiet (by rw [syncing]; rfl) (h.port.congr (by simp) (by simp))
    (h.roster.congr (by rw [ru]) (by simp)) ?_ ?_ (h.list.startAttempt (by rw [syncing]; rfl) .resync n)
    (fun p => by rw [State.point_congr pu]; exact ⟨rfl, rfl, rfl⟩)
    (fun p => by rw [State.point_congr pu, ru]; exact (h.points p).2.2) (h.entries.congr (by simp))
  · simp only [State.TimersOk, State.inState, ru]
    exact ⟨t1, t2, t3, t4, t5, by rw [syncing]; rfl, t7⟩
  · simp only [State.CountOk, ru, State.startResyncAttempt_frame]
    exact fun _ => h.count (.inr (.inl syncing))

/-! ## JOINING and SYNCING (R142, R146) -/

theorem State.enterJoining_ru (s : State) : s.enterJoining.ru =
    { s.ru with
      state := .joining, presenceTimer := some s.presenceMs, muteTimer := none, windowTimer := none, entryState := none
      roster := Vector.replicate 16 RosterRecord.absent
      joinMode := some .join, attempt := 1, attemptTimer := some (8 * s.presenceMs), ownJoin := false
      coverage := Vector.replicate 256 false, deferredExpiry := false } := by
  simp [State.enterJoining, State.startJoinAttempt_ru, State.presenceMs]

theorem State.point_enterJoining (s : State) (p : PointId) :
    s.enterJoining.point p = { s.point p with reminder := .stopped } := by
  have pu : s.enterJoining.pu = s.stopReminders.pu := by simp [State.enterJoining, State.stopReminders]
  rw [State.point_congr pu]
  exact State.point_onPoints s p _

theorem State.enterJoining_mark (s : State) : s.enterJoining.sq.returnPending = false := by
  simp [State.enterJoining, State.startJoinAttempt_mark]

theorem State.ListOk.enterJoining {flying : Option Item} {s : State} (h : s.ListOk flying []) (before : s.ru.state ≠ .leaving) :
    s.enterJoining.ListOk flying [] := by
  unfold State.enterJoining
  extract_lets s1 s2
  have entered : s1.ListOk flying [] :=
    h.restate (by simp [s1]) (by simp [s1]) (by simp [s1]) before (by simp [s1, StationState.holdsNothing])
      (fun p => by simp only [s1, State.stopReminders, State.point_onPoints]; rfl)
      fun p _ => by simp only [s1, State.stopReminders, State.point_onPoints]; rfl
  have timed : s2.startPresenceTimer.ListOk flying [] := entered.congr_blocks rfl rfl rfl rfl
  exact timed.startJoinAttempt (by simp [s2, s1, StationState.holdsNothing]) 1

theorem State.Steady.enterJoining {flying : Option Item} {s : State} (h : s.Steady flying) (quiet : s.lc.inFlight = none)
    (service : s.ru.state.outOfService = false) (before : s.ru.state ≠ .leaving) : s.enterJoining.Settled flying := by
  have ru := s.enterJoining_ru
  have kept := h.marks.refusal_none (State.not_refused_of_service service)
  refine h.move (by simp) (by simp) quiet service (h.port.congr (by simp) (by simp))
    (h.roster.cleared (by simp) (by rw [ru])) ?_ ?_ (h.list.enterJoining before)
    (fun p => by rw [State.point_enterJoining]; exact ⟨rfl, rfl, rfl⟩)
    (fun p => by rw [State.point_enterJoining]; rfl) (.cleared (by simp [State.enterJoining, State.startJoinAttempt_et]))
  · simp [State.TimersOk, State.inState, ru, kept, State.enterJoining_mark, StationState.announces, StationState.attempts]
  · simp [State.CountOk, ru]

theorem State.enterSyncing_ru (s : State) : s.enterSyncing.ru =
    { s.ru with
      state := .syncing, presenceTimer := some s.presenceMs, muteTimer := none, windowTimer := none, entryState := none
      joinMode := some .resync, attempt := 1, attemptTimer := some (8 * s.presenceMs), ownJoin := false
      coverage := Vector.replicate 256 false, deferredExpiry := false } := by
  simp [State.enterSyncing, State.startResyncAttempt_ru, State.presenceMs]

theorem State.enterSyncing_pu (s : State) : s.enterSyncing.pu = s.stopReminders.pu := by
  have removed : ((s.enter .syncing).removeItems ItemKind.leftAtSyncing).pu = s.pu :=
    (State.removeItems_pu_of_not fun _ => rfl).trans (by simp)
  simp [State.enterSyncing, State.stopReminders, removed]

theorem State.point_enterSyncing (s : State) (p : PointId) :
    s.enterSyncing.point p = { s.point p with reminder := .stopped } := by
  rw [State.point_congr s.enterSyncing_pu]
  exact State.point_onPoints s p _

theorem State.enterSyncing_mark (s : State) : s.enterSyncing.sq.returnPending = false := by
  simp [State.enterSyncing, State.startResyncAttempt, State.startAttempt_mark]

theorem State.pushed_enterSyncing (s : State) : s.Pushed s.enterSyncing (s.removalOutcomes ItemKind.leftAtSyncing) := by
  have entered : s.Pushed (s.enter .syncing) [] := .nothing rfl rfl
  have removed := entered.trans (State.pushed_removeItems (s.enter .syncing) ItemKind.leftAtSyncing)
  have same : (s.enter .syncing).removalOutcomes ItemKind.leftAtSyncing = s.removalOutcomes ItemKind.leftAtSyncing := rfl
  exact ⟨by simp, by simpa [State.enterSyncing, same] using removed.lp⟩

theorem State.ListOk.enterSyncing {flying : Option Item} {s : State} (h : s.ListOk flying []) (before : s.ru.state ≠ .leaving) :
    s.enterSyncing.ListOk flying [] := by
  have entered : (s.enter .syncing).ListOk flying [] :=
    h.restate (by simp) (by simp) (by simp) before (by simp [StationState.holdsNothing]) (fun _ => rfl) fun _ _ => rfl
  have removed : ((s.enter .syncing).removeItems ItemKind.leftAtSyncing).ListOk flying [] := by
    refine entered.filter (fun x => !x.kind.leftAtSyncing) (by simp) (fun x _ point => ?_) (by simp) (by simp) (by simp)
      (State.removeItems_pu_of_not fun _ => rfl)
    cases kind : x.kind <;> simp_all [ItemKind.isPoint, ItemKind.leftAtSyncing]
  unfold State.enterSyncing
  extract_lets s1 s2
  have stopped : s1.ListOk flying [] :=
    State.ListOk.onPoints (removed.congr_blocks (t := State.stopRuTimers _) rfl rfl rfl rfl) (fun _ _ => rfl) fun _ _ => rfl
  have timed : s2.startPresenceTimer.ListOk flying [] := stopped.congr_blocks rfl rfl rfl rfl
  exact timed.startAttempt (by simp [s2, s1, StationState.holdsNothing]) .resync 1

theorem State.Steady.enterSyncing {flying : Option Item} {s : State} (h : s.Steady flying) (quiet : s.lc.inFlight = none)
    (service : s.ru.state.outOfService = false) (before : s.ru.state ≠ .leaving) (valid : s.et.countValid = true) :
    s.enterSyncing.Settled flying := by
  have ru := s.enterSyncing_ru
  have kept := h.marks.refusal_none (State.not_refused_of_service service)
  refine h.move (by simp) (by simp) quiet service (s.pushed_enterSyncing.portOk h.port)
    (h.roster.congr (by rw [ru]) (by simp)) ?_ ?_ (h.list.enterSyncing before)
    (fun p => by rw [State.point_enterSyncing]; exact ⟨rfl, rfl, rfl⟩)
    (fun p => by rw [State.point_enterSyncing]; rfl) (h.entries.congr (by simp))
  · simp [State.TimersOk, State.inState, ru, kept, State.enterSyncing_mark, StationState.announces, StationState.attempts]
  · simp [State.CountOk, valid]

end Sys2Proof.Machine
end

section
/-! PROOF. The changes of own state to LISTENING, MEMBER and LEAVING (R125, R127, R128, R143, R148, R156). -/

namespace Sys2Proof.Machine

/-! ## LISTENING (R128, R148) -/

theorem State.fallToListening_ru (s : State) : s.fallToListening.ru =
    { s.ru with
      state := .listening, presenceTimer := none, muteTimer := none, windowTimer := some (4 * s.presenceMs)
      attemptTimer := none, deferredExpiry := false
      roster := vmap (fun _ x => { x with silence := none }) s.ru.roster } := by
  simp [State.fallToListening, State.presenceMs]

theorem State.fallToListening_sq (s : State) : s.fallToListening.sq = { s.sq with items := [], returnPending := false } := by
  simp [State.fallToListening]

theorem State.point_fallToListening {s : State}
    (points : ∀ p : PointId, s.countItems (ItemKind.isPointOf p) = if (s.point p).queued then 1 else 0) (p : PointId) :
    s.fallToListening.point p = { s.point p with queued := false, reminder := .stopped } := by
  have removed : ((s.enter .listening).removeItems fun _ => true).point p = { s.point p with queued := false } :=
    State.point_removeItems_of_all (s := s.enter .listening) points (fun _ => rfl) p
  have stopped : s.fallToListening.pu = ((s.enter .listening).removeItems fun _ => true).stopReminders.pu := by
    simp [State.fallToListening, State.stopReminders]
  rw [State.point_congr stopped, State.stopReminders, State.point_onPoints, removed]

theorem State.pushed_fallToListening (s : State) : s.Pushed s.fallToListening (s.removalOutcomes fun _ => true) := by
  have entered : s.Pushed (s.enter .listening) [] := .nothing rfl rfl
  have removed := entered.trans (State.pushed_removeItems (s.enter .listening) fun _ => true)
  have same : ((s.enter .listening).removalOutcomes fun _ => true) = s.removalOutcomes fun _ => true := rfl
  exact ⟨by simp, by simpa [State.fallToListening, same] using removed.lp⟩

theorem State.Steady.fallToListening {flying : Option Item} {s : State} (h : s.Steady flying) (quiet : s.lc.inFlight = none)
    (syncing : s.ru.state = .syncing) : s.fallToListening.Settled flying := by
  have ru := s.fallToListening_ru
  have sq := s.fallToListening_sq
  have point := State.point_fallToListening h.list.points
  have kept := h.marks.refusal_none (by rw [syncing]; exact fun no => nomatch no)
  have unmuted := h.marks.entryState_none (by rw [syncing]; exact fun no => nomatch no)
  refine h.move (by simp) (by simp) quiet (by rw [syncing]; rfl) (s.pushed_fallToListening.portOk h.port)
    (h.roster.silenced (by simp) (by rw [ru])) ?_ ?_ (h.list.of_empty (by rw [sq]) (by rw [sq]) fun p => by rw [point])
    (fun p => by rw [point]; exact ⟨rfl, rfl, rfl⟩) (fun p => by rw [point]; rfl) (h.entries.congr (by simp))
  · simp [State.TimersOk, State.inState, ru, sq, kept, unmuted, StationState.announces, StationState.attempts]
  · simp [State.CountOk, ru, unmuted]

theorem State.startStation_ru (s : State) : s.startStation.ru =
    { s.ru with
      state := .listening, presenceTimer := none, muteTimer := none, windowTimer := some (4 * s.presenceMs)
      attemptTimer := none, deferredExpiry := false, refusal := none, entryState := none, doubtful := false
      roster := Vector.replicate 16 RosterRecord.absent
      joinMode := none, attempt := 0, ownJoin := false, coverage := Vector.replicate 256 false } := by
  simp [State.startStation, State.presenceMs]

theorem State.startStation_sq (s : State) : s.startStation.sq = { s.sq with items := [], returnPending := false } := by
  simp [State.startStation]

theorem State.startStation_et (s : State) : s.startStation.et =
    { s.et with table := Vector.replicate 256 Entry.pristine, countValid := false } := by
  simp [State.startStation]

theorem State.startStation_lc (s : State) : s.startStation.lc = { s.lc with vetoCount := 0 } := by
  simp [State.startStation]

theorem State.point_startStation {s : State}
    (points : ∀ p : PointId, s.countItems (ItemKind.isPointOf p) = if (s.point p).queued then 1 else 0) (p : PointId) :
    s.startStation.point p = { s.point p with queued := false } := by
  have removed : ((s.enter .listening).removeItems fun _ => true).point p = { s.point p with queued := false } :=
    State.point_removeItems_of_all (s := s.enter .listening) points (fun _ => rfl) p
  have pu : s.startStation.pu = ((s.enter .listening).removeItems fun _ => true).pu := by simp [State.startStation]
  rw [State.point_congr pu, removed]

theorem State.pushed_startStation (s : State) : s.Pushed s.startStation (s.removalOutcomes fun _ => true) := by
  have entered : s.Pushed (s.enter .listening) [] := .nothing rfl rfl
  have removed := entered.trans (State.pushed_removeItems (s.enter .listening) fun _ => true)
  have same : ((s.enter .listening).removalOutcomes fun _ => true) = s.removalOutcomes fun _ => true := rfl
  exact ⟨by simp, by simpa [State.startStation, same] using removed.lp⟩

/-- Out of service a reminder timer is stopped (R40). -/
theorem ReminderTimer.stopped_of_okIn {r : ReminderTimer} {st : StationState} (h : r.okIn st = true)
    (member : st ≠ .member) (muted : st ≠ .muted) : r = .stopped := by
  cases r with
  | stopped => rfl
  | running n => exact absurd (eq_of_beq h) member
  | held n => exact absurd (eq_of_beq h) muted

theorem StationState.sends_of_outOfService {st : StationState} (out : st.outOfService = true) : st.sends = false := by
  cases st <;> first | rfl | exact nomatch out

/-- Nothing is in flight in a state that does not send. -/
theorem State.LineOk.quiet_of {s : State} (h : s.LineOk) (silent : s.ru.state.sends = false) : s.lc.inFlight = none := by
  obtain ⟨-, flight, -⟩ := h
  by_contra some
  have := flight (Option.isSome_iff_ne_none.2 some)
  rw [silent] at this
  exact nomatch this

theorem State.Steady.startStation {flying : Option Item} {s : State} (h : s.Steady flying) (may : s.mayStart = true) :
    s.startStation.Settled flying := by
  simp only [State.mayStart, Bool.and_eq_true] at may
  obtain ⟨⟨out, -⟩, setup⟩ := may
  have ru := s.startStation_ru
  have sq := s.startStation_sq
  have lc := s.startStation_lc
  have point := State.point_startStation h.list.points
  refine ⟨s.pushed_startStation.portOk h.port, h.roster.cleared (by simp) (by rw [ru]), ?_,
    h.config.congr (by simp) (by rw [lc]) fun _ => setup,
    h.line.quiet (by rw [lc]) (by rw [lc]; exact Nat.zero_lt_succ 7)
      (h.line.quiet_of (StationState.sends_of_outOfService out)), ?_,
    h.list.of_empty (by rw [sq]) (by rw [sq]) fun p => by rw [point], h.points.requalified (fun p => ?_) (fun p => ?_),
    .cleared (by rw [State.startStation_et])⟩
  · simp [State.TimersOk, State.inState, ru, sq, StationState.announces, StationState.attempts]
  · simp [State.CountOk, ru]
  · rw [point]
    exact ⟨rfl, rfl, rfl⟩
  · have stopped := ReminderTimer.stopped_of_okIn (h.points p).2.2 (by intro st; rw [st] at out; exact nomatch out)
      (by intro st; rw [st] at out; exact nomatch out)
    rw [point]
    simp [stopped, ReminderTimer.okIn]

/-! ## LEAVING (R120, R125) -/

theorem State.startLeaving_ru (s : State) (c : LeaveCause) : (s.startLeaving c).ru =
    { s.ru with
      state := .leaving, presenceTimer := none, muteTimer := none, windowTimer := none, attemptTimer := none
      deferredExpiry := false, joinMode := none, entryState := none } := by
  simp [State.startLeaving]

theorem State.startLeaving_mark (s : State) (c : LeaveCause) : (s.startLeaving c).sq.returnPending = false := by
  simp [State.startLeaving]

theorem State.point_startLeaving {s : State}
    (points : ∀ p : PointId, s.countItems (ItemKind.isPointOf p) = if (s.point p).queued then 1 else 0) (c : LeaveCause)
    (p : PointId) : (s.startLeaving c).point p = { s.point p with queued := false, reminder := .stopped } := by
  have removed : (s.removeItems ItemKind.leftAtLeave).point p = { s.point p with queued := false } :=
    State.point_removeItems_of_all points (fun _ => rfl) p
  have pu : (s.startLeaving c).pu = (s.removeItems ItemKind.leftAtLeave).stopReminders.pu := by
    simp [State.startLeaving, State.stopReminders]
  rw [State.point_congr pu, State.stopReminders, State.point_onPoints, removed]

theorem State.pushed_startLeaving (s : State) (c : LeaveCause) :
    s.Pushed (s.startLeaving c) (s.removalOutcomes ItemKind.leftAtLeave) := by
  have removed := State.pushed_removeItems s ItemKind.leftAtLeave
  exact ⟨by simp, by simpa [State.startLeaving] using removed.lp⟩

theorem State.ListOk.startLeaving {flying : Option Item} {s : State} (h : s.ListOk flying []) (before : s.ru.state ≠ .leaving)
    (c : LeaveCause) : (s.startLeaving c).ListOk flying [] := by
  unfold State.startLeaving
  extract_lets s1 s2
  have items : s2.sq.items = s.sq.items.filter fun x => !x.kind.leftAtLeave := by simp [s2, s1]
  have none_left : s2.countItems ItemKind.isLeave = 0 := by
    have := h.leave
    rw [if_neg (by simpa [State.inState_iff] using before)] at this
    have fewer : s2.countItems ItemKind.isLeave ≤ s.countItems ItemKind.isLeave := by
      simp only [State.countItems, items]
      exact List.filter_sublist.countP_le
    omega
  have point : ∀ p, s2.point p = { s.point p with queued := false, reminder := .stopped } := by
    intro p
    have pu : s2.pu = (s.removeItems ItemKind.leftAtLeave).stopReminders.pu := by simp [s2, s1, State.stopReminders]
    rw [State.point_congr pu, State.stopReminders, State.point_onPoints,
      State.point_removeItems_of_all h.points fun _ => rfl]
  have left : s2.ListOk flying [] := by
    refine h.remove (items ▸ List.filter_sublist) (by simp [s2, s1]) (by simp [s2, s1]) ?_ ?_ (fun p => ?_)
      (fun p _ => by rw [point])
    · intro hold
      simp [s2, s1, StationState.holdsNothing] at hold
    · rw [none_left]
      exact Nat.zero_le _
    · rw [point, State.countItems, items]
      simp only [Bool.false_eq_true, if_false, List.countP_eq_zero, List.mem_filter]
      rintro x ⟨-, stays⟩ point
      cases kind : x.kind <;> simp_all [ItemKind.isPointOf, ItemKind.leftAtLeave]
  exact left.enqueue ⟨none_left, by simp [s2, s1]⟩ (by simp [s2, s1, StationState.holdsNothing]) rfl

theorem State.Steady.startLeaving {flying : Option Item} {s : State} (h : s.Steady flying)
    (service : s.ru.state.outOfService = false) (before : s.ru.state ≠ .leaving) (c : LeaveCause) :
    (s.startLeaving c).Settled flying := by
  have ru := s.startLeaving_ru c
  have lc : (s.startLeaving c).lc = s.lc := by simp
  have kept := h.marks.refusal_none (State.not_refused_of_service service)
  have point := State.point_startLeaving h.list.points c
  obtain ⟨-, -, -, setup⟩ := h.config
  obtain ⟨l1, -, l3, l4, few⟩ := h.line
  refine ⟨(s.pushed_startLeaving c).portOk h.port, h.roster.congr (by rw [ru]) (by simp), ?_,
    h.config.congr (by simp) (by rw [lc]) fun _ => setup service, ?_, ?_, h.list.startLeaving before c,
    h.points.requalified (fun p => ?_) (fun p => ?_), h.entries.congr (by simp)⟩
  · simp [State.TimersOk, State.inState, ru, kept, State.startLeaving_mark, StationState.announces, StationState.attempts]
  · simp only [State.LineOk, lc, ru]
    exact ⟨l1, fun _ => rfl, l3, l4, few⟩
  · simp [State.CountOk, ru]
  · rw [point]
    exact ⟨rfl, rfl, rfl⟩
  · rw [point]
    rfl

/-! ## MEMBER (R127, R143, R156) -/

theorem State.ListOk.startReminders {flying : Option Item} {stale : List PointId} {s : State} (h : s.ListOk flying stale) :
    s.startReminders.ListOk flying stale := by
  refine h.onPoints (fun p r => ?_) fun p r => ?_ <;> split <;> rfl

theorem State.ListOk.resumeReminders {flying : Option Item} {stale : List PointId} {s : State} (h : s.ListOk flying stale) :
    s.resumeReminders.ListOk flying stale := by
  refine h.onPoints (fun p r => ?_) fun p r => ?_ <;> cases r.reminder <;> dsimp only <;> split <;> rfl

end Sys2Proof.Machine
end

section
/-! PROOF. The three ways into MEMBER: founding, completion and the clean exit from MUTED (R127, R143, R156). -/

namespace Sys2Proof.Machine

/-! ## What the parts leave alone -/

theorem State.requestPresence_mark (s : State) : s.requestPresence.sq.returnPending = s.sq.returnPending := by
  unfold State.requestPresence
  split <;> rfl

/-- A full re-announce keeps each point's levels and its reminder timer (R44). -/
theorem State.point_reannounceAll_reminder (s : State) (p : PointId) :
    (s.reannounceAll.point p).reminder = (s.point p).reminder := by
  unfold State.reannounceAll
  refine State.foldl_keeps (fun u => (u.point p).reminder) _ (fun u q => ?_) _ s
  split
  · have point : (u.queuePoint q).point p = if p = q then { u.point p with queued := true } else u.point p :=
      State.point_onPoint _ q p _
    rw [point]
    split <;> rfl
  · rfl

theorem State.point_startReminders (s : State) (p : PointId) : s.startReminders.point p =
    if s.mayRemind p then { s.point p with reminder := .running (s.reminderMs p) } else s.point p :=
  State.point_onPoints s p _

theorem State.startReminders_sameLevels (s : State) (p : PointId) : (s.point p).sameLevels (s.startReminders.point p) := by
  rw [State.point_startReminders]
  split <;> exact rfl

/-- In MEMBER the timer of a point whose timer had stopped stands stopped or runs. -/
theorem State.startReminders_okIn {s : State} {p : PointId} (stopped : (s.point p).reminder = .stopped) :
    (s.startReminders.point p).reminder.okIn .member = true := by
  rw [State.point_startReminders]
  split
  · rfl
  · rw [stopped]
    rfl

/-! ## The entry to MEMBER by founding and by completion (R39, R44, R133) -/

/-- What founding and completion end with: a PRESENCE, the presence timer, the full re-announce and the reminder timers. -/
def State.announced (s : State) : State := s.requestPresence.startPresenceTimer.reannounceAll.startReminders

theorem State.announced_frame (s : State) : s.announced.cs = s.cs ∧ s.announced.et = s.et ∧ s.announced.lc = s.lc ∧
    s.announced.ou = s.ou ∧ s.announced.lp = s.lp := by
  simp [State.announced]

theorem State.announced_ru (s : State) : s.announced.ru = { s.ru with presenceTimer := some s.presenceMs } := by
  simp [State.announced, State.presenceMs]

theorem State.announced_mark (s : State) : s.announced.sq.returnPending = s.sq.returnPending := by
  simp [State.announced, State.reannounceAll_mark, State.requestPresence_mark]

theorem State.point_announced (s : State) (p : PointId) : (s.point p).sameLevels (s.announced.point p) ∧
    ((s.point p).reminder = .stopped → (s.announced.point p).reminder.okIn .member = true) := by
  have asked : s.requestPresence.startPresenceTimer.point p = s.point p := State.point_congr (by simp) p
  rw [← asked]
  exact ⟨((State.keepsLevels_reannounceAll _).levels p).trans (State.startReminders_sameLevels _ p),
    fun stopped => State.startReminders_okIn (by rw [State.point_reannounceAll_reminder, stopped])⟩

theorem State.ListOk.announced {flying : Option Item} {s : State} (h : s.ListOk flying [])
    (listed : s.ru.state.holdsNothing = false) : s.announced.ListOk flying [] := by
  have asked : s.requestPresence.startPresenceTimer.ListOk flying [] :=
    (h.requestPresence listed).congr_blocks (by simp) (by simp) (by simp) (by simp)
  exact (asked.reannounceAll (by simpa using listed)).startReminders

/-! ## Founding (R143) -/

/-- The founding station at its entry to MEMBER. -/
def State.founded (s : State) : State :=
  let s := s.clearTable.clearRoster
  let s := s.onEt fun t => { t with lineCount := 0, countValid := true }
  let s := s.onRecord s.own fun r => { r with state := .present }
  (s.enter .member).stopRuTimers.clearJoinState

theorem State.found_eq (s : State) : s.found = s.founded.announced.onOu fun o => { o with silenceMark := 0 } := rfl

theorem State.founded_frame (s : State) : s.founded.cs = s.cs ∧ s.founded.pu = s.pu ∧ s.founded.lc = s.lc ∧
    s.founded.lp = s.lp := by
  simp [State.founded]

theorem State.founded_ru (s : State) : s.founded.ru =
    { s.ru with
      state := .member, presenceTimer := none, muteTimer := none, windowTimer := none, attemptTimer := none
      deferredExpiry := false
      roster := vset (Vector.replicate 16 RosterRecord.absent) s.own { RosterRecord.absent with state := .present }
      joinMode := none, attempt := 0, ownJoin := false, coverage := Vector.replicate 256 false } := by
  simp [State.founded, State.own]

theorem State.founded_et (s : State) : s.founded.et =
    { s.et with table := Vector.replicate 256 Entry.pristine, lineCount := 0, countValid := true } := by
  simp [State.founded]

theorem State.founded_sq (s : State) : s.founded.sq = s.sq := by
  simp [State.founded]

theorem State.found_ru (s : State) : s.found.ru =
    { s.ru with
      state := .member, presenceTimer := some s.presenceMs, muteTimer := none, windowTimer := none, attemptTimer := none
      deferredExpiry := false
      roster := vset (Vector.replicate 16 RosterRecord.absent) s.own { RosterRecord.absent with state := .present }
      joinMode := none, attempt := 0, ownJoin := false, coverage := Vector.replicate 256 false } := by
  rw [State.found_eq, State.onOu_ru, State.announced_ru, State.founded_ru, State.presenceMs_congr s.founded_frame.1]

theorem State.found_et (s : State) : s.found.et =
    { s.et with table := Vector.replicate 256 Entry.pristine, lineCount := 0, countValid := true } := by
  rw [State.found_eq, State.onOu_et, s.founded.announced_frame.2.1, State.founded_et]

theorem State.found_pu (s : State) : s.found.pu = s.founded.announced.pu := by
  rw [State.found_eq, State.onOu_pu]

/-- Between LISTENING and MEMBER the founding changes nothing of a point but for its re-announcement and its timer. -/
theorem State.point_found (s : State) (p : PointId) : (s.point p).sameLevels (s.found.point p) ∧
    ((s.point p).reminder = .stopped → (s.found.point p).reminder.okIn .member = true) := by
  rw [State.point_congr s.found_pu, ← State.point_congr s.founded_frame.2.1]
  exact s.founded.point_announced p

theorem State.ListOk.found {flying : Option Item} {s : State} (h : s.ListOk flying []) (before : s.ru.state ≠ .leaving) :
    s.found.ListOk flying [] := by
  obtain ⟨cs, pu, -, -⟩ := s.founded_frame
  have listed : s.founded.ru.state.holdsNothing = false := by
    rw [State.founded_ru]
    rfl
  have entered : s.founded.ListOk flying [] :=
    h.restate (by rw [State.founded_sq]) (by rw [State.founded_sq]) cs before listed
      (fun p => by rw [State.point_congr pu]) fun p _ => by rw [State.point_congr pu]
  rw [State.found_eq]
  exact (entered.announced listed).congr_blocks (by simp) (by simp) (by simp) (by simp)

theorem State.Steady.found {flying : Option Item} {s : State} (h : s.Steady flying) (quiet : s.lc.inFlight = none)
    (listening : s.ru.state = .listening) : s.found.Settled flying := by
  have ru := s.found_ru
  have et := s.found_et
  have kept := h.marks.refusal_none (by rw [listening]; exact fun no => nomatch no)
  have unmuted := h.marks.entryState_none (by rw [listening]; exact fun no => nomatch no)
  have stopped := fun p => ReminderTimer.stopped_of_okIn (h.points p).2.2 (by rw [listening]; exact fun no => nomatch no)
    (by rw [listening]; exact fun no => nomatch no)
  have present : ∀ own, ({ RosterRecord.absent with state := .present } : RosterRecord).Ok own := fun _ _ => ⟨rfl, rfl⟩
  refine h.move (by simp) (by simp) quiet (by rw [listening]; rfl) (h.port.congr (by simp) (by simp))
    (h.roster.of_records (by simp) fun u _ => ?_) ?_ (fun _ => by rw [et]) (h.list.found (by rw [listening]; exact fun no => nomatch no))
    (fun p => (s.point_found p).1.sameQualification)
    (fun p => by rw [ru]; exact (s.point_found p).2 (stopped p)) (.cleared (by rw [et]))
  · simp only [State.record, ru, Fin.getElem_fin, vset_get, Vector.getElem_replicate]
    split
    · exact present _
    · exact .absent _
  · simp [State.TimersOk, State.inState, ru, kept, unmuted, StationState.announces, StationState.attempts]

/-! ## Completion (R45, R156, R157) -/

theorem State.adoptRoster_ru (s : State) (p : PresencePayload) : (s.adoptRoster p).ru =
    { s.ru with
      roster := vmap (fun t x => if t = s.own then x else x.become (carriedState p t) false s.presenceMs) s.ru.roster } := rfl

/-- A completing station that has adopted the roster and the occurrences, at its entry to MEMBER. -/
def State.completed (s : State) : State :=
  let s := s.onOu fun o => { o with silenceMark := s.et.lineCount }
  let s := (s.enter .member).stopRuTimers.clearJoinState
  s.withdraw ItemKind.isJoin

theorem State.completed_frame (s : State) : s.completed.cs = s.cs ∧ s.completed.et = s.et ∧ s.completed.pu = s.pu ∧
    s.completed.lc = s.lc ∧ s.completed.lp = s.lp := by
  simp [State.completed]

theorem State.completed_ru (s : State) : s.completed.ru =
    { s.ru with
      state := .member, presenceTimer := none, muteTimer := none, windowTimer := none, attemptTimer := none
      deferredExpiry := false, joinMode := none, attempt := 0, ownJoin := false, coverage := Vector.replicate 256 false } := by
  simp [State.completed]

theorem State.completed_mark (s : State) : s.completed.sq.returnPending = s.sq.returnPending := by
  simp [State.completed]

theorem State.ListOk.completed {flying : Option Item} {s : State} (h : s.ListOk flying []) (before : s.ru.state ≠ .leaving) :
    s.completed.ListOk flying [] := by
  refine State.ListOk.withdraw (h.restate (by simp) (by simp) (by simp) before (by simp [StationState.holdsNothing])
    (fun p => ?_) fun p _ => ?_) fun _ => rfl
  · rw [State.point_congr (s := s) (by simp)]
  · rw [State.point_congr (s := s) (by simp)]

/-- The adoptions of a completion (R45, R157). -/
def State.adopted (s : State) (p : PresencePayload) : State := (s.adoptRoster p).adoptOccurrences

theorem State.complete_eq (s : State) (p : PresencePayload) :
    s.complete p = (s.adopted p).completed.announced.push (.tableLoaded (s.adopted p).completed.announced.et.lineCount) := by
  simp only [State.complete, State.adopted, State.completed, State.announced]

theorem State.adopted_frame (s : State) (p : PresencePayload) : (s.adopted p).cs = s.cs ∧ (s.adopted p).et = s.et ∧
    (s.adopted p).ru = (s.adoptRoster p).ru ∧ (s.adopted p).lc = s.lc ∧ (s.adopted p).lp = s.lp := by
  simp [State.adopted]

theorem State.complete_ru (s : State) (p : PresencePayload) : (s.complete p).ru =
    { s.ru with
      state := .member, presenceTimer := some s.presenceMs, muteTimer := none, windowTimer := none, attemptTimer := none
      deferredExpiry := false
      roster := vmap (fun t x => if t = s.own then x else x.become (carriedState p t) false s.presenceMs) s.ru.roster
      joinMode := none, attempt := 0, ownJoin := false, coverage := Vector.replicate 256 false } := by
  obtain ⟨cs, -, ru, -⟩ := s.adopted_frame p
  obtain ⟨cs', -⟩ := (s.adopted p).completed_frame
  rw [State.complete_eq, (State.push_frame _ _).2.2.1, State.announced_ru, State.completed_ru, ru, State.adoptRoster_ru,
    State.presenceMs_congr (cs'.trans cs)]

theorem State.adoptOccurrences_mark (s : State) : s.adoptOccurrences.sq.returnPending = s.sq.returnPending := by
  unfold State.adoptOccurrences
  exact State.foldl_keeps (fun u => u.sq.returnPending) State.reclassPoint (fun _ _ => rfl) _ _

/-- Occurrence adoption leaves a point's qualification and its reminder timer (R45). -/
theorem adoptOccurrence_qualification (e : Entry) (r : PointRecord) :
    r.sameQualification (adoptOccurrence e r) ∧ (adoptOccurrence e r).reminder = r.reminder := by
  unfold adoptOccurrence
  dsimp only [PointRecord.sameQualification]
  (repeat' split) <;> simp

theorem State.point_adoptOccurrences (s : State) (p : PointId) : s.adoptOccurrences.point p =
    if s.pointUsed p && !(s.ownEntry p).isPristine then adoptOccurrence (s.ownEntry p) (s.point p) else s.point p := by
  rw [State.adoptOccurrences, State.point_congr (State.reclassAll_pu _ _), State.point_onPoints]

theorem State.complete_pu (s : State) (p : PresencePayload) : (s.complete p).pu = (s.adopted p).completed.announced.pu := by
  rw [State.complete_eq, (State.push_frame _ _).2.2.2.1]

theorem State.point_adopted (s : State) (q : PresencePayload) (p : PointId) :
    (s.point p).sameQualification ((s.adopted q).point p) ∧ ((s.adopted q).point p).reminder = (s.point p).reminder := by
  have roster : (s.adoptRoster q).point p = s.point p := State.point_congr (by simp) p
  rw [State.adopted, State.point_adoptOccurrences, roster]
  split
  · exact adoptOccurrence_qualification _ _
  · exact ⟨⟨rfl, rfl, rfl⟩, rfl⟩

/-- Between an attempt and MEMBER the completion leaves each point's qualification. -/
theorem State.point_complete (s : State) (q : PresencePayload) (p : PointId) :
    (s.point p).sameQualification ((s.complete q).point p) ∧
      ((s.point p).reminder = .stopped → ((s.complete q).point p).reminder.okIn .member = true) := by
  obtain ⟨⟨h1, h2, h3⟩, reminder⟩ := s.point_adopted q p
  obtain ⟨levels, timer⟩ := (s.adopted q).completed.point_announced p
  rw [State.point_congr (s.adopted q).completed_frame.2.2.1] at levels timer
  obtain ⟨l1, l2, l3⟩ := levels.sameQualification
  rw [State.point_congr (s.complete_pu q)]
  exact ⟨⟨l1.trans h1, l2.trans h2, l3.trans h3⟩, fun stopped => timer (reminder.trans stopped)⟩

theorem State.ListOk.complete {flying : Option Item} {s : State} (h : s.ListOk flying []) (before : s.ru.state ≠ .leaving)
    (q : PresencePayload) : (s.complete q).ListOk flying [] := by
  have roster : (s.adoptRoster q).ListOk flying [] :=
    h.congr_blocks (by simp) (by simp [State.adoptRoster_ru]) (by simp) (by simp)
  have adopted : (s.adopted q).ListOk flying [] := roster.adoptOccurrences
  have state : (s.adopted q).ru.state ≠ .leaving := by
    rw [(s.adopted_frame q).2.2.1]
    exact before
  rw [State.complete_eq]
  exact ((adopted.completed state).announced (by rw [State.completed_ru]; rfl)).push _

theorem State.pushed_complete (s : State) (q : PresencePayload) :
    s.Pushed (s.complete q) [.tableLoaded s.et.lineCount] := by
  obtain ⟨cs, et, -, -, lp⟩ := s.adopted_frame q
  obtain ⟨cs', et', -, -, lp'⟩ := (s.adopted q).completed_frame
  obtain ⟨cs'', et'', -, -, lp''⟩ := (s.adopted q).completed.announced_frame
  have before : s.Pushed (s.adopted q).completed.announced [] :=
    .nothing (cs''.trans (cs'.trans cs)) (lp''.trans (lp'.trans lp))
  rw [State.complete_eq, et'', et', et]
  exact before.trans (State.pushed_push _ _)

theorem State.Steady.complete {flying : Option Item} {s : State} (h : s.Steady flying) (quiet : s.lc.inFlight = none)
    (attempts : s.ru.state.attempts = true) (valid : s.et.countValid = true) (q : PresencePayload) :
    (s.complete q).Settled flying := by
  have other : ∀ st : StationState, st.attempts = false → s.ru.state ≠ st := fun st no same => by
    rw [same, no] at attempts
    exact nomatch attempts
  have ru := s.complete_ru q
  have kept := h.marks.refusal_none (other _ rfl)
  have unmuted := h.marks.entryState_none (other _ rfl)
  have service : s.ru.state.outOfService = false := by
    cases st : s.ru.state <;> first | rfl | exact absurd st (other _ rfl)
  have stopped := fun p => ReminderTimer.stopped_of_okIn (h.points p).2.2 (other _ rfl) (other _ rfl)
  refine h.move (by simp) (by simp) quiet service ((s.pushed_complete q).portOk h.port)
    (h.roster.of_records (by simp) fun u ok => ?_) ?_ (fun _ => by simpa using valid) (h.list.complete (other _ rfl) q)
    (fun p => (s.point_complete q p).1) (fun p => by rw [ru]; exact (s.point_complete q p).2 (stopped p))
    (h.entries.congr (by simp))
  · simp only [State.record, ru, Fin.getElem_fin, vmap_get]
    split
    · exact ok
    · rename_i peer
      have : (u == s.own) = false := by simpa using peer
      rw [this] at ok ⊢
      exact ok.become _ _
  · simp [State.TimersOk, State.inState, ru, kept, unmuted, StationState.announces, StationState.attempts]

/-! ## The clean exit from MUTED (R39, R44, R114, R127) -/

/-- The clean exit up to the items that it keeps. -/
def State.returning (s : State) : State :=
  let s := s.enter .member
  let s := s.onRu fun r => { r with entryState := none, muteTimer := none }
  s.onSq fun q => { q with returnPending := true }

/-- The items of a reference's duties that the clean exit withdraws (R139, R152). -/
def State.shedDuties (s : State) : State :=
  let s := if s.isOwnReference then s else s.withdraw ItemKind.isLost
  if s.sweeps then s else s.withdraw (· == .snapshot)

/-- The clean exit before the reference's duties. -/
def State.returned (s : State) : State :=
  s.returning.requestPresence.startPresenceTimer.resumeReminders.reannounceAll.shedDuties

theorem State.cleanExit_eq (old : State) : old.cleanExit = State.takeDuties old old.returned := rfl

theorem State.shedDuties_frame (s : State) : s.shedDuties.cs = s.cs ∧ s.shedDuties.et = s.et ∧ s.shedDuties.ru = s.ru ∧
    s.shedDuties.pu = s.pu ∧ s.shedDuties.lc = s.lc ∧ s.shedDuties.lp = s.lp := by
  and_intros <;> simp only [State.shedDuties] <;> (repeat' split) <;> simp

theorem State.ListOk.shedDuties {flying : Option Item} {stale : List PointId} {s : State} (h : s.ListOk flying stale) :
    s.shedDuties.ListOk flying stale := by
  unfold State.shedDuties
  extract_lets u
  have shed : u.ListOk flying stale := by
    simp only [u]
    split
    · exact h
    · exact h.withdraw fun _ => rfl
  split
  · exact shed
  · exact shed.withdraw fun _ => rfl

theorem State.returned_frame (s : State) : s.returned.cs = s.cs ∧ s.returned.et = s.et ∧ s.returned.lc = s.lc ∧
    s.returned.lp = s.lp := by
  simp [State.returned, State.returning, State.shedDuties_frame]

theorem State.returned_ru (s : State) : s.returned.ru =
    { s.ru with state := .member, entryState := none, muteTimer := none, presenceTimer := some s.presenceMs } := by
  simp [State.returned, State.returning, State.shedDuties_frame, State.presenceMs]

theorem State.point_resumeReminders_okIn (s : State) (p : PointId) :
    (s.point p).sameLevels (s.resumeReminders.point p) ∧ (s.resumeReminders.point p).reminder.okIn .member = true := by
  rw [State.resumeReminders, State.point_onPoints]
  cases timer : (s.point p).reminder with
  | stopped =>
    dsimp only
    split
    · exact ⟨rfl, rfl⟩
    · rw [timer]
      exact ⟨rfl, rfl⟩
  | running n => exact ⟨rfl, rfl⟩
  | held n => exact ⟨rfl, rfl⟩

theorem State.point_returned (s : State) (p : PointId) : (s.point p).sameLevels (s.returned.point p) ∧
    (s.returned.point p).reminder.okIn .member = true := by
  have start : s.returning.requestPresence.startPresenceTimer.point p = s.point p :=
    State.point_congr (by simp [State.returning]) p
  obtain ⟨levels, timer⟩ := State.point_resumeReminders_okIn s.returning.requestPresence.startPresenceTimer p
  rw [State.returned, State.point_congr (State.shedDuties_frame _).2.2.2.1, ← start]
  refine ⟨levels.trans ((State.keepsLevels_reannounceAll _).levels p), ?_⟩
  rw [State.point_reannounceAll_reminder]
  exact timer

theorem State.ListOk.returned {flying : Option Item} {s : State} (h : s.ListOk flying []) (before : s.ru.state ≠ .leaving) :
    s.returned.ListOk flying [] := by
  have listed : s.returning.ru.state.holdsNothing = false := by simp [State.returning, StationState.holdsNothing]
  have pu : s.returning.pu = s.pu := by simp [State.returning]
  have entered : s.returning.ListOk flying [] :=
    h.restate (by simp [State.returning]) (by simp [State.returning]) (by simp [State.returning]) before listed
      (fun p => by rw [State.point_congr pu]) fun p _ => by rw [State.point_congr pu]
  have asked : s.returning.requestPresence.startPresenceTimer.ListOk flying [] :=
    (entered.requestPresence listed).congr_blocks (by simp) (by simp) (by simp) (by simp)
  exact (asked.resumeReminders.reannounceAll (by simpa using listed)).shedDuties

theorem State.Settled.cleanExit {flying : Option Item} {s : State} (h : s.Settled flying) (quiet : s.lc.inFlight = none)
    (muted : s.ru.state = .muted) (from_ : s.ru.entryState = some .member) : s.cleanExit.Settled flying := by
  obtain ⟨cs, et, lc, lp⟩ := s.returned_frame
  have ru := s.returned_ru
  have kept := h.steady.marks.refusal_none (by rw [muted]; exact fun no => nomatch no)
  obtain ⟨-, t2, -, -, -, t6, -⟩ := h.timers
  have window : s.ru.windowTimer = none := by
    have : s.inState .listening = false := by simp [State.inState, muted]
    simpa [this] using t2
  have attempt : s.ru.attemptTimer = none ∧ s.ru.deferredExpiry = false := by
    simpa [muted, StationState.attempts] using t6
  rw [State.cleanExit_eq]
  refine State.Settled.takeDuties (h.steady.move cs lc quiet (by rw [muted]; rfl) (h.port.congr lp cs)
    (h.roster.congr (by rw [ru]) cs) ?_ (fun _ => ?_) (h.list.returned (by rw [muted]; exact fun no => nomatch no))
    (fun p => (s.point_returned p).1.sameQualification) (fun p => by rw [ru]; exact (s.point_returned p).2)
    (h.entries.congr (by rw [et])))
  · simp [State.TimersOk, State.inState, ru, kept, window, attempt, StationState.announces, StationState.attempts]
  · rw [et]
    exact h.count (.inr (.inr (.inl from_)))

end Sys2Proof.Machine
end

section
/-! PROOF. The ends of own attempts and of join and resync attempts, and the acceptance of a frame: each ends in a settled
state with nothing in flight (R97, R102 to R108, R126, R127, R148). -/

namespace Sys2Proof.Machine

/-! ## States with nothing in flight and no expiry left over -/

/-- A settled state with nothing in flight and no expiry to answer: the close of an event turns it into a sound one. -/
structure State.Ended (s : State) : Prop where
  settled : s.Settled none
  quiet : s.lc.inFlight = none
  answered : s.ru.deferredExpiry = false

theorem State.Ended.sound_close {s old : State} (h : s.Ended) : (State.close old s).Sound := by
  refine State.Settled.sound_close ?_ ?_
  · rw [h.quiet]
    exact h.settled
  · simp [State.DeferralOk, h.answered]

/-- Only the Output Unit, the reply of the port, the waiting commands or the free values have changed. -/
theorem State.Settled.congr_blocks {flying : Option Item} {s t : State} (h : s.Settled flying) (cs : t.cs = s.cs)
    (et : t.et = s.et) (ru : t.ru = s.ru) (pu : t.pu = s.pu) (sq : t.sq = s.sq) (lc : t.lc = s.lc) (port : t.PortOk) :
    t.Settled flying :=
  h.change cs (.of_eq ru) (by rw [lc]) (by rw [et]; exact id) (by rw [sq]; exact id) port
    (h.roster.congr (by rw [ru]) cs) (h.list.congr_blocks sq (by rw [ru]) cs pu) (h.points.congr pu (by rw [ru]))
    (h.entries.congr (by rw [et]))

/-! ## The end of a join or resync attempt (R148) -/

theorem State.attemptFailed_lc (s : State) : s.attemptFailed.lc.inFlight = s.lc.inFlight := by
  unfold State.attemptFailed
  (repeat' split) <;> simp [State.enterOut_lc]

theorem State.Steady.attemptFailed {s : State} (h : s.Steady none) (quiet : s.lc.inFlight = none)
    (attempts : s.ru.state.attempts = true) : s.attemptFailed.Ended := by
  have still := s.attemptFailed_lc.trans quiet
  unfold State.attemptFailed at still ⊢
  cases state : s.ru.state with
  | joining =>
    simp only [state] at still ⊢
    split at still
    · rename_i more
      rw [if_pos more]
      exact ⟨h.startJoinAttempt quiet state _, still, by rw [State.startJoinAttempt_ru]⟩
    · rename_i third
      rw [if_neg third]
      exact ⟨h.enterOut quiet (.inr ⟨rfl, rfl⟩), still, by rw [State.enterOut_ru]⟩
  | syncing =>
    simp only [state] at still ⊢
    split at still
    · rename_i more
      rw [if_pos more]
      exact ⟨h.startResyncAttempt quiet state _, still, by rw [State.startResyncAttempt_ru]⟩
    · rename_i third
      rw [if_neg third]
      exact ⟨h.fallToListening quiet state, still, by rw [State.fallToListening_ru]⟩
  | _ =>
    rw [state] at attempts
    exact nomatch attempts

theorem State.Settled.takeDeferredExpiry {s : State} (h : s.Settled none) (quiet : s.lc.inFlight = none) :
    s.takeDeferredExpiry.Ended := by
  unfold State.takeDeferredExpiry
  split
  · rename_i due
    have steady : (s.onRu fun r => { r with deferredExpiry := false }).Steady none :=
      h.steady.onAttempt s.ru.attemptTimer false
    obtain ⟨-, -, -, -, -, attempts, -⟩ := h.timers
    exact steady.attemptFailed quiet (by simpa [due] using attempts.symm)
  · rename_i no
    exact ⟨h, quiet, by simpa using no⟩

theorem State.Settled.expireAttempt {s : State} (h : s.Settled none) (quiet : s.lc.inFlight = none)
    (running : s.ru.attemptTimer.isSome = true) (answered : s.ru.deferredExpiry = false) :
    (s.onRu fun r => { r with attemptTimer := none }).attemptFailed.Ended := by
  have steady : (s.onRu fun r => { r with attemptTimer := none }).Steady none := by
    have := h.steady.onAttempt none s.ru.deferredExpiry
    exact this
  obtain ⟨-, -, -, -, -, attempts, -⟩ := h.timers
  exact steady.attemptFailed quiet (by simpa [running, answered] using attempts.symm)

/-! ## Veto exhaustion (R107, R108, R126) -/

theorem State.Settled.clearVetoes {flying : Option Item} {s : State} (h : s.Settled flying) : s.clearVetoes.Settled flying := by
  obtain ⟨l1, l2, l3, l4, -⟩ := h.line
  exact h.onLine rfl rfl rfl rfl rfl rfl ⟨l1, l2, l3, l4, Nat.zero_lt_succ 7⟩ rfl

theorem State.exhausted_lc (s : State) : s.exhausted.lc.inFlight = s.lc.inFlight := by
  unfold State.exhausted
  split <;> simp [State.enterOut_lc]

theorem State.Settled.exhausted {flying : Option Item} {s : State} (h : s.Settled flying) (quiet : s.lc.inFlight = none) :
    s.exhausted.Settled flying := by
  unfold State.exhausted
  cases state : s.ru.state with
  | member => exact h.steady.enterMuted quiet state
  | joining => exact h.steady.enterMuted quiet state
  | syncing => exact h.steady.enterMuted quiet state
  | leaving => exact h.steady.enterOut quiet (.inl ⟨rfl, rfl⟩)
  | _ => exact h

theorem State.countFailure_lc (s : State) : s.countFailure.lc.inFlight = s.lc.inFlight := by
  unfold State.countFailure
  split
  · rfl
  · rw [State.exhausted_lc]
    rfl

theorem State.Settled.countFailure {flying : Option Item} {s : State} (h : s.Settled flying) (quiet : s.lc.inFlight = none) :
    s.countFailure.Settled flying := by
  unfold State.countFailure
  split
  · rename_i few
    obtain ⟨l1, l2, l3, l4, -⟩ := h.line
    exact h.onLine rfl rfl rfl rfl rfl rfl ⟨l1, l2, l3, l4, few⟩ rfl
  · exact h.clearVetoes.exhausted quiet

/-! ## Own attempts that fail (R97, R104, R105, R120) -/

/-- The OUTCOME of a claim or purge whose item a LEAVE command had removed (R57, R120). -/
def State.failureOutcome (s : State) (x : Item) : List Record :=
  if s.sq.items.any fun y => y.age == x.age then [] else (withdrawnRecord x).toList

theorem State.pushed_reportFailed (s : State) (x : Item) : s.Pushed (s.reportFailed x) (s.failureOutcome x) := by
  unfold State.reportFailed State.failureOutcome
  split
  · exact .refl s
  · unfold withdrawnRecord
    cases x.kind with
    | claim i n => exact State.pushed_push s _
    | purge o => exact State.pushed_push s _
    | _ => exact .refl s

theorem State.Settled.reportFailed {flying : Option Item} {s : State} (h : s.Settled flying) (x : Item) :
    (s.reportFailed x).Settled flying :=
  h.pushed (s.pushed_reportFailed x) (by simp) (by simp) (by simp) (by simp) (by simp)

theorem State.Settled.failAttempt {s : State} (h : s.Settled none) (quiet : s.lc.inFlight = none) (f : InFlight) :
    (s.failAttempt f).Ended := by
  have reported : (s.reportFailed f.item).lc.inFlight = none := by simpa using quiet
  exact ((h.reportFailed f.item).countFailure reported).takeDeferredExpiry ((State.countFailure_lc _).trans reported)

/-- While a frame is in flight the receiver runs and the line is not idle (R91, R94). -/
theorem State.Settled.sending {flying : Option Item} {s : State} (h : s.Settled flying) {f : InFlight}
    (flight : s.lc.inFlight = some f) : s.lc.receiverOn = true ∧ s.lc.lineIdle = false ∧ s.lc.assembling = false := by
  obtain ⟨profile, receiver, -, service⟩ := h.config
  obtain ⟨-, sends, idle, assembling, -⟩ := h.line
  have state : s.ru.state.outOfService = false := by
    cases out : s.ru.state.outOfService with
    | false => rfl
    | true =>
      have silent := StationState.sends_of_outOfService out
      rw [sends (by rw [flight]; rfl)] at silent
      exact nomatch silent
  refine ⟨receiver.trans (profile (service state)), ?_, ?_⟩
  · by_contra yes
    have := (idle (by simpa using yes)).2.1
    rw [flight] at this
    exact nomatch this
  · by_contra yes
    have := (assembling (by simpa using yes)).1
    rw [flight] at this
    exact nomatch this

theorem State.Settled.loseArbitration {flying : Option Item} {s : State} (h : s.Settled flying) {f : InFlight}
    (flight : s.lc.inFlight = some f) : (s.loseArbitration f).Ended := by
  obtain ⟨receiver, idle, -⟩ := h.sending flight
  obtain ⟨-, -, -, -, few⟩ := h.line
  unfold State.loseArbitration
  extract_lets u v
  have lost : v.Settled flying :=
    h.onLine rfl rfl rfl rfl rfl rfl ⟨by simp [v, u], by simp [v, u], by simp [v, u, idle], by simp [v, u, receiver], few⟩ rfl
  exact (lost.landed.reportFailed f.item).takeDeferredExpiry (by simp [v, u])

theorem State.Settled.faultAsSender {flying : Option Item} {s : State} (h : s.Settled flying) {f : InFlight}
    (flight : s.lc.inFlight = some f) (n : Nat) : (s.faultAsSender f n).Ended := by
  obtain ⟨-, idle, assembling⟩ := h.sending flight
  obtain ⟨-, -, -, -, few⟩ := h.line
  unfold State.faultAsSender
  extract_lets u v
  have ltx : v.lc.ltx ≠ .frame := by
    simp only [v, State.onLc_lc]
    split <;> exact fun no => nomatch no
  have faulted : v.Settled flying :=
    h.onLine rfl rfl rfl rfl rfl rfl ⟨by simp [ltx]; simp [v, u], by simp [v, u], by simp [v, u, idle], by simp [v, u, assembling], few⟩
      rfl
  exact faulted.landed.failAttempt (by simp [v, u]) f

theorem State.Settled.ownFrameVetoed {flying : Option Item} {s : State} (h : s.Settled flying) (f : InFlight) :
    (s.ownFrameVetoed f).Ended := by
  obtain ⟨-, -, -, -, few⟩ := h.line
  unfold State.ownFrameVetoed
  extract_lets u
  have vetoed : u.endFlight.endFrame.Settled flying :=
    h.onLine rfl rfl rfl rfl rfl rfl ⟨by simp, by simp, by simp, by simp, few⟩ rfl
  exact vetoed.landed.failAttempt (by simp) f

/-! ## The exit from MUTED (R127) -/

theorem State.Settled.leaveMuted {s : State} (h : s.Settled none) (muted : s.ru.state = .muted) : s.leaveMuted.Ended := by
  have quiet := h.line.quiet_of (by rw [muted]; rfl)
  have still : s.leaveMuted.lc.inFlight = none := by simpa using quiet
  have service : s.ru.state.outOfService = false := by rw [muted]; rfl
  have before : s.ru.state ≠ .leaving := by rw [muted]; exact fun no => nomatch no
  unfold State.leaveMuted at still ⊢
  cases entry : s.ru.entryState with
  | none =>
    obtain ⟨-, -, -, stands, -⟩ := h.timers
    simp [entry, State.inState, muted] at stands
  | some e =>
    simp only [entry] at still ⊢
    cases e with
    | member =>
      dsimp only at still ⊢
      split at still
      · rename_i doubtful
        rw [if_pos doubtful]
        exact ⟨h.steady.enterSyncing quiet service before (h.count (.inr (.inr (.inl entry)))), still,
          by rw [State.enterSyncing_ru]⟩
      · rename_i clean
        rw [if_neg clean]
        have control := State.takeDuties_sameControl s s.returned
        rw [RosterUnit.sameControl] at control
        obtain ⟨-, -, -, -, -, attempts, -⟩ := h.timers
        have answered : s.ru.attemptTimer = none ∧ s.ru.deferredExpiry = false := by
          simpa [muted, StationState.attempts] using attempts
        refine ⟨h.cleanExit quiet muted entry, still, ?_⟩
        rw [State.cleanExit_eq, control, State.returned_ru]
        exact answered.2
    | joining => exact ⟨h.steady.enterJoining quiet service before, still, by rw [State.enterJoining_ru]⟩
    | syncing =>
      exact ⟨h.steady.enterSyncing quiet service before (h.count (.inr (.inr (.inr (.inl entry))))), still,
        by rw [State.enterSyncing_ru]⟩

end Sys2Proof.Machine
end

section
/-! PROOF. The whole acceptance of a frame keeps the invariants (R3, R103, R118, R135, R136, R142, R156). -/

namespace Sys2Proof.Machine

/-! ## The acceptance up to the changes of own state -/

/-- The state of an acceptance once table, roster, points and list have taken the frame, before the changes of own state. -/
def State.taken (old : State) (sender : StationId) (own : Option Item) (n : Notice) : State :=
  State.settleQueue old (State.applyFrame old ((old.takeFrame own).markOwnJoin own n) sender own n) sender own n

/-- The state of an acceptance once the changes of own state and the reference's duties are done. -/
def State.dutiful (old : State) (sender : StationId) (own : Option Item) (n : Notice) : State :=
  State.takeDuties old (State.settleMembership old (old.taken sender own n) sender own n)

theorem State.acceptFrame_own (old : State) (sender : StationId) (x : Item) (n : Notice) :
    old.acceptFrame sender (some x) n = State.close old (old.dutiful sender (some x) n).takeDeferredExpiry := rfl

theorem State.acceptFrame_foreign (old : State) (sender : StationId) (n : Notice) :
    old.acceptFrame sender none n = State.close old (old.dutiful sender none n) := rfl

/-- Own state, what MUTED remembers of it, and the deferred expiry: what an acceptance leaves until its last part. -/
def RosterUnit.sameStanding (r r' : RosterUnit) : Prop :=
  r'.state = r.state ∧ r'.entryState = r.entryState ∧ r'.deferredExpiry = r.deferredExpiry

theorem RosterUnit.sameStanding.trans {r r' r'' : RosterUnit} (h : r.sameStanding r') (h' : r'.sameStanding r'') :
    r.sameStanding r'' :=
  ⟨h'.1.trans h.1, h'.2.1.trans h.2.1, h'.2.2.trans h.2.2⟩

theorem RosterUnit.sameControl.standing {r r' : RosterUnit} (h : r.sameControl r') : r.sameStanding r' := by
  rw [RosterUnit.sameControl] at h
  rw [h]
  exact ⟨rfl, rfl, rfl⟩

theorem State.markOwnJoin_standing (s : State) (own : Option Item) (n : Notice) :
    s.ru.sameStanding (s.markOwnJoin own n).ru := by
  unfold State.markOwnJoin
  split
  · split <;> exact ⟨rfl, rfl, rfl⟩
  · exact ⟨rfl, rfl, rfl⟩

theorem State.applySegment_standing (s : State) (p : SnapshotPayload) : s.ru.sameStanding (s.applySegment p).ru := by
  simp [State.applySegment, RosterUnit.sameStanding]

theorem State.applyKind_standing (s : State) (sender : StationId) (taken : Bool) (n : Notice) :
    s.ru.sameStanding (s.applyKind sender taken n).ru :=
  s.applyKind_cases (P := fun t => s.ru.sameStanding t.ru) sender taken n ⟨rfl, rfl, rfl⟩
    (fun st => (RosterUnit.sameControl.of_eq (by simp)).standing) (fun i occ => (RosterUnit.sameControl.of_eq (by simp)).standing)
    (fun t st cause => by
      rw [(State.orphanOrigin_frame _ t).2.1]
      exact (s.setRoster_sameControl t st cause).standing)
    (fun o => (RosterUnit.sameControl.of_eq (by simp)).standing)
    (fun st cause => (s.setRoster_sameControl sender st cause).standing) (fun _ => ⟨rfl, rfl, rfl⟩)
    fun p _ _ _ => s.applySegment_standing p

theorem State.applyCore_standing (s : State) (sender : StationId) (n : Notice) :
    s.ru.sameStanding (s.applyCore sender n).ru := by
  have heard : s.ru.sameStanding ((s.countFrame sender n).hearSender sender).ru := by
    simpa using (State.hearSender_sameControl (s.countFrame sender n) sender).standing
  exact heard.trans (State.applyKind_standing _ sender _ n)

theorem State.applyFrame_standing (old s : State) (sender : StationId) (own : Option Item) (n : Notice) :
    s.ru.sameStanding (State.applyFrame old s sender own n).ru := by
  unfold State.applyFrame
  split
  · simpa using s.applyCore_standing sender n
  · exact ⟨rfl, rfl, rfl⟩

theorem State.taken_standing (old : State) (sender : StationId) (own : Option Item) (n : Notice) :
    old.ru.sameStanding (old.taken sender own n).ru := by
  have first : old.ru.sameStanding ((old.takeFrame own).markOwnJoin own n).ru := by
    simpa using State.markOwnJoin_standing (old.takeFrame own) own n
  exact (first.trans (State.applyFrame_standing old _ sender own n)).trans
    (State.settleQueue_sameControl old _ sender own n).standing

theorem State.applyFrame_valid {old s : State} (valid : s.et.countValid = true) (sender : StationId) (own : Option Item)
    (n : Notice) : (State.applyFrame old s sender own n).et.countValid = true := by
  unfold State.applyFrame
  split
  · have core : (s.applyCore sender n).et.countValid = true :=
      (State.applyKind_count _ sender _ n).2.trans (by simpa using State.countFrame_valid valid sender n)
    simpa using core
  · exact valid

theorem State.taken_valid {old : State} (valid : old.et.countValid = true) (sender : StationId) (own : Option Item)
    (n : Notice) : (old.taken sender own n).et.countValid = true := by
  simp only [State.taken, State.settleQueue_frame]
  exact State.applyFrame_valid (by simpa using valid) sender own n

theorem State.applyFrame_quiet {old s : State} (quiet : s.lc.inFlight = none) (sender : StationId) (own : Option Item)
    (n : Notice) : (State.applyFrame old s sender own n).lc.inFlight = none := by
  unfold State.applyFrame
  split
  · have core : (s.applyCore sender n).lc.inFlight = none := by
      rw [State.applyCore, State.applyKind_lc]
      simpa using quiet
    simpa using core
  · exact quiet

theorem State.takeFrame_quiet {s : State} {own : Option Item} (done : own.isSome = true ∨ s.lc.inFlight = none) :
    (s.takeFrame own).lc.inFlight = none := by
  rw [State.takeFrame_lc]
  rcases done with done | done <;> simp [done]

theorem State.taken_quiet {old : State} (sender : StationId) {own : Option Item} (n : Notice)
    (done : own.isSome = true ∨ old.lc.inFlight = none) : (old.taken sender own n).lc.inFlight = none := by
  simp only [State.taken, State.settleQueue_frame]
  exact State.applyFrame_quiet (by simpa using State.takeFrame_quiet done) sender own n

theorem State.Settled.taken {own : Option Item} {old : State} (h : old.Settled own) (sender : StationId) (n : Notice)
    (done : own.isSome = true ∨ old.lc.inFlight = none) : (old.taken sender own n).Settled own :=
  (((h.takeFrame done).markOwnJoin own n).applyFrame sender n).settleQueue sender n

/-! ## The changes of own state (R118, R125, R136, R142, R156) -/

/-- What the last part of an acceptance leaves: a settled state, nothing in flight, and no expiry it did not find. -/
structure State.EndsFrom (s t : State) : Prop where
  settled : t.Settled none
  quiet : t.lc.inFlight = none
  answered : s.ru.deferredExpiry = false → t.ru.deferredExpiry = false

theorem State.Settled.alignFlashers {flying : Option Item} {s : State} (h : s.Settled flying) :
    s.alignFlashers.Settled flying :=
  h.congr_blocks (by simp) (by simp) (by simp) (by simp) (by simp) (by simp) (h.port.congr (by simp) (by simp))

theorem State.Settled.decideWindow {s : State} (h : s.Settled none) (listening : s.ru.state = .listening)
    (p : PresencePayload) : s.EndsFrom (s.decideWindow p) := by
  have quiet := h.line.quiet_of (by rw [listening]; rfl)
  unfold State.decideWindow
  split
  · split
    · exact ⟨h.steady.enterJoining quiet (by rw [listening]; rfl) (by rw [listening]; exact fun no => nomatch no),
        by simpa using quiet, fun _ => by rw [State.enterJoining_ru]⟩
    · exact ⟨h.steady.enterOut quiet (.inr ⟨rfl, rfl⟩), by simpa [State.enterOut_lc] using quiet,
        fun _ => by rw [State.enterOut_ru]⟩
  · exact ⟨h, quiet, id⟩

/-- A completion is judged by the state before the frame, in which the count was valid (R21, R156). -/
theorem State.CountOk.of_completes {s : State} (h : s.CountOk) (completes : s.completes = true) : s.et.countValid = true := by
  simp only [State.completes, Bool.and_eq_true, State.coverageFull, List.all_eq_true] at completes
  obtain ⟨segments, full⟩ := completes
  refine h ?_
  cases state : s.ru.state with
  | syncing => exact .inr (.inl rfl)
  | joining =>
    refine .inr (.inr (.inr (.inr ⟨rfl, 0, ?_⟩)))
    exact full _ (by simp)
  | _ => simp [State.appliesSegments, state] at segments

theorem State.Settled.hearReference {old s : State} (h : s.Settled none) (quiet : s.lc.inFlight = none)
    (state : s.ru.state = old.ru.state) (valid : old.et.countValid = true → s.et.countValid = true) (count : old.CountOk)
    (p : PresencePayload) (st : StationState) : s.EndsFrom (State.hearReference old s p st) := by
  have aligned := h.alignFlashers
  have quiet' : s.alignFlashers.lc.inFlight = none := by simpa using quiet
  have stays : s.EndsFrom s.alignFlashers := ⟨aligned, quiet', by simp⟩
  unfold State.hearReference
  dsimp only
  split
  · split
    · rename_i member
      have member : s.alignFlashers.ru.state = .member := by
        simpa [state] using State.inState_iff.1 member.1
      split
      · exact ⟨aligned.steady.enterSyncing quiet' (by rw [member]; rfl) (by rw [member]; exact fun no => nomatch no)
          (aligned.count (.inl member)), by simpa using quiet', fun _ => by rw [State.enterSyncing_ru]⟩
      · exact stays
    · split
      · rename_i completes
        have attempts : old.ru.state.attempts = true := by
          simp only [State.completes, Bool.and_eq_true] at completes
          exact State.attempts_of_appliesSegments completes.1
        exact ⟨aligned.steady.complete quiet' (by simpa [state] using attempts)
          (by simpa using valid (count.of_completes completes)) p, by simpa using quiet', fun _ => by rw [State.complete_ru]⟩
      · exact stays
  · exact stays

theorem State.Settled.settlePresence {old s : State} (h : s.Settled none) (quiet : s.lc.inFlight = none)
    (state : s.ru.state = old.ru.state) (valid : old.et.countValid = true → s.et.countValid = true) (count : old.CountOk)
    (sender : StationId) (p : PresencePayload) : s.EndsFrom (State.settlePresence old s sender p) := by
  unfold State.settlePresence
  split
  · rename_i listening
    exact h.decideWindow (state.trans (State.inState_iff.1 listening)) p
  · split
    · split
      · exact h.hearReference quiet state valid count p _
      · exact ⟨h, quiet, id⟩
    · exact ⟨h, quiet, id⟩

theorem State.Settled.settleMembership {old s : State} (h : s.Settled none) (quiet : s.lc.inFlight = none)
    (state : s.ru.state = old.ru.state) (valid : old.et.countValid = true → s.et.countValid = true) (count : old.CountOk)
    (sender : StationId) (own : Option Item) (n : Notice) : s.EndsFrom (State.settleMembership old s sender own n) := by
  unfold State.settleMembership
  cases n with
  | presence p => exact h.settlePresence quiet state valid count sender p
  | leave c =>
    dsimp only
    split
    · exact ⟨h.steady.enterOut quiet (.inl ⟨rfl, rfl⟩), by simpa [State.enterOut_lc] using quiet,
        fun _ => by rw [State.enterOut_ru]⟩
    · exact ⟨h, quiet, id⟩
  | _ => exact ⟨h, quiet, id⟩

theorem State.takeDuties_deferred (old s : State) :
    (State.takeDuties old s).ru.deferredExpiry = s.ru.deferredExpiry :=
  (State.takeDuties_sameControl old s).standing.2.2

theorem State.Settled.dutiful {own : Option Item} {old : State} (h : old.Settled own) (sender : StationId) (n : Notice)
    (done : own.isSome = true ∨ old.lc.inFlight = none) : old.EndsFrom (old.dutiful sender own n) := by
  obtain ⟨state, -, deferred⟩ := old.taken_standing sender own n
  obtain ⟨settled, quiet, answered⟩ := (h.taken sender n done).landed.settleMembership (State.taken_quiet sender n done)
    state (fun valid => State.taken_valid valid sender own n) h.count sender own n
  refine ⟨settled.takeDuties, by simpa [State.dutiful] using quiet, fun no => ?_⟩
  rw [State.dutiful, State.takeDuties_deferred]
  exact answered (deferred.trans no)

/-! ## The whole acceptance -/

theorem State.Sound.settled {s : State} (h : s.Sound) : s.Settled (s.lc.inFlight.map InFlight.item) :=
  ((State.sound_iff s).1 h).2.2

theorem State.Sound.answered {s : State} (h : s.Sound) (quiet : s.lc.inFlight = none) : s.ru.deferredExpiry = false := by
  obtain ⟨-, deferral, -⟩ := (State.sound_iff s).1 h
  by_contra yes
  have := deferral (by simpa using yes)
  rw [quiet] at this
  exact nomatch this

theorem State.Sound.acceptFrame_foreign {s : State} (h : s.Sound) (quiet : s.lc.inFlight = none) (sender : StationId)
    (n : Notice) : (s.acceptFrame sender none n).Sound := by
  have settled : s.Settled none := by simpa [quiet] using h.settled
  obtain ⟨ends, quiet', answered⟩ := settled.dutiful sender n (.inr quiet)
  rw [State.acceptFrame_foreign]
  exact State.Ended.sound_close ⟨ends, quiet', answered (h.answered quiet)⟩

theorem State.Sound.acceptFrame_own {s : State} (h : s.Sound) {f : InFlight} (flight : s.lc.inFlight = some f)
    (sender : StationId) (n : Notice) : (s.acceptFrame sender (some f.item) n).Sound := by
  have settled : s.Settled (some f.item) := by simpa [flight] using h.settled
  obtain ⟨ends, quiet', -⟩ := settled.dutiful sender n (.inl rfl)
  rw [State.acceptFrame_own]
  exact (ends.takeDeferredExpiry quiet').sound_close

theorem State.arrival_foreign {s : State} {sender : StationId} {n : Notice} (h : s.arrival sender n = .foreign) :
    s.receives := by
  unfold State.arrival at h
  split at h
  · exact nomatch h
  · rename_i on
    split at h
    · rename_i quiet
      split at h
      · rename_i assembling
        exact ⟨by simpa using on, quiet, assembling⟩
      · exact nomatch h
    · split at h <;> exact nomatch h

theorem State.arrival_own {s : State} {sender : StationId} {n : Notice} {f : InFlight} (h : s.arrival sender n = .own f) :
    s.lc.inFlight = some f := by
  unfold State.arrival at h
  split at h
  · exact nomatch h
  · split at h
    · split at h <;> exact nomatch h
    · rename_i g flight
      split at h
      · injection h with same
        rw [flight, same]
      · exact nomatch h

theorem State.Sound.accept {s : State} (h : s.Sound) (sender : StationId) (n : Notice) : (s.accept sender n).Sound := by
  unfold State.accept
  cases arrival : s.arrival sender n with
  | noEvent => exact h
  | foreign => exact h.acceptFrame_foreign (State.arrival_foreign arrival).2.1 sender n
  | own f => exact h.acceptFrame_own (State.arrival_own arrival) sender f.frame.notice

end Sys2Proof.Machine
end

section
/-! PROOF. The commands of the local port and the loads: the port's invariants through reads and timers, and the settled states
that the loads end in (R161, R171, R173, R174, R177, R180). -/

namespace Sys2Proof.Machine

/-! ## The Local Port (R161, R171, R173, R174) -/

theorem State.PortOk.answer {s : State} (h : s.PortOk) (r : ResultCode) (l : List Byte) : (s.answer r l).PortOk := by
  obtain ⟨queue, -, attn, prompt⟩ := h
  exact ⟨queue, fun o no => absurd no (by simp [State.answer]), attn, prompt⟩

theorem State.Settled.answer {flying : Option Item} {s : State} (h : s.Settled flying) (r : ResultCode) (l : List Byte) :
    (s.answer r l).Settled flying :=
  h.congr_blocks rfl rfl rfl rfl rfl rfl (h.port.answer r l)

/-- An event of the port alone (R161). -/
theorem State.Sound.onPort {s t : State} (h : s.Sound) (port : t.PortOk) (cs : t.cs = s.cs) (et : t.et = s.et)
    (ru : t.ru = s.ru) (pu : t.pu = s.pu) (sq : t.sq = s.sq) (lc : t.lc = s.lc) (ou : t.ou = s.ou) : t.Sound := by
  have deferral := ((State.sound_iff s).1 h).2.1
  refine h.of_settled ?_ ?_ cs et pu (by rw [ru]) (by rw [ru]) ou
  · rw [lc]
    exact h.settled.congr_blocks cs et ru pu sq lc port
  · simpa only [State.DeferralOk, ru, lc] using deferral

theorem State.Sound.answer {s : State} (h : s.Sound) (r : ResultCode) (l : List Byte) : (s.answer r l).Sound :=
  h.onPort (h.port.answer r l) rfl rfl rfl rfl rfl rfl rfl

theorem State.Sound.drawFree {s : State} (h : s.Sound) : s.drawFree.Sound :=
  h.onPort (h.port.congr rfl rfl) rfl rfl rfl rfl rfl rfl rfl

/-- NOTIFY READ opens a read of the head item (R171). -/
theorem State.PortOk.openRead {s : State} (h : s.PortOk) {bytes : List Byte} (head : s.lp.headBytes = some bytes) :
    ((s.answer .ok bytes).onLp fun l => { l with openRead := some { marker := l.records.isEmpty, dropped := 0 } }).PortOk := by
  obtain ⟨queue, -, attn, prompt⟩ := h
  refine ⟨queue, ?_, attn, prompt⟩
  intro o opened
  obtain rfl : { marker := s.lp.records.isEmpty, dropped := 0 } = o := by simpa [State.answer] using opened
  refine ⟨Nat.zero_le _, fun empty => ?_, fun item => by simpa [State.answer] using item⟩
  have records : s.lp.records = [] := by simpa using empty
  refine ⟨records, ?_⟩
  simp only [LocalPort.headBytes, records] at head
  cases marker : s.lp.marker with
  | none => simp [marker] at head
  | some n => simp [State.answer, marker]

/-- The removal of the head item at the end of a read (R171, R173, R174). -/
theorem State.PortOk.removeHead {s : State} (h : s.PortOk) {o : OpenRead} (opened : s.lp.openRead = some o) :
    (s.onLp fun l => (l.removeHead o).afterRemoval s.promptPeriod).PortOk := by
  obtain ⟨⟨short, marker⟩, read, attn, -⟩ := h
  obtain ⟨dropped, alone, record⟩ := read o opened
  have held : s.lp.holdsItem = true := by
    cases kind : o.marker with
    | true => simp [LocalPort.holdsItem, (alone kind).2]
    | false => simp [LocalPort.holdsItem, record kind]
  have queue : (s.lp.removeHead o).QueueOk := by
    unfold LocalPort.removeHead
    split
    · refine ⟨short, fun n count => ?_⟩
      split at count
      · exact nomatch count
      · obtain rfl : o.dropped = n := by simpa using count
        omega
    · exact ⟨by simp; omega, marker⟩
  have closed : (s.lp.removeHead o).openRead = none := by
    unfold LocalPort.removeHead
    split <;> rfl
  have line : (s.lp.removeHead o).attn = s.lp.attn ∧ (s.lp.removeHead o).releaseTimer = s.lp.releaseTimer := by
    unfold LocalPort.removeHead
    split <;> exact ⟨rfl, rfl⟩
  simp only [State.PortOk, State.PromptOk, State.onLp_lp, LocalPort.afterRemoval]
  generalize s.lp.removeHead o = l at queue closed line
  split
  · rename_i more
    refine ⟨queue, fun o' no => ?_, ?_, fun period => ⟨more, period⟩⟩
    · rw [show ({ l with promptTimer := s.promptPeriod } : LocalPort).openRead = none from closed] at no
      exact nomatch no
    · change l.attn = (l.holdsItem && l.releaseTimer.isNone)
      rw [line.1, line.2, attn, more, held]
  · rename_i empty
    refine ⟨queue, fun o' no => ?_, ?_, fun period => nomatch period⟩
    · rw [show ({ l with attn := false, promptTimer := none } : LocalPort).openRead = none from closed] at no
      exact nomatch no
    · change false = (l.holdsItem && l.releaseTimer.isNone)
      simp [empty]

theorem State.PortOk.reprompt {s : State} (h : s.PortOk) (running : s.lp.promptTimer.isSome = true) :
    (s.onLp fun l => { l with attn := false, releaseTimer := some 1, promptTimer := s.promptPeriod }).PortOk := by
  obtain ⟨queue, read, -, prompt⟩ := h
  exact ⟨queue, read, by simp [LocalPort.AttnOk], fun period => ⟨(prompt running).1, period⟩⟩

theorem State.PortOk.endRelease {s : State} (h : s.PortOk) : (s.onLp fun l => l.endRelease s.promptPeriod).PortOk := by
  obtain ⟨queue, read, attn, prompt⟩ := h
  simp only [State.PortOk, State.PromptOk, State.onLp_lp, LocalPort.endRelease]
  split
  · rename_i held
    refine ⟨queue, read, ?_, fun runs => ⟨held, ?_⟩⟩
    · change true = (s.lp.holdsItem && true)
      simp [held]
    · cases timer : s.lp.promptTimer with
      | some n => exact (prompt (by rw [timer]; rfl)).2
      | none =>
        have period : s.promptPeriod.isSome = true := by simpa [timer] using runs
        exact period
  · rename_i empty
    refine ⟨queue, read, ?_, prompt⟩
    change s.lp.attn = (s.lp.holdsItem && true)
    rw [attn]
    simp [empty]

theorem countDown_isSome (t : Option Nat) : (countDown t).isSome = t.isSome := by cases t <;> rfl

theorem countDown_isNone (t : Option Nat) : (countDown t).isNone = t.isNone := by cases t <;> rfl

/-! ## Points (R31 to R34, R41) -/

theorem State.PointsOk.onPoints {s : State} (h : s.PointsOk) {g : PointId → PointRecord → PointRecord}
    (reminder : ∀ p, (g p (s.point p)).reminder = (s.point p).reminder)
    (timers : ∀ p, ((g p (s.point p)).qualified = .active → (g p (s.point p)).qualify = none) ∧
      ((g p (s.point p)).qualified = .inactive → (g p (s.point p)).release = none)) : (s.onPoints g).PointsOk := by
  intro p
  obtain ⟨-, -, okIn⟩ := h p
  rw [State.point_onPoints, reminder]
  exact ⟨(timers p).1, (timers p).2, okIn⟩

theorem State.PointsOk.onPoint {s : State} (h : s.PointsOk) {p : PointId} {g : PointRecord → PointRecord}
    (reminder : (g (s.point p)).reminder.okIn s.ru.state = true)
    (timers : ((g (s.point p)).qualified = .active → (g (s.point p)).qualify = none) ∧
      ((g (s.point p)).qualified = .inactive → (g (s.point p)).release = none)) : (s.onPoint p g).PointsOk := by
  intro q
  rw [State.point_onPoint]
  split
  · rename_i same
    subst same
    exact ⟨timers.1, timers.2, reminder⟩
  · exact h q

theorem State.qualifyTo_mark (s : State) (p : PointId) (c : Condition) :
    (s.qualifyTo p c).sq.returnPending = s.sq.returnPending := by
  unfold State.qualifyTo
  exact State.announceCheck_mark _ p false

theorem State.Settled.qualifyTo {flying : Option Item} {s : State} (h : s.Settled flying) (p : PointId) (c : Condition) :
    (s.qualifyTo p c).Settled flying := by
  refine h.onPointsAndList (by simp) (by simp) (by simp) (by simp) (by simp) (s.qualifyTo_mark p c) (h.list.qualifyTo p c) ?_
  unfold State.qualifyTo
  extract_lets u
  have qualified : u.PointsOk :=
    h.points.onPoint (by cases c <;> exact (h.points p).2.2) (by cases c <;> simp)
  have reclassed : (u.reclassPoint p).PointsOk := qualified.congr (by simp) (by simp)
  exact (State.keepsLevels_announceCheck (u.reclassPoint p) p false).pointsOk reclassed

theorem State.Settled.setSoft {flying : Option Item} {s : State} (h : s.Settled flying) (p : PointId) (c : Condition) :
    (s.setSoft p c).Settled flying := by
  unfold State.setSoft
  extract_lets u
  have raised : u.Settled flying := by
    refine h.onPointsAndList rfl rfl rfl rfl rfl rfl (h.list.congr rfl rfl rfl rfl (fun q => ?_) fun q _ => ?_)
      (h.points.onPoint (h.points p).2.2 ⟨(h.points p).1, (h.points p).2.1⟩)
    · simp only [u, State.point_onPoint]
      split <;> rfl
    · simp only [u, State.point_onPoint]
      split <;> rfl
  split
  · exact raised
  · exact raised.qualifyTo p c

theorem State.remind_mark (s : State) (p : PointId) : (s.remind p).sq.returnPending = s.sq.returnPending := by
  unfold State.remind
  exact State.announceCheck_mark _ p true

theorem State.Settled.remind {flying : Option Item} {s : State} (h : s.Settled flying) (p : PointId) :
    (s.remind p).Settled flying := by
  refine h.onPointsAndList (by simp) (by simp) (by simp) (by simp) (by simp) (s.remind_mark p) (h.list.remind p) ?_
  unfold State.remind
  extract_lets u
  have stopped : u.PointsOk := h.points.onPoint rfl ⟨(h.points p).1, (h.points p).2.1⟩
  have reclassed : (u.reclassPoint p).PointsOk := stopped.congr (by simp) (by simp)
  exact (State.keepsLevels_announceCheck (u.reclassPoint p) p true).pointsOk reclassed

theorem State.remind_qualified (s : State) (p q : PointId) : ((s.remind p).point q).qualified = (s.point q).qualified := by
  unfold State.remind
  extract_lets u
  have stopped : (u.point q).qualified = (s.point q).qualified := by
    simp only [u, State.point_onPoint]
    split <;> rfl
  have levels := (State.keepsLevels_announceCheck (u.reclassPoint p) p true).levels q
  rw [levels.sameQualification.1, State.point_congr (u.reclassPoint_frame p).2.2.2.1, stopped]

theorem PointRecord.sample_keeps (r : PointRecord) (u : PointSetup) (high : Bool) :
    (r.sample u high).qualified = r.qualified ∧ (r.sample u high).queued = r.queued ∧
      (r.sample u high).pendingReminders = r.pendingReminders ∧ (r.sample u high).reminder = r.reminder := by
  unfold PointRecord.sample
  dsimp only
  split <;> exact ⟨rfl, rfl, rfl, rfl⟩

/-- A sample can start only the timer that leads out of the qualified state (R31, R32). -/
theorem PointRecord.sample_timers {r : PointRecord} (h : (r.qualified = .active → r.qualify = none) ∧
    (r.qualified = .inactive → r.release = none)) (u : PointSetup) (high : Bool) :
    ((r.sample u high).qualified = .active → (r.sample u high).qualify = none) ∧
      ((r.sample u high).qualified = .inactive → (r.sample u high).release = none) := by
  unfold PointRecord.sample
  dsimp only
  split
  · rename_i inactive _
    rw [inactive] at h
    exact ⟨by simp [inactive], fun _ => h.2 rfl⟩
  · rename_i active _
    rw [active] at h
    exact ⟨fun _ => h.1 rfl, by simp [active]⟩
  · exact ⟨fun _ => rfl, fun _ => rfl⟩
  · exact ⟨fun _ => rfl, fun _ => rfl⟩

/-- What holds of a record and of every sample of it holds of the record after an input sample (R30). -/
theorem State.samplePoint_cases {P : PointRecord → Prop} (s : State) (levels : BitVec 16) (p : PointId) (r : PointRecord)
    (same : P r) (sampled : ∀ u high, P (r.sample u high)) : P (s.samplePoint levels p r) := by
  unfold State.samplePoint
  split
  · exact same
  · split
    · exact sampled _ _
    · exact same
    · exact same

/-! ## PROFILE LOAD and SETUP LOAD (R177, R180) -/

theorem StationState.holdsNothing_of_outOfService {st : StationState} (out : st.outOfService = true) :
    st.holdsNothing = true := by
  cases st <;> first | rfl | exact nomatch out

theorem State.ListOk.not_queued {flying : Option Item} {s : State} (h : s.ListOk flying []) (empty : s.sq.items = [])
    (p : PointId) : (s.point p).queued = false := by
  have := h.points p
  by_contra yes
  simp [State.countItems, empty, yes] at this

theorem State.Settled.takeProfile {flying : Option Item} {s : State} (h : s.Settled flying)
    (out : s.ru.state.outOfService = true) (p : Profile) : (s.takeProfile p).Settled flying := by
  have quiet := h.line.quiet_of (StationState.sends_of_outOfService out)
  have empty := h.list.empty (StationState.holdsNothing_of_outOfService out)
  have pu : (s.takeProfile p).pu = s.unloadPoints.pu := by simp [State.takeProfile, State.unloadPoints]
  have point : ∀ q, (s.takeProfile p).point q = { PointRecord.unloaded with occurrence := (s.point q).occurrence } :=
    fun q => (State.point_congr pu q).trans (State.point_onPoints s q _)
  obtain ⟨queue, read, -, -⟩ := h.port
  obtain ⟨l1, l2, -, -, few⟩ := h.line
  refine ⟨⟨queue, read, LocalPort.dropPrompt_attnOk s.lp, fun no => absurd no Bool.false_ne_true⟩, h.roster, h.timers,
    ⟨fun no => absurd no Bool.false_ne_true, rfl, rfl, fun service => ?_⟩,
    ⟨l1, l2, fun no => absurd no Bool.false_ne_true, fun no => absurd no Bool.false_ne_true, few⟩, h.count,
    h.list.of_empty empty rfl fun q => by rw [point]; rfl, fun q => ?_, h.entries⟩
  · rw [show (s.takeProfile p).ru = s.ru from rfl, out] at service
    exact nomatch service
  · rw [point]
    exact ⟨fun _ => rfl, fun _ => rfl, rfl⟩

theorem State.Settled.takeSetup {flying : Option Item} {s : State} (h : s.Settled flying)
    (out : s.ru.state.outOfService = true) (profile : s.cs.profile.isSome = true) (u : Setup) :
    (s.takeSetup u).Settled flying := by
  have empty := h.list.empty (StationState.holdsNothing_of_outOfService out)
  have pu : (s.takeSetup u).pu = s.resetPoints.pu := by simp [State.takeSetup, State.resetPoints]
  have point : ∀ q, (s.takeSetup u).point q =
      { PointRecord.unloaded with occurrence := (s.point q).occurrence, queued := (s.point q).queued } :=
    fun q => (State.point_congr pu q).trans (State.point_onPoints s q _)
  obtain ⟨queue, read, attn, prompt⟩ := h.port
  obtain ⟨-, c2, c3, -⟩ := h.config
  refine ⟨⟨queue, read, attn, fun runs => ?_⟩, h.roster, h.timers, ⟨fun _ => profile, c2, c3, fun _ => rfl⟩, h.line, h.count,
    h.list.of_empty empty rfl fun q => by rw [point]; exact h.list.not_queued empty q, fun q => ?_, h.entries⟩
  · have timer : (s.takeSetup u).lp.promptTimer =
        if s.lp.holdsItem then (s.takeSetup u).promptPeriod else s.lp.promptTimer := rfl
    rw [timer] at runs
    split at runs
    · rename_i held
      exact ⟨held, runs⟩
    · rename_i unheld
      exact absurd (prompt runs).1 unheld
  · rw [point]
    exact ⟨fun _ => rfl, fun _ => rfl, rfl⟩

end Sys2Proof.Machine
end

section
/-! PROOF. Every command leads from a sound state to a sound one (O60), and the reset state is sound (O58). -/

namespace Sys2Proof.Machine

/-- The outcome is a sound state. -/
def Lands (o : Host.Outcome State Fault Refusal) : Prop := ∀ t, o = .next t → t.Sound

theorem Lands.next {t : State} (h : t.Sound) : Lands (.next t) := by
  intro u same
  injection same with same
  exact same ▸ h

theorem Lands.ite {c : Prop} [Decidable c] {t u : State} (ht : c → t.Sound) (hu : ¬c → u.Sound) :
    Lands (.next (if c then t else u)) := by
  split
  · exact .next (ht ‹_›)
  · exact .next (hu ‹_›)

section Commands
variable {s : State}

/-! ## The end of an event -/

theorem State.Ended.answer (h : s.Ended) (r : ResultCode) (l : List Byte) : (s.answer r l).Ended :=
  ⟨h.settled.answer r l, h.quiet, h.answered⟩

theorem State.Sound.deferral (h : s.Sound) : s.DeferralOk := ((State.sound_iff s).1 h).2.1

/-- An event that leaves RU's deferral and the frame in flight as they were ends in a sound state. -/
theorem State.Sound.close {t : State} (h : s.Sound) (settled : t.Settled (s.lc.inFlight.map InFlight.item))
    (flight : t.lc.inFlight = s.lc.inFlight) (deferred : t.ru.deferredExpiry = s.ru.deferredExpiry) (old : State) :
    (State.close old t).Sound := by
  refine State.Settled.sound_close (flight ▸ settled) ?_
  simpa only [State.DeferralOk, flight, deferred] using h.deferral

/-- An event without a close that leaves RU's control, LC's attempt and what the outputs rest on. -/
theorem State.Sound.quietly {t : State} (h : s.Sound) (settled : t.Settled (s.lc.inFlight.map InFlight.item))
    (flight : t.lc.inFlight = s.lc.inFlight) (deferred : t.ru.deferredExpiry = s.ru.deferredExpiry) (cs : t.cs = s.cs)
    (et : t.et = s.et) (pu : t.pu = s.pu) (state : t.ru.state = s.ru.state) (entry : t.ru.entryState = s.ru.entryState)
    (ou : t.ou = s.ou) : t.Sound := by
  refine h.of_settled (flight ▸ settled) ?_ cs et pu state entry ou
  simpa only [State.DeferralOk, flight, deferred] using h.deferral

/-! ## Reads and the notification queue (R163 to R165, R171) -/

theorem lands_statusRead (h : s.Sound) : Lands (execStatusRead s) := .next (h.answer _ _).drawFree

theorem lands_entryRead (h : s.Sound) (index : Byte) : Lands (execEntryRead index s) := .next (h.answer _ _)

theorem lands_entryScan (h : s.Sound) (start phases : Byte) : Lands (execEntryScan start phases s) := by
  refine .ite (fun _ => h.answer _ _) fun _ => ?_
  split <;> exact h.answer _ _

theorem lands_rosterRead (h : s.Sound) (station : Byte) : Lands (execRosterRead station s) := by
  refine .next ?_
  split
  · exact h.answer _ _
  · exact (h.answer _ _).drawFree

theorem lands_notifyRead (h : s.Sound) : Lands (execNotifyRead s) := by
  refine .next ?_
  split
  · exact h.answer _ _
  · rename_i bytes head
    exact h.onPort (h.port.openRead head) rfl rfl rfl rfl rfl rfl rfl

theorem lands_notifyReadComplete (h : s.Sound) : Lands (execNotifyReadComplete s) := by
  refine .next ?_
  split
  · exact h
  · rename_i o opened
    exact h.onPort (h.port.removeHead opened) rfl rfl rfl rfl rfl rfl rfl

theorem lands_countersRead (h : s.Sound) : Lands (execCountersRead s) := .next (h.answer _ _)

theorem State.Sound.onCounters (h : s.Sound) (g : Counters → Counters) : (s.onCounters g).Sound :=
  h.quietly (h.settled.onLine rfl rfl rfl rfl rfl rfl h.line rfl) rfl rfl rfl rfl rfl rfl rfl rfl

theorem lands_countersClear (h : s.Sound) : Lands (execCountersClear s) := .next ((h.onCounters _).answer _ _)

theorem lands_unknownCommand (h : s.Sound) (code : Byte) : Lands (execUnknownCommand code s) :=
  .ite (fun _ => h) fun _ => h.answer _ _

theorem lands_commandDiscarded (h : s.Sound) : Lands (execCommandDiscarded s) := by
  obtain ⟨queue, -, attn, prompt⟩ := h.port
  exact .next (h.onPort ⟨queue, fun o no => absurd no (by simp), attn, prompt⟩ rfl rfl rfl rfl rfl rfl rfl)

theorem lands_promptTimerExpiry (h : s.Sound) : Lands (execPromptTimerExpiry s) :=
  .ite (fun running => h.onPort (h.port.reprompt running) rfl rfl rfl rfl rfl rfl rfl) fun _ => h

theorem lands_attnReleaseEnd (h : s.Sound) : Lands (execAttnReleaseEnd s) :=
  .ite (fun _ => h.onPort h.port.endRelease rfl rfl rfl rfl rfl rfl rfl) fun _ => h

/-! ## Commands that act (R34, R46, R82, R166) -/

/-- A new item of the list, without a close. -/
theorem State.Sound.enqueue (h : s.Sound) {kind : ItemKind} {cls : Fin 4} (room : s.roomFor kind)
    (listed : s.ru.state.holdsNothing = false) (other : kind.isPoint = false) : (s.enqueue kind cls).Sound :=
  h.quietly (h.settled.onPointsAndList rfl rfl rfl rfl rfl rfl (h.settled.list.enqueue room listed other)
    (h.points.congr rfl rfl)) rfl rfl rfl rfl rfl rfl rfl rfl

theorem lands_acknowledge (h : s.Sound) (index : Byte) : Lands (execAcknowledge index s) := by
  refine .next (State.Sound.answer ?_ _ _)
  split
  · rename_i ok
    unfold State.acknowledgeResult at ok
    split at ok
    · exact nomatch ok
    rename_i member
    have member : s.ru.state = .member := by simpa [State.inState_iff] using member
    split at ok
    · exact nomatch ok
    split at ok
    · exact nomatch ok
    split at ok
    · exact nomatch ok
    rename_i free
    split at ok
    · exact nomatch ok
    rename_i few
    exact h.enqueue ⟨State.countItems_eq_zero.2 (by simpa using free), by omega⟩ (State.member_listed member) rfl
  · exact h

theorem lands_purge (h : s.Sound) (origin : Byte) : Lands (execPurge origin s) := by
  refine .next ?_
  split
  · exact h.answer _ _
  · rename_i o _
    refine State.Sound.answer ?_ _ _
    split
    · rename_i ok
      unfold State.purgeResult at ok
      split at ok
      · exact nomatch ok
      rename_i member
      have member : s.ru.state = .member := by simpa [State.inState_iff] using member
      split at ok
      · exact nomatch ok
      split at ok
      · exact nomatch ok
      rename_i free
      exact h.enqueue (State.countItems_eq_zero.2 (by simpa using free)) (State.member_listed member) rfl
    · exact h

theorem lands_silence (h : s.Sound) : Lands (execSilence s) := by
  refine .ite (fun _ => ?_) fun _ => h.answer _ _
  have marked : (s.onOu fun o => { o with silenceMark := s.et.lineCount }).Settled (s.lc.inFlight.map InFlight.item) :=
    h.settled.congr_blocks rfl rfl rfl rfl rfl rfl (h.port.congr rfl rfl)
  exact h.close (marked.answer _ _) rfl rfl s

theorem lands_softPoint (h : s.Sound) (point level : Byte) : Lands (execSoftPoint point level s) := by
  refine .ite (fun _ => h.answer _ _) fun _ => ?_
  split
  · rename_i p c _ _
    split
    · exact h.close ((h.settled.setSoft p c).answer _ _) (by simp) (by simp) s
    · exact h.answer _ _
  · exact h.answer _ _

/-! ## Loads, START and LEAVE (R120, R121, R125, R177, R180, R181) -/

theorem State.Sound.ended_of_silent (h : s.Sound) {t : State} (silent : s.ru.state.sends = false) (settled : t.Settled none)
    (lc : t.lc.inFlight = s.lc.inFlight) (ru : t.ru = s.ru) : t.Ended := by
  have quiet := h.line.quiet_of silent
  exact ⟨settled, lc.trans quiet, by rw [ru]; exact h.answered quiet⟩

theorem lands_profileLoad (h : s.Sound) (image : Vector Byte 26) : Lands (execProfileLoad image s) := by
  refine .ite (fun _ => h.answer _ _) fun service => ?_
  have out : s.ru.state.outOfService = true := by simpa using service
  split
  · exact h.answer _ _
  · exact (State.Ended.answer (h.ended_of_silent (StationState.sends_of_outOfService out) (h.settled.takeProfile out _).landed
      rfl rfl) _ _).sound_close

theorem lands_setupLoad (h : s.Sound) (image : Vector Byte 130) : Lands (execSetupLoad image s) := by
  refine .ite (fun _ => h.answer _ _) fun service => ?_
  simp only [Bool.or_eq_true, Bool.not_eq_true', not_or, Bool.not_eq_false, Option.isNone_iff_eq_none,
    ← ne_eq, Option.ne_none_iff_isSome] at service
  obtain ⟨out, profile⟩ := service
  split
  · exact h.answer _ _
  · exact (State.Ended.answer (h.ended_of_silent (StationState.sends_of_outOfService out)
      (h.settled.takeSetup out profile _).landed rfl rfl) _ _).sound_close

theorem lands_start (h : s.Sound) : Lands (execStart s) := by
  refine .ite (fun may => ?_) fun _ => h.answer _ _
  have out : s.ru.state.outOfService = true := by
    simp only [State.mayStart, Bool.and_eq_true] at may
    exact may.1.1
  have quiet := h.line.quiet_of (StationState.sends_of_outOfService out)
  have started : s.startStation.Ended :=
    ⟨(h.settled.steady.startStation may).landed, by rw [State.startStation_lc]; exact quiet, by rw [State.startStation_ru]⟩
  exact (started.answer _ _).sound_close

theorem State.Sound.startLeaving (h : s.Sound) (service : s.ru.state.outOfService = false) (before : s.ru.state ≠ .leaving)
    (c : LeaveCause) (r : ResultCode) (l : List Byte) : (State.close s ((s.startLeaving c).answer r l)).Sound := by
  refine State.Settled.sound_close ?_ ?_
  · have flight : ((s.startLeaving c).answer r l).lc.inFlight = s.lc.inFlight := by simp
    rw [flight]
    exact (h.settled.steady.startLeaving service before c).answer r l
  · simp [State.DeferralOk, State.startLeaving_ru]

theorem lands_leave (h : s.Sound) : Lands (execLeave s) := by
  have leaves : ∀ {st : StationState} (c : LeaveCause), s.ru.state = st → st.outOfService = false → st ≠ .leaving →
      (State.close s ((s.startLeaving c).answer .ok [])).Sound :=
    fun c state service before => h.startLeaving (state ▸ service) (state ▸ before) c .ok []
  refine .next ?_
  split
  · rename_i state
    exact leaves _ state rfl fun no => nomatch no
  · rename_i state
    exact leaves _ state rfl fun no => nomatch no
  · rename_i state
    exact leaves _ state rfl fun no => nomatch no
  · rename_i state
    exact leaves _ state rfl fun no => nomatch no
  · rename_i state
    have quiet := h.line.quiet_of (by rw [state]; rfl)
    have out : (s.enterOut .offline none).Ended :=
      ⟨(h.settled.steady.enterOut quiet (.inl ⟨rfl, rfl⟩)).landed, by rw [State.enterOut_lc]; exact quiet,
        by rw [State.enterOut_ru]⟩
    exact (out.answer _ _).sound_close
  · exact h.answer _ _
  all_goals exact h.answer _ _

/-! ## Points (R31 to R33, R41) -/

theorem State.Sound.qualifies (h : s.Sound) (p : PointId) (c : Condition) : (State.close s (s.qualifyTo p c)).Sound :=
  h.close (h.settled.qualifyTo p c) (by simp) (by simp) s

theorem lands_qualifyTimerExpiry (h : s.Sound) (point : PointId) : Lands (execQualifyTimerExpiry point s) :=
  .ite (fun _ => h.qualifies point .active) fun _ => h

theorem lands_releaseTimerExpiry (h : s.Sound) (point : PointId) : Lands (execReleaseTimerExpiry point s) :=
  .ite (fun _ => h.qualifies point .inactive) fun _ => h

/-- An event of the points without a close, in which no qualified state changes. -/
theorem State.Sound.onPointsQuietly {t : State} (h : s.Sound) (settled : t.Settled (s.lc.inFlight.map InFlight.item))
    (qualified : ∀ p, (t.point p).qualified = (s.point p).qualified) (cs : t.cs = s.cs) (et : t.et = s.et)
    (ru : t.ru = s.ru) (lc : t.lc = s.lc) (ou : t.ou = s.ou) : t.Sound := by
  refine (State.sound_iff t).2 ⟨?_, ?_, by rw [lc]; exact settled⟩
  · exact h.outputs.congr cs et qualified (by rw [ru]) (by rw [ru]) (by rw [ou]) (by rw [ou]) (by rw [ou]) (by rw [ou])
      (by rw [ou]) fun _ => by rw [ou]
  · simpa only [State.DeferralOk, ru, lc] using h.deferral

theorem lands_reminderExpiry (h : s.Sound) (point : PointId) : Lands (execReminderExpiry point s) :=
  .ite (fun _ => h.onPointsQuietly (h.settled.remind point) (s.remind_qualified point) (by simp) (by simp) (by simp) (by simp)
    (by simp)) fun _ => h

theorem State.Sound.onPoints (h : s.Sound) {g : PointId → PointRecord → PointRecord}
    (keeps : ∀ p r, (g p r).qualified = r.qualified ∧ (g p r).queued = r.queued ∧
      (g p r).pendingReminders = r.pendingReminders ∧ (g p r).reminder = r.reminder) (points : (s.onPoints g).PointsOk) :
    (s.onPoints g).Sound := by
  have list := h.settled.list.onPoints (g := g) (fun p r => (keeps p r).2.1) fun p r => (keeps p r).2.2.1
  have settled : (s.onPoints g).Settled (s.lc.inFlight.map InFlight.item) :=
    h.settled.onPointsAndList (by simp) (by simp) (by simp) (by simp) (by simp) (by simp) list points
  exact h.onPointsQuietly settled (fun p => by rw [State.point_onPoints]; exact (keeps p _).1) (by simp) (by simp) (by simp)
    (by simp) (by simp)

theorem lands_inputSample (h : s.Sound) (levels : BitVec 16) : Lands (execInputSample levels s) := by
  have keeps : ∀ p r, (s.samplePoint levels p r).qualified = r.qualified ∧ (s.samplePoint levels p r).queued = r.queued ∧
      (s.samplePoint levels p r).pendingReminders = r.pendingReminders ∧ (s.samplePoint levels p r).reminder = r.reminder :=
    fun p r => s.samplePoint_cases (P := fun r' => r'.qualified = r.qualified ∧ r'.queued = r.queued ∧
      r'.pendingReminders = r.pendingReminders ∧ r'.reminder = r.reminder) levels p r ⟨rfl, rfl, rfl, rfl⟩
      fun u high => r.sample_keeps u high
  have points : (s.onPoints (s.samplePoint levels)).PointsOk := by
    refine h.points.onPoints (fun p => (keeps p _).2.2.2) fun p => ?_
    have timers := And.intro (h.points p).1 (h.points p).2.1
    exact s.samplePoint_cases (P := fun r => (r.qualified = .active → r.qualify = none) ∧
      (r.qualified = .inactive → r.release = none)) levels p _ timers fun u high => PointRecord.sample_timers timers u high
  exact .next (h.onPoints keeps points)

/-! ## The line (R93, R94, R97, R100 to R105, R116) -/

/-- An event of LC alone, without a close, that leaves the frame in flight. -/
theorem State.Sound.onLine {t : State} (h : s.Sound) (cs : t.cs = s.cs) (et : t.et = s.et) (ru : t.ru = s.ru)
    (pu : t.pu = s.pu) (sq : t.sq = s.sq) (lp : t.lp = s.lp) (ou : t.ou = s.ou) (line : t.LineOk)
    (receiver : t.lc.receiverOn = s.lc.receiverOn) (flight : t.lc.inFlight = s.lc.inFlight) : t.Sound :=
  h.quietly (h.settled.onLine cs et ru pu sq lp line receiver) flight (by rw [ru]) cs et pu (by rw [ru]) (by rw [ru]) ou

theorem lands_lineIdle (h : s.Sound) : Lands (execLineIdle s) := by
  refine .ite (fun ⟨receiver, assembling, quiet⟩ => ?_) fun _ => h
  obtain ⟨-, -, -, -, few⟩ := h.line
  exact h.onLine rfl rfl rfl rfl rfl rfl rfl
    ⟨by simp [quiet], by simp [quiet], fun _ => ⟨by simpa using assembling, quiet, receiver⟩,
      fun yes => absurd yes assembling, few⟩ rfl rfl

theorem lands_frameStart (h : s.Sound) : Lands (execFrameStart s) := by
  refine .ite (fun ⟨receiver, idle⟩ => ?_) fun _ => h
  obtain ⟨l1, l2, l3, -, few⟩ := h.line
  exact h.onLine rfl rfl rfl rfl rfl rfl rfl
    ⟨l1, l2, fun no => absurd no Bool.false_ne_true, fun _ => ⟨(l3 idle).2.1, receiver⟩, few⟩ rfl rfl

/-- LTX takes up an item of the list (R104, R116). -/
theorem State.ListOk.launch {flying : Option Item} (h : s.ListOk flying []) {x : Item} (listed : x ∈ s.sq.items) :
    s.ListOk (some x) [] := by
  refine { h with flightYoung := fun f hf => ?_, flight := fun f hf y hy same => ?_ }
  · obtain rfl : x = f := by simpa using hf
    exact h.young x listed
  · obtain rfl : x = f := by simpa using hf
    exact .inl (congrArg Item.kind (h.eq_of_age hy listed same))

theorem State.Sound.attempt (h : s.Sound) (may : s.mayAttempt = true) {x : Item} (head : s.headItem = some x) :
    (s.attempt x).Sound := by
  simp only [State.mayAttempt, Bool.and_eq_true] at may
  obtain ⟨⟨⟨-, idle⟩, -⟩, sends⟩ := may
  obtain ⟨-, -, l3, -, few⟩ := h.line
  have launched := (h.settled.list.launch (State.headItem_mem head).1).congr_blocks (t := s.attempt x) rfl rfl rfl rfl
  have settled : (s.attempt x).Settled (some x) :=
    ⟨h.port, h.roster, h.settled.timers, h.config,
      ⟨⟨fun _ => rfl, fun _ => rfl⟩, fun _ => sends, fun no => absurd no Bool.false_ne_true,
        fun no => absurd no (by simp [State.attempt, (l3 idle).1]), few⟩, h.count, launched, h.points, h.entries⟩
  exact (State.sound_iff _).2 ⟨h.outputs.congr_blocks rfl rfl rfl rfl rfl rfl, fun _ => rfl, settled⟩

theorem lands_attemptStart (h : s.Sound) : Lands (execAttemptStart s) := by
  refine .ite (fun may => ?_) fun _ => h
  split
  · exact h.attempt may ‹_›
  · exact h

theorem lands_arbitrationLost (h : s.Sound) : Lands (execArbitrationLost s) := by
  refine .next ?_
  split
  · exact h
  · exact (h.settled.loseArbitration ‹_›).sound_close

theorem lands_senderFault (h : s.Sound) (n : Nat) : Lands (execSenderFault n s) := by
  refine .next ?_
  split
  · exact h
  · exact (h.settled.faultAsSender ‹_› n).sound_close

/-- The end of a frame that is not the station's own (R100). -/
theorem State.Sound.endFrame (h : s.Sound) (quiet : s.lc.inFlight = none) : s.endFrame.Sound := by
  obtain ⟨-, -, -, -, few⟩ := h.line
  exact h.onLine rfl rfl rfl rfl rfl rfl rfl ⟨by simp [quiet], by simp [quiet], by simp, by simp, few⟩ rfl rfl

theorem State.receiving_quiet (receiving : s.receiving = true) : s.lc.inFlight = none := by
  simp only [State.receiving, Bool.and_eq_true, Option.isNone_iff_eq_none] at receiving
  exact receiving.1.2

theorem lands_frameAbandoned (h : s.Sound) : Lands (execFrameAbandoned s) :=
  .ite (fun receiving => h.endFrame (State.receiving_quiet receiving)) fun _ => h

theorem lands_frameVetoed (h : s.Sound) (rx : RxFrame) : Lands (execFrameVetoed rx s) := by
  refine .ite (fun _ => ?_) fun _ => h
  split
  · exact (h.settled.ownFrameVetoed _).sound_close
  · rename_i quiet
    split
    · exact h.endFrame quiet
    · split
      · exact ((h.onCounters _).onCounters _).endFrame quiet
      · exact h

theorem State.Sound.doubt (h : s.Sound) : (s.onRu fun r => { r with doubtful := true }).Sound :=
  h.quietly (h.settled.onRu rfl rfl h.settled.timers h.count) rfl rfl rfl rfl rfl rfl rfl rfl

theorem lands_frameDiscardedDamaged (h : s.Sound) (rx : RxFrame) : Lands (execFrameDiscardedDamaged rx s) := by
  refine .ite (fun damaged => ?_) fun _ => h
  simp only [Bool.and_eq_true] at damaged
  have ended : (s.issueVeto rx).endFrame.Sound := (h.onCounters _).endFrame (State.receiving_quiet damaged.1)
  unfold State.discardDamaged
  dsimp only
  split
  · exact ended.doubt
  · exact ended

/-! ## Timers of RU and SQ (R115, R127, R133, R137, R143, R148) -/

theorem State.announces_listed (h : s.ru.state.announces = true) : s.ru.state.holdsNothing = false := by
  cases state : s.ru.state <;> rw [state] at h <;> first | rfl | exact nomatch h

theorem lands_presenceTimerExpiry (h : s.Sound) : Lands (execPresenceTimerExpiry s) := by
  refine .ite (fun running => ?_) fun _ => h
  obtain ⟨t1, t2, t3, t4, t5, t6, t7⟩ := h.settled.timers
  have announces : s.ru.state.announces = true := t1.symm.trans running
  have asked : s.requestPresence.Settled (s.lc.inFlight.map InFlight.item) :=
    h.settled.onPointsAndList (by simp) (by simp) (by simp) (by simp) (by simp) s.requestPresence_mark
      (h.settled.list.requestPresence (State.announces_listed announces)) (h.points.congr (by simp) (by simp))
  obtain ⟨-, a2, a3, a4, a5, a6, a7⟩ := asked.timers
  have timed := asked.onRu (f := fun r => { r with presenceTimer := some s.requestPresence.presenceMs }) rfl rfl
    ⟨by simpa using announces.symm, a2, a3, a4, a5, a6, a7⟩ asked.count
  exact h.quietly timed (by simp) (by simp) (by simp) (by simp) (by simp) (by simp) (by simp) (by simp)

theorem lands_promotionTimerExpiry (h : s.Sound) : Lands (execPromotionTimerExpiry s) :=
  .ite (fun _ => h.quietly (h.settled.onPointsAndList rfl rfl rfl rfl rfl rfl h.settled.list.promote (h.points.congr rfl rfl))
    rfl rfl rfl rfl rfl rfl rfl rfl) fun _ => h

/-- A silence timer runs for a peer that stands (R129, R131). -/
theorem State.RosterOk.suspect (h : s.RosterOk) {t : StationId} (running : (s.record t).silence.isSome = true) :
    t ≠ s.own ∧ (s.onRecord t fun r => { r with suspect := true, silence := none }).RosterOk := by
  have stands : ¬ (t = s.own ∨ (s.record t).state.live = false) := fun due => by
    rw [(h t due).2] at running
    exact nomatch running
  obtain ⟨peer, live⟩ := not_or.1 stands
  refine ⟨peer, h.onRecord t _ fun _ due => ?_⟩
  rcases due with own | gone
  · exact absurd (beq_iff_eq.1 own) peer
  · exact absurd gone live

theorem lands_silenceTimerExpiry (h : s.Sound) (station : StationId) : Lands (execSilenceTimerExpiry station s) := by
  refine .ite (fun running => ?_) fun _ => h
  obtain ⟨peer, roster⟩ := h.roster.suspect running
  have marked : (s.onRecord station fun r => { r with suspect := true, silence := none }).Settled
      (s.lc.inFlight.map InFlight.item) :=
    h.settled.change rfl rfl rfl id id h.port roster (h.settled.list.congr_blocks rfl rfl rfl rfl) h.points h.entries
  have suspected : (State.suspect s station).Settled (s.lc.inFlight.map InFlight.item) := by
    unfold State.suspect
    dsimp only
    refine State.Settled.takeDuties ?_
    split
    · rename_i reference
      have member := State.member_of_isOwnReference reference
      refine marked.onPointsAndList (by simp) (by simp) (by simp) (by simp) (by simp) ?_
        (marked.list.requestLost (State.member_listed member) peer) (marked.points.congr (by simp) (by simp))
      unfold State.requestLost
      split <;> rfl
    · exact marked
  refine h.close suspected (by simp) ?_ s
  unfold State.suspect
  dsimp only
  rw [State.takeDuties_deferred]
  split <;> simp

theorem lands_muteTimerExpiry (h : s.Sound) : Lands (execMuteTimerExpiry s) := by
  refine .ite (fun ⟨muted, _⟩ => ?_) fun _ => h
  exact (h.settled.landed.leaveMuted (State.inState_iff.1 muted)).sound_close

theorem lands_windowTimerExpiry (h : s.Sound) : Lands (execWindowTimerExpiry s) := by
  refine .ite (fun ⟨listening, _⟩ => ?_) fun _ => h
  have state := State.inState_iff.1 listening
  have quiet := h.line.quiet_of (by rw [state]; rfl)
  exact State.Ended.sound_close
    ⟨(h.settled.steady.found quiet state).landed, by simpa using quiet, by rw [State.found_ru]⟩

theorem State.Sound.deferExpiry (h : s.Sound) (running : s.ru.attemptTimer.isSome = true) :
    (s.onRu fun r => { r with attemptTimer := none, deferredExpiry := true }).Settled (s.lc.inFlight.map InFlight.item) := by
  obtain ⟨t1, t2, t3, t4, t5, t6, t7⟩ := h.settled.timers
  exact h.settled.onRu rfl rfl ⟨t1, t2, t3, t4, t5, by simpa [running] using t6, t7⟩ h.count

theorem lands_attemptTimerExpiry (h : s.Sound) : Lands (execAttemptTimerExpiry s) := by
  refine .ite (fun running => ?_) fun _ => h
  unfold State.expireAttempt
  dsimp only
  split
  · rename_i flies
    exact State.Settled.sound_close (h.deferExpiry running) fun _ => flies
  · rename_i quiet
    have quiet : s.lc.inFlight = none := by simpa using quiet
    exact (h.settled.landed.expireAttempt quiet running (h.answered quiet)).sound_close

/-! ## Output Unit (R79, R85) -/

theorem State.Sound.onOutputs (h : s.Sound) (g : OutputUnit → OutputUnit) : (State.close s (s.onOu g)).Sound :=
  h.close (t := s.onOu g) (h.settled.congr_blocks rfl rfl rfl rfl rfl rfl (h.port.congr rfl rfl)) rfl rfl s

theorem lands_pulseTimerExpiry (h : s.Sound) (output : OutputId) : Lands (execPulseTimerExpiry output s) :=
  .ite (fun _ => h.onOutputs _) fun _ => h

theorem lands_flasherPhaseChange (h : s.Sound) (flasher : FlasherId) : Lands (execFlasherPhaseChange flasher s) :=
  .next (h.onOutputs _)

end Commands

end Sys2Proof.Machine
end

section
/-! PROOF. The passing of time, the reset state, and every step: O58 and O60. -/

namespace Sys2Proof.Machine

/-! ## One millisecond -/

theorem State.tick_ru (s : State) : s.tick.ru =
    { s.ru with
      roster := vmap (fun _ x => { x with silence := countDown x.silence }) s.ru.roster
      presenceTimer := countDown s.ru.presenceTimer
      muteTimer := countDown s.ru.muteTimer
      windowTimer := countDown s.ru.windowTimer
      attemptTimer := countDown s.ru.attemptTimer } := by
  simp [State.tick]

theorem State.tick_ou (s : State) : s.tick.ou =
    { s.ou with
      fast := { s.ou.fast with remaining := s.ou.fast.remaining - 1 }
      slow := { s.ou.slow with remaining := s.ou.slow.remaining - 1 }
      pulses := vmap (fun _ t => countDown t) s.ou.pulses } := by
  simp [State.tick]

theorem State.tick_lp (s : State) : s.tick.lp =
    { s.lp with promptTimer := countDown s.lp.promptTimer, releaseTimer := countDown s.lp.releaseTimer } := by
  simp [State.tick]

theorem State.PortOk.tick {s : State} (h : s.PortOk) : s.tick.PortOk := by
  obtain ⟨queue, read, attn, prompt⟩ := h
  have period : s.tick.promptPeriod = s.promptPeriod := State.promptPeriod_congr s.tick_frame.1
  refine ⟨?_, ?_, ?_, fun runs => ?_⟩
  · rw [State.tick_lp]
    exact queue
  · rw [State.tick_lp]
    exact read
  · rw [State.tick_lp]
    simp only [LocalPort.AttnOk, countDown_isNone]
    exact attn
  · rw [State.tick_lp, countDown_isSome] at runs
    rw [period, State.tick_lp]
    exact prompt runs

theorem State.RosterOk.tick {s : State} (h : s.RosterOk) : s.tick.RosterOk := by
  refine h.of_records s.tick_frame.1 fun u ok due => ?_
  have record : s.tick.record u = { s.record u with silence := countDown (s.record u).silence } := by
    simp [State.record, State.tick_ru]
  rw [record] at due ⊢
  obtain ⟨suspect, silence⟩ := ok due
  exact ⟨suspect, by rw [silence]; rfl⟩

theorem ReminderTimer.countDown_okIn (r : ReminderTimer) (st : StationState) : r.countDown.okIn st = r.okIn st := by
  cases r <;> rfl

theorem State.PointsOk.tick {s : State} (h : s.PointsOk) : s.tick.PointsOk := by
  intro p
  rw [State.tick_point, State.tick_state, ReminderTimer.countDown_okIn]
  exact h p

theorem State.TimersOk.tick {s : State} (h : s.TimersOk) : s.tick.TimersOk := by
  simp only [State.TimersOk, State.inState, State.tick_ru, State.tick_sq, countDown_isSome]
  exact h

theorem State.Settled.tick {flying : Option Item} {s : State} (h : s.Settled flying) : s.tick.Settled flying := by
  have cs : s.tick.cs = s.cs := s.tick_frame.1
  have et : s.tick.et = s.et := by simp
  have lc : s.tick.lc = s.lc := by simp
  refine ⟨h.port.tick, h.roster.tick, h.timers.tick, ?_, ?_, ?_, h.list.tick, h.points.tick, h.entries.congr (by rw [et])⟩
  · simp only [State.ConfigOk, cs, lc, State.tick_state]
    exact h.config
  · simp only [State.LineOk, lc, State.tick_state]
    exact h.line
  · simp only [State.CountOk, et, State.tick_ru]
    exact h.count

theorem State.Sound.tick {s : State} (h : s.Sound) : s.tick.Sound := by
  have lc : s.tick.lc = s.lc := by simp
  refine (State.sound_iff _).2 ⟨?_, ?_, by rw [lc]; exact h.settled.tick⟩
  · exact h.outputs.congr s.tick_frame.1 (by simp) (fun p => by rw [State.tick_point]) s.tick_state
      (by rw [State.tick_ru]) (by rw [State.tick_ou]) (by rw [State.tick_ou]) (by rw [State.tick_ou]) (by rw [State.tick_ou])
      (by rw [State.tick_ou]) fun o => by simp [State.tick_ou, countDown_isSome]
  · simp only [State.DeferralOk, lc, State.tick_ru]
    exact h.deferral

/-! ## Reset (R124) -/

/-- The reset state of a station with this number, with these commands waiting and this many free values drawn. -/
def State.resetAt (k : StationId) (pending : List Instr) (freeCount : Nat) : State :=
  { State.reset with
    cs := { State.reset.cs with stationNumber := k }
    pending := pending
    freeCount := freeCount }

theorem execHardwareReset_eq (ids : BitVec 4) (s : State) :
    execHardwareReset ids s = .next (State.resetAt (stationOfPins ids) s.pending s.freeCount) := rfl

section Reset
variable (k : StationId) (pending : List Instr) (freeCount : Nat)

theorem State.entry_resetAt (i : EntryIndex) : (State.resetAt k pending freeCount).entry i = Entry.pristine := by
  simp [State.entry, State.resetAt, State.reset]

theorem State.point_resetAt (p : PointId) : (State.resetAt k pending freeCount).point p = PointRecord.unloaded := by
  simp [State.point, State.resetAt, State.reset]

theorem State.record_resetAt (t : StationId) : (State.resetAt k pending freeCount).record t = RosterRecord.absent := by
  simp [State.record, State.resetAt, State.reset]

/-- After reset no trip reason holds and no pin is driven (R62, R88). -/
theorem State.outputsOk_resetAt : (State.resetAt k pending freeCount).OutputsOk := by
  have setup : (State.resetAt k pending freeCount).cs.setup = none := rfl
  have table : (State.resetAt k pending freeCount).tripTable = false := by
    simp [State.tripTable, State.entry_resetAt, Entry.pristine]
  have points : (State.resetAt k pending freeCount).tripOwnPoint = false := by
    simp [State.tripOwnPoint, State.pointUsed, State.pointSource, State.pointSetup, setup]
  have uncertain : (State.resetAt k pending freeCount).tripUncertain = false := by
    simp [State.tripUncertain, setup]
  refine ⟨?_, ?_, fun _ => rfl⟩
  · rw [State.tripReasons, table, points, uncertain]
    rfl
  · refine Vector.ext fun o ho => ?_
    simp [State.outputPins, State.outputPin, State.rule, setup]
    simp [State.resetAt, State.reset]

theorem State.sound_resetAt : (State.resetAt k pending freeCount).Sound := by
  have entry := State.entry_resetAt k pending freeCount
  have point := State.point_resetAt k pending freeCount
  have record := State.record_resetAt k pending freeCount
  have empty : (State.resetAt k pending freeCount).sq.items = [] := rfl
  have none_counted : ∀ g, (State.resetAt k pending freeCount).countItems g = 0 := fun _ => rfl
  refine (State.sound_iff _).2 ⟨State.outputsOk_resetAt k pending freeCount, fun no => absurd no Bool.false_ne_true, ?_⟩
  refine ⟨?_, fun t _ => ?_, ?_, ?_, ?_, ?_, ?_, fun p => ?_, fun i _ => entry i⟩
  · exact ⟨⟨Nat.zero_le _, fun n no => absurd no (by simp [State.resetAt, State.reset])⟩,
      fun o no => absurd no (by simp [State.resetAt, State.reset]), rfl, fun no => absurd no Bool.false_ne_true⟩
  · rw [record]
    exact ⟨rfl, rfl⟩
  · simp [State.TimersOk, State.resetAt, State.reset, State.inState, StationState.announces, StationState.attempts]
  · simp [State.ConfigOk, State.resetAt, State.reset, StationState.outOfService]
  · simp [State.LineOk, State.resetAt, State.reset]
  · simp [State.CountOk, State.resetAt, State.reset]
  · constructor <;> simp [empty, none_counted, point, PointRecord.unloaded]
    simp [State.resetAt, State.reset]
  · rw [point]
    exact ⟨fun _ => rfl, fun _ => rfl, rfl⟩

end Reset

/-- Settles O58: the reset state is the one of station 0 with nothing waiting. -/
theorem resetStateIsSound : Obligations.ResetStateIsSound := State.sound_resetAt 0 [] 0

/-! ## Every step -/

theorem State.Sound.exec {s : State} (h : s.Sound) (c : Instr) : Lands (exec c s) := by
  cases c with
  | hardwareReset ids => exact .next (State.sound_resetAt _ s.pending s.freeCount)
  | statusRead => exact lands_statusRead h
  | entryRead index => exact lands_entryRead h index
  | entryScan start phases => exact lands_entryScan h start phases
  | rosterRead station => exact lands_rosterRead h station
  | notifyRead => exact lands_notifyRead h
  | notifyReadComplete => exact lands_notifyReadComplete h
  | countersRead => exact lands_countersRead h
  | countersClear => exact lands_countersClear h
  | acknowledge index => exact lands_acknowledge h index
  | purge origin => exact lands_purge h origin
  | silence => exact lands_silence h
  | softPoint point level => exact lands_softPoint h point level
  | profileLoad image => exact lands_profileLoad h image
  | setupLoad image => exact lands_setupLoad h image
  | start => exact lands_start h
  | leave => exact lands_leave h
  | unknownCommand code => exact lands_unknownCommand h code
  | commandDiscarded => exact lands_commandDiscarded h
  | qualifyTimerExpiry point => exact lands_qualifyTimerExpiry h point
  | releaseTimerExpiry point => exact lands_releaseTimerExpiry h point
  | reminderExpiry point => exact lands_reminderExpiry h point
  | lineIdle => exact lands_lineIdle h
  | attemptStart => exact lands_attemptStart h
  | arbitrationLost => exact lands_arbitrationLost h
  | senderFault n => exact lands_senderFault h n
  | frameAbandoned => exact lands_frameAbandoned h
  | presenceAccepted sender payload => exact .next (h.accept sender _)
  | pointAccepted sender payload => exact .next (h.accept sender _)
  | claimAccepted sender payload => exact .next (h.accept sender _)
  | lostAccepted sender payload => exact .next (h.accept sender _)
  | purgeAccepted sender origin => exact .next (h.accept sender _)
  | leaveAccepted sender cause => exact .next (h.accept sender _)
  | joinAccepted sender payload => exact .next (h.accept sender _)
  | snapshotAccepted sender payload => exact .next (h.accept sender _)
  | frameVetoed rx => exact lands_frameVetoed h rx
  | frameDiscardedDamaged rx => exact lands_frameDiscardedDamaged h rx
  | presenceTimerExpiry => exact lands_presenceTimerExpiry h
  | promotionTimerExpiry => exact lands_promotionTimerExpiry h
  | silenceTimerExpiry station => exact lands_silenceTimerExpiry h station
  | muteTimerExpiry => exact lands_muteTimerExpiry h
  | windowTimerExpiry => exact lands_windowTimerExpiry h
  | attemptTimerExpiry => exact lands_attemptTimerExpiry h
  | pulseTimerExpiry output => exact lands_pulseTimerExpiry h output
  | flasherPhaseChange flasher => exact lands_flasherPhaseChange h flasher
  | promptTimerExpiry => exact lands_promptTimerExpiry h
  | attnReleaseEnd => exact lands_attnReleaseEnd h
  | inputSample levels => exact lands_inputSample h levels
  | frameStart => exact lands_frameStart h

/-- The commands waiting play no part in the invariants. -/
theorem State.Sound.wait {s : State} (h : s.Sound) (pending : List Instr) : ({ s with pending := pending } : State).Sound :=
  h.onPort (h.port.congr rfl rfl) rfl rfl rfl rfl rfl rfl rfl

/-- Settles O60: each command, and the millisecond that passes on an empty queue, keeps `State.Settled` through its parts, and
the close of an event brings the outputs into agreement. -/
theorem everyStepKeepsSoundness : Obligations.EveryStepKeepsSoundness := by
  intro s t h run
  cases queue : s.pending with
  | nil =>
    obtain rfl : s.tick = t := by simpa [step, queue] using run
    exact h.tick
  | cons c rest => exact (h.wait rest).exec c t (by simpa [step, queue] using run)

end Sys2Proof.Machine
end

section
/-! PROOF. START enters LISTENING (O17), and the end of the window founds a system (O51). -/

namespace Sys2Proof.Machine

/-! ## The blocks after the close of an event -/

theorem State.close_trip (old s : State) : (State.close old s).ou.trip = s.tripReasons := by rw [State.close_ou]

theorem State.close_silenceMark (old s : State) : (State.close old s).ou.silenceMark = s.ou.silenceMark := by rw [State.close_ou]

theorem StationState.outOfService_iff (st : StationState) :
    st.outOfService = true ↔ st = .configuring ∨ st = .offline ∨ st = .refused := by
  cases st <;> simp [StationState.outOfService]

/-! ## START (R2, R128, R142, R181) -/

theorem State.mayStart_iff (s : State) : s.mayStart = true ↔
    (s.ru.state = .configuring ∨ s.ru.state = .offline ∨ s.ru.state = .refused) ∧ s.cs.profile ≠ none ∧ s.cs.setup ≠ none := by
  simp only [State.mayStart, Bool.and_eq_true, StationState.outOfService_iff, Option.isSome_iff_ne_none, and_assoc]

/-- START finds the list empty, and so leaves the points. -/
theorem State.startStation_pu {s : State} (empty : s.sq.items = []) : s.startStation.pu = s.pu := by
  have entered : (s.enter .listening).sq.items = [] := empty
  simp [State.startStation, State.removeItems_of_empty entered]

theorem State.reference_none {s : State} (other : s.ru.state.namesReference = false) : s.reference = none := by
  simp [State.reference, other]

/-- Settles O17: `State.startStation` block by block, through the close of its event. -/
theorem startEntersListening : Obligations.StartEntersListening := by
  intro s h
  refine ⟨fun refused => ?_, fun p out profile setup => ?_⟩
  · have may : s.mayStart = false := by
      rw [Bool.eq_false_iff, ne_eq, State.mayStart_iff]
      exact refused
    simp only [exec, execStart, may, Bool.false_eq_true, if_false]
    rfl
  · have may : s.mayStart = true := s.mayStart_iff.2 ⟨out, by simp [profile], setup⟩
    have empty := h.settled.list.empty (StationState.holdsNothing_of_outOfService ((StationState.outOfService_iff _).2 out))
    have ru := s.startStation_ru
    have et := s.startStation_et
    have period : s.presenceMs = 10 * p.presenceTens.toNat := by rw [State.presenceMs, profile]
    have uncertain : (s.startStation.answer .ok []).tripUncertain = true := by
      simp [State.tripUncertain, ru, Option.isSome_iff_ne_none, setup]
    have run : exec .start s = .next (State.close s (s.startStation.answer .ok [])) := by
      simp only [exec, execStart, may, if_true]
    refine ⟨_, run, ?_⟩
    refine ⟨by rw [State.close_reply]; rfl, by simp [ru], by simp [ru], by simp [ru],
      State.reference_none (by simp [ru, StationState.namesReference]), by simp [ru, period], fun i => ?_, by simp [et],
      fun u => ?_, by simp [ru], by simp [ru], by simp [ru], by simp [ru], fun i => by simp [ru], by simp [State.startStation_sq],
      by simp [State.startStation_lc], by simp [State.startStation_lc], by simp [State.startStation_lc], ?_, ?_,
      by simp, by simp [State.startStation_pu empty], by simp⟩
    · simp [State.entry, et]
    · simp [State.record, ru]
    · rw [State.close_trip]
      exact uncertain
    · rw [State.close_silenceMark]
      simp

/-! ## Founding (R44, R112, R138, R143) -/

theorem State.requestPresence_hasItem (s : State) : s.requestPresence.hasItem ItemKind.isPresence = true := by
  unfold State.requestPresence
  split
  · assumption
  · simp [State.hasItem, ItemKind.isPresence]

theorem State.hasItem_queuePoint {s : State} {k : ItemKind → Bool} (held : s.hasItem k = true) (p : PointId) :
    (s.queuePoint p).hasItem k = true := by
  obtain ⟨x, hx, hk⟩ := List.any_eq_true.1 held
  exact List.any_eq_true.2 ⟨x, by simp [State.queuePoint, hx], hk⟩

/-- A full re-announce removes no item (R44). -/
theorem State.hasItem_reannounceAll {s : State} {k : ItemKind → Bool} (held : s.hasItem k = true) :
    s.reannounceAll.hasItem k = true := by
  refine List.foldlRecOn (motive := fun u : State => u.hasItem k = true) (List.finRange 16) _ held fun u hu p _ => ?_
  split
  · exact State.hasItem_queuePoint hu p
  · exact hu

theorem State.point_queuePoint (s : State) (p q : PointId) :
    (s.queuePoint p).point q = if q = p then { s.point q with queued := true } else s.point q :=
  State.point_onPoint (s.enqueue (.point p) (s.pointClass p)) p q _

/-- After a full re-announce every used point is queued (R44). -/
theorem State.reannounceAll_queued (s : State) {p : PointId} (used : s.pointUsed p = true) :
    (s.reannounceAll.point p).queued = true := by
  have list : ∀ (l : List PointId) (u : State), u.cs = s.cs → (p ∈ l ∨ (u.point p).queued = true) →
      ((l.foldl (fun s p => if s.pointUsed p && !(s.point p).queued then s.queuePoint p else s) u).point p).queued = true := by
    intro l
    induction l with
    | nil => exact fun u _ queued => queued.resolve_left List.not_mem_nil
    | cons q rest ih =>
      intro u cs due
      have used_u : u.pointUsed p = true := by
        have setup : u.pointSetup = s.pointSetup := by funext r; simp only [State.pointSetup, cs]
        simpa only [State.pointUsed, State.pointSource, setup] using used
      refine ih _ (by dsimp only; split <;> simp [cs]) ?_
      dsimp only
      rcases due with listed | queued
      · rcases List.mem_cons.1 listed with rfl | later
        · right
          split
          · rw [State.point_queuePoint, if_pos rfl]
          · simp_all
        · exact .inl later
      · right
        split
        · rw [State.point_queuePoint]
          split
          · rfl
          · exact queued
        · exact queued
  exact list _ s rfl (.inl (List.mem_finRange p))

/-- With every entry pristine no reminder timer may run (R39). -/
theorem State.mayRemind_of_pristine {s : State} (pristine : ∀ i : EntryIndex, s.entry i = Entry.pristine) (p : PointId) :
    s.mayRemind p = false := by
  simp [State.mayRemind, State.ownEntry, pristine, Entry.pristine, Phase.pending]

theorem State.point_announced_of_pristine {s : State} (pristine : ∀ i : EntryIndex, s.entry i = Entry.pristine) (p : PointId) :
    (s.announced.point p).reminder = (s.point p).reminder := by
  have table : ∀ i, s.requestPresence.startPresenceTimer.reannounceAll.entry i = Entry.pristine := fun i => by
    rw [State.entry_congr (s := s) (by simp)]
    exact pristine i
  rw [State.announced, State.point_startReminders, State.mayRemind_of_pristine table, if_neg Bool.false_ne_true,
    State.point_reannounceAll_reminder, State.point_congr (s := s) (by simp)]

/-- What the founding leaves of a point (R39, R44). -/
theorem State.point_found_of_stopped {s : State} {p : PointId} (stopped : (s.point p).reminder = .stopped) :
    (s.found.point p).reminder = .stopped ∧ (s.pointUsed p = true → (s.found.point p).queued = true) := by
  have pristine : ∀ i, s.founded.entry i = Entry.pristine := fun i => by simp [State.entry, State.founded_et]
  rw [State.point_congr s.found_pu]
  constructor
  · rw [State.point_announced_of_pristine pristine, State.point_congr s.founded_frame.2.1, stopped]
  · intro used
    have levels := State.startReminders_sameLevels s.founded.requestPresence.startPresenceTimer.reannounceAll p
    have queued : ∀ u : State, (u.startReminders.point p).queued = (u.point p).queued := fun u => by
      rw [State.point_startReminders]
      split <;> rfl
    have setup : s.founded.requestPresence.startPresenceTimer.pointUsed p = true := by
      have same : s.founded.requestPresence.startPresenceTimer.pointSetup = s.pointSetup := by
        funext r
        simp only [State.pointSetup, State.startPresenceTimer_frame, State.requestPresence_frame, s.founded_frame.1]
      simpa only [State.pointUsed, State.pointSource, same] using used
    rw [State.announced, queued]
    exact State.reannounceAll_queued _ setup

theorem State.found_hasPresence (s : State) : s.found.hasItem ItemKind.isPresence = true := by
  have asked := State.hasItem_reannounceAll (k := ItemKind.isPresence) (s := s.founded.requestPresence.startPresenceTimer)
    (by simpa [State.hasItem] using s.founded.requestPresence_hasItem)
  have sq : s.found.sq = s.founded.requestPresence.startPresenceTimer.reannounceAll.sq := by
    rw [State.found_eq, State.onOu_sq, State.announced, (State.startReminders_frame _).2.2.2.1]
  simpa only [State.hasItem, sq] using asked

theorem State.found_silenceMark (s : State) : s.found.ou.silenceMark = 0 := by
  rw [State.found_eq, State.onOu_ou]

theorem State.countItems_eq_one {s : State} {k : ItemKind → Bool} (held : s.hasItem k = true) (few : s.countItems k ≤ 1) :
    s.countItems k = 1 := by
  have : s.countItems k ≠ 0 := fun none => by
    rw [State.countItems_eq_zero.1 none] at held
    exact nomatch held
  omega

/-- A MEMBER whose roster holds no other station names itself (R138). -/
theorem State.reference_alone {s : State} (member : s.ru.state = .member)
    (others : ∀ u, u ≠ s.own → s.record u = RosterRecord.absent) : s.reference = some s.own := by
  have names : s.ru.state.namesReference = true := by rw [member]; rfl
  rw [State.reference, if_pos names, find?_finRange_eq_some]
  constructor
  · simp [State.qualifies, State.inState, member]
  · intro u lower
    rw [State.qualifies, if_neg (Fin.ne_of_lt lower), others u (Fin.ne_of_lt lower)]
    rfl

/-- Settles O51: `State.found` block by block, through the close of its event. -/
theorem windowEndFoundsASystem : Obligations.WindowEndFoundsASystem := by
  intro s h listening
  have running : s.ru.windowTimer.isSome = true := by
    obtain ⟨-, window, -⟩ := h.settled.timers
    rw [window]
    exact State.inState_iff.2 listening
  have ru := s.found_ru
  have et := s.found_et
  have run : exec .windowTimerExpiry s = .next (State.close s s.found) := by
    simp only [exec, execWindowTimerExpiry]
    rw [if_pos ⟨State.inState_iff.2 listening, running⟩]
  have sound : (State.close s s.found).Sound := (lands_windowTimerExpiry h) _ run
  have stopped := fun q => ReminderTimer.stopped_of_okIn (h.points q).2.2 (by rw [listening]; exact fun no => nomatch no)
    (by rw [listening]; exact fun no => nomatch no)
  have record : ∀ u : StationId, (State.close s s.found).record u =
      if u = s.cs.stationNumber then { RosterRecord.absent with state := .present } else RosterRecord.absent := by
    intro u
    simp only [State.record, State.close_frame, ru, Fin.getElem_fin, vset_get, Vector.getElem_replicate, Fin.ext_iff, State.own,
      eq_comm]
  have entry : ∀ i : EntryIndex, (State.close s s.found).entry i = Entry.pristine := fun i => by simp [State.entry, et]
  have point : ∀ q, (State.close s s.found).point q = s.found.point q := State.point_congr (by simp)
  have own : (State.close s s.found).own = s.own := by simp [State.own]
  refine ⟨_, run, by simp [ru], by simp [et], by simp [et], entry, record, ?_, ?_, by simp, by simp, by simp, by simp [ru], ?_,
    ?_, fun q used => ?_, by simp [ru], by simp [ru], fun q => ⟨State.mayRemind_of_pristine entry q, ?_⟩⟩
  · rw [← State.own, ← own]
    exact State.reference_alone (by simp [ru]) fun u other => by
      rw [record, if_neg (by rw [own] at other; exact other)]
  · exact State.countItems_eq_one (by simpa [State.hasItem] using s.found_hasPresence) sound.bounds.2.2.2.2.1
  · rw [State.close_silenceMark, State.found_silenceMark]
  · rw [State.close_trip]
    simp [State.tripReasons, State.tripUncertain, ru]
  · rw [point]
    exact (State.point_found_of_stopped (stopped q)).2 used
  · rw [point]
    exact (State.point_found_of_stopped (stopped q)).1

end Sys2Proof.Machine
end

section
/-! PROOF. What an acceptance leaves of each block, and what it pushes (R3, R23, R103, R130, R131). -/

namespace Sys2Proof.Machine

/-! ## Which acceptance it is -/

theorem exec_acceptanceOf (sender : StationId) (n : Notice) (s : State) :
    exec (acceptanceOf sender n) s = .next (s.accept sender n) := by
  cases n <;> rfl

theorem State.accept_foreign {s : State} (h : s.receives) (sender : StationId) (n : Notice) :
    s.accept sender n = s.acceptFrame sender none n := by
  obtain ⟨on, quiet, assembling⟩ := h
  simp [State.accept, State.arrival, on, quiet, assembling]

/-! ## The parts of an acceptance, named -/

/-- The frame is taken off the line, and an own JOIN marked. -/
def State.begun (old : State) (own : Option Item) (n : Notice) : State := (old.takeFrame own).markOwnJoin own n

/-- The state in which the notice is judged: the line count has advanced and the sender has been heard (R23, R130). -/
def State.judged (old : State) (sender : StationId) (own : Option Item) (n : Notice) : State :=
  ((old.begun own n).countFrame sender n).hearSender sender

/-- The kind's effect on table and roster has been applied (R103). -/
def State.applied (old : State) (sender : StationId) (own : Option Item) (n : Notice) : State :=
  (old.judged sender own n).applyKind sender ((old.begun own n).takesSegment sender) n

theorem State.applyFrame_of_applies {old : State} (sender : StationId) {own : Option Item} {n : Notice}
    (applies : (old.begun own n).applies = true) :
    State.applyFrame old (old.begun own n) sender own n =
      State.recoverFromLost (old.judged sender own n) (State.settlePoints old (old.applied sender own n) own n) n := by
  rw [State.applyFrame, if_pos applies]
  rfl

theorem State.applyFrame_of_not {old : State} (sender : StationId) {own : Option Item} {n : Notice}
    (stands : (old.begun own n).applies = false) :
    State.applyFrame old (old.begun own n) sender own n = old.begun own n := by
  rw [State.applyFrame, if_neg (by simp [stands])]

theorem State.taken_eq (old : State) (sender : StationId) (own : Option Item) (n : Notice) : old.taken sender own n =
    State.settleQueue old (State.applyFrame old (old.begun own n) sender own n) sender own n := rfl

/-! ## The frame taken, counted and heard -/

theorem State.begun_none (old : State) (n : Notice) : old.begun none n = old.takeFrame none := by
  cases n <;> rfl

theorem State.begun_frame (old : State) (own : Option Item) (n : Notice) : (old.begun own n).cs = old.cs ∧
    (old.begun own n).et = old.et ∧ (old.begun own n).pu = old.pu ∧ (old.begun own n).sq = old.sq ∧
    (old.begun own n).ou = old.ou ∧ (old.begun own n).lp = old.lp ∧ (old.begun own n).lc = (old.takeFrame own).lc ∧
    (old.begun own n).pending = old.pending := by
  simp [State.begun]

theorem State.begun_none_ru (old : State) (n : Notice) : (old.begun none n).ru = old.ru := by
  rw [State.begun_none]
  simp

theorem State.begun_roster (old : State) (own : Option Item) (n : Notice) :
    (old.begun own n).ru.roster = old.ru.roster := by
  have marked : ∀ s : State, (s.markOwnJoin own n).ru.roster = s.ru.roster := by
    intro s
    unfold State.markOwnJoin
    split
    · split <;> rfl
    · rfl
  rw [State.begun, marked]
  simp

theorem State.applies_congr {s t : State} (ru : t.ru = s.ru) : t.applies = s.applies := by
  simp only [State.applies, ru]

theorem State.begun_none_applies (old : State) (n : Notice) : (old.begun none n).applies = old.applies :=
  State.applies_congr (old.begun_none_ru n)

theorem State.takesSegment_congr {s t : State} (ru : t.ru = s.ru) (sender : StationId) :
    t.takesSegment sender = s.takesSegment sender := by
  simp only [State.takesSegment, State.appliesSegments, State.record, ru]

theorem State.judged_frame (old : State) (sender : StationId) (own : Option Item) (n : Notice) :
    (old.judged sender own n).cs = old.cs ∧ (old.judged sender own n).pu = old.pu ∧ (old.judged sender own n).sq = old.sq ∧
    (old.judged sender own n).ou = old.ou ∧ (old.judged sender own n).lp = old.lp ∧
    (old.judged sender own n).lc = (old.takeFrame own).lc ∧ (old.judged sender own n).pending = old.pending ∧
    (old.judged sender own n).et.table = old.et.table := by
  obtain ⟨cs, et, pu, sq, ou, lp, lc, pending⟩ := old.begun_frame own n
  simp [State.judged, State.countFrame_table, cs, et, pu, sq, ou, lp, lc, pending]

theorem State.judged_entry (old : State) (sender : StationId) (own : Option Item) (n : Notice) (i : EntryIndex) :
    (old.judged sender own n).entry i = old.entry i :=
  State.entry_congr (old.judged_frame sender own n).2.2.2.2.2.2.2 i

theorem State.judged_et (old : State) (sender : StationId) (own : Option Item) (n : Notice) :
    (old.judged sender own n).et = ((old.begun own n).countFrame sender n).et := by
  simp [State.judged]

/-- The line count of a frame that carries no segment content (R23). -/
theorem State.countFrame_count {s : State} {sender : StationId} {n : Notice}
    (plain : (∀ p, n ≠ .snapshot p) ∨ s.takesSegment sender = false) :
    (s.countFrame sender n).et.lineCount = s.countAtAcceptance ∧ (s.countFrame sender n).et.countValid = s.et.countValid := by
  cases n with
  | snapshot p =>
    have refused := plain.resolve_left fun other => other p rfl
    simp [State.countFrame, refused, State.countAtAcceptance]
  | _ => simp [State.countFrame, State.countAtAcceptance]

theorem State.countAtAcceptance_congr {s t : State} (et : t.et = s.et) : t.countAtAcceptance = s.countAtAcceptance := by
  simp only [State.countAtAcceptance, et]

theorem State.judged_count {old : State} {sender : StationId} {own : Option Item} {n : Notice}
    (plain : (∀ p, n ≠ .snapshot p) ∨ (old.begun own n).takesSegment sender = false) :
    (old.judged sender own n).et.lineCount = old.countAtAcceptance ∧
      (old.judged sender own n).et.countValid = old.et.countValid := by
  obtain ⟨count, valid⟩ := State.countFrame_count plain
  rw [State.judged_et, count, valid, (old.begun_frame own n).2.1]
  exact ⟨State.countAtAcceptance_congr (old.begun_frame own n).2.1, rfl⟩

/-- The sender's record once it has been heard (R130). -/
theorem State.judged_record (old : State) (sender : StationId) (own : Option Item) (n : Notice) (u : StationId) :
    (old.judged sender own n).record u = if u = sender then
      { old.record u with
        lastHeard := if (old.judged sender own n).et.countValid then some (old.judged sender own n).et.lineCount else none
        suspect := false
        silence := if (old.record u).state.live && sender != old.own then some (3 * old.presenceMs) else (old.record u).silence }
    else old.record u := by
  have cs : ((old.begun own n).countFrame sender n).cs = old.cs := by simp [(old.begun_frame own n).1]
  have record : ((old.begun own n).countFrame sender n).record u = old.record u := by
    rw [State.record_congr (s := old) (by simp [State.begun_roster])]
  have own_eq : ((old.begun own n).countFrame sender n).own = old.own := congrArg ConfigStore.stationNumber cs
  rw [State.judged_et, State.judged, State.record_hearSender, record, own_eq, State.presenceMs_congr cs]

theorem State.judged_state (old : State) (sender : StationId) (own : Option Item) (n : Notice) (u : StationId) :
    ((old.judged sender own n).record u).state = (old.record u).state := by
  rw [State.judged_record]
  split <;> rfl

theorem State.judged_control (old : State) (sender : StationId) (own : Option Item) (n : Notice) :
    (old.begun own n).ru.sameControl (old.judged sender own n).ru := by
  have := State.hearSender_sameControl ((old.begun own n).countFrame sender n) sender
  simpa [State.judged] using this

/-- What the records of the judged state are wanted by is what they are wanted by before. -/
theorem State.judged_wantsEntry (old : State) (sender : StationId) (n : Notice) (e : Entry) :
    (old.judged sender none n).wantsEntry e = old.wantsEntry e :=
  State.wantsEntry_congr (old.judged_frame sender none n).1
    ((old.judged_control sender none n).state.trans (by rw [State.begun_none_ru])) rfl

theorem State.judged_rosterRecords (old : State) (sender u : StationId) (n : Notice) (st : RosterState)
    (cause : Option LeaveCause) :
    (old.judged sender none n).rosterRecords u st cause = old.rosterRecords u st cause := by
  have state : (old.judged sender none n).ru.state = old.ru.state :=
    (old.judged_control sender none n).state.trans (by rw [State.begun_none_ru])
  have wants : (old.judged sender none n).wantsRoster = old.wantsRoster := by simp only [State.wantsRoster, state]
  simp only [State.rosterRecords, State.judged_state, wants]

/-! ## The list and the cursor settled -/

theorem State.moveCursor_none (s : State) (n : Notice) : s.moveCursor none n = s := by
  cases n <;> rfl

theorem State.moveCursor_ru_congr {s t : State} (ru : t.ru = s.ru) (own : Option Item) (n : Notice) :
    (t.moveCursor own n).ru = (s.moveCursor own n).ru := by
  unfold State.moveCursor
  split <;> simp [ru]

theorem State.settleQueue_ru (old s : State) (sender : StationId) (own : Option Item) (n : Notice) :
    (State.settleQueue old s sender own n).ru = (s.moveCursor own n).ru := by
  rw [State.settleQueue, (State.withdrawOvertaken_frame _ sender).2.2.1]
  exact State.moveCursor_ru_congr (by simp [State.settleItems_ru]) own n

/-- What an acceptance leaves of each block before the changes of own state, at a station that applies the frame. -/
theorem State.taken_frame {old : State} (sender : StationId) {own : Option Item} {n : Notice}
    (applies : (old.begun own n).applies = true) : (old.taken sender own n).cs = old.cs ∧
    (old.taken sender own n).et = (old.applied sender own n).et ∧
    (old.taken sender own n).ru = ((old.applied sender own n).moveCursor own n).ru ∧
    (old.taken sender own n).lc = (old.applied sender own n).lc ∧ (old.taken sender own n).ou = (old.applied sender own n).ou ∧
    (old.taken sender own n).pending = old.pending := by
  obtain ⟨cs, -, -, -, -, -, pending, -⟩ := old.judged_frame sender own n
  rw [State.taken_eq, State.applyFrame_of_applies sender applies, State.settleQueue_ru]
  refine ⟨by simp [State.applied, cs], by simp, State.moveCursor_ru_congr (by simp) own n, by simp, by simp,
    by simp [State.applied, pending]⟩

/-- The same where the frame is not applied. -/
theorem State.taken_frame_of_not {old : State} (sender : StationId) {own : Option Item} {n : Notice}
    (stands : (old.begun own n).applies = false) : (old.taken sender own n).cs = old.cs ∧
    (old.taken sender own n).et = old.et ∧ (old.taken sender own n).ru = ((old.begun own n).moveCursor own n).ru ∧
    (old.taken sender own n).pu = old.pu ∧ (old.taken sender own n).lc = (old.takeFrame own).lc ∧
    (old.taken sender own n).ou = old.ou ∧ (old.taken sender own n).pending = old.pending := by
  obtain ⟨cs, et, pu, -, ou, -, lc, pending⟩ := old.begun_frame own n
  rw [State.taken_eq, State.applyFrame_of_not sender stands, State.settleQueue_ru]
  simp [cs, et, pu, ou, lc, pending]

/-! ## What is pushed -/

/-- ENTRY and ROSTER records alone come from the kind's effect. -/
theorem State.kindRecords_isReport (s : State) (sender : StationId) (n : Notice) :
    (s.kindRecords sender n).filter Record.isReport = s.kindRecords sender n := by
  have roster : ∀ u st cause, ∀ r ∈ s.rosterRecords u st cause, r.isReport = true := by
    intro u st cause r hr
    unfold State.rosterRecords at hr
    split at hr <;> simp_all [Record.isReport]
  have rewritten : ∀ skip f cause i, ∀ r ∈ s.rewriteRecord skip f cause i, r.isReport = true := by
    intro skip f cause i r hr
    unfold State.rewriteRecord at hr
    split at hr
    · obtain rfl : Entry.record i (f (s.entry i)) cause = r := by simpa using hr
      rfl
    · exact nomatch hr
  have orphaned : ∀ u, ∀ r ∈ s.orphanRecords u, r.isReport = true := by
    intro u r hr
    obtain ⟨p, -, hp⟩ := List.mem_filterMap.1 hr
    exact rewritten _ _ _ _ r hp
  have purged : ∀ u, ∀ r ∈ s.purgeRecords u, r.isReport = true := by
    intro u r hr
    obtain ⟨p, -, hp⟩ := List.mem_filterMap.1 hr
    exact rewritten _ _ _ _ r hp
  refine List.filter_eq_self.2 fun r hr => ?_
  cases n with
  | presence p =>
    simp only [State.kindRecords, State.presenceRecords] at hr
    split at hr
    · exact roster _ _ _ r hr
    · exact nomatch hr
  | point p =>
    simp only [State.kindRecords] at hr
    split at hr
    · split at hr
      · obtain rfl := List.mem_singleton.1 hr
        rfl
      · exact nomatch hr
    · exact nomatch hr
  | claim p =>
    simp only [State.kindRecords] at hr
    split at hr
    · split at hr
      · obtain rfl := List.mem_singleton.1 hr
        rfl
      · exact nomatch hr
    · exact nomatch hr
  | lost p =>
    simp only [State.kindRecords] at hr
    split at hr
    · exact (List.mem_append.1 hr).elim (roster _ _ _ r) (orphaned _ r)
    · exact nomatch hr
  | purge o =>
    simp only [State.kindRecords] at hr
    split at hr
    · split at hr
      · exact purged _ r hr
      · exact nomatch hr
    · exact nomatch hr
  | leave c =>
    simp only [State.kindRecords] at hr
    split at hr
    · exact (List.mem_append.1 hr).elim (roster _ _ _ r) (orphaned _ r)
    · exact nomatch hr
  | join p =>
    simp only [State.kindRecords] at hr
    split at hr
    · split at hr
      · exact roster _ _ _ r hr
      · exact nomatch hr
    · exact nomatch hr
  | snapshot p => exact nomatch hr

/-- The settling of the list pushes OUTCOME records alone. -/
theorem State.queueOutcomes_isReport (old s : State) (own : Option Item) :
    (old.queueOutcomes s own).filter Record.isReport = [] := by
  have mine : ∀ x, ∀ r ∈ old.ownOutcome x, r.isReport = false := by
    intro x r hr
    unfold State.ownOutcome at hr
    split at hr <;> simp_all [Record.isReport]
  have overtaken : ∀ x, ∀ r ∈ old.overtakenOutcome s x, r.isReport = false := by
    intro x r hr
    unfold State.overtakenOutcome at hr
    (repeat' split at hr) <;> simp_all [Record.isReport]
  refine List.filter_eq_nil_iff.2 fun r hr => ?_
  rw [Bool.not_eq_true]
  rcases List.mem_append.1 hr with item | removed
  · obtain ⟨x, -, hx⟩ := List.mem_flatMap.1 item
    unfold State.itemOutcome at hx
    split at hx
    · split at hx
      · exact mine x r hx
      · exact overtaken x r hx
    · exact overtaken x r hx
  · split at removed
    · split at removed
      · exact nomatch removed
      · exact mine _ r removed
    · exact nomatch removed

/-- The records of an acceptance before the changes of own state. -/
theorem State.pushed_taken {old : State} (sender : StationId) {own : Option Item} {n : Notice}
    (applies : (old.begun own n).applies = true) : old.Pushed (old.taken sender own n)
      ((old.judged sender own n).kindRecords sender n ++
        old.queueOutcomes (State.applyFrame old (old.begun own n) sender own n) own) := by
  obtain ⟨cs, -, -, -, lp, -⟩ := old.judged_frame sender own n
  have judged : old.Pushed (old.judged sender own n) [] := .nothing cs lp
  have kind := judged.trans (State.pushed_applyKind (old.judged sender own n) sender
    ((old.begun own n).takesSegment sender) n)
  have points : old.Pushed (State.applyFrame old (old.begun own n) sender own n)
      ((old.judged sender own n).kindRecords sender n) := by
    rw [State.applyFrame_of_applies sender applies]
    exact ⟨by simpa [State.applied] using cs, by simpa [State.applied] using kind.lp⟩
  rw [State.taken_eq]
  exact points.trans (State.pushed_settleQueue old _ sender own n)

/-! ## The changes of own state, where there are none -/

theorem State.settleMembership_stays (old s : State) (sender : StationId) {own : Option Item} {n : Notice}
    (presence : ∀ p, n ≠ .presence p) (leave : own = none ∨ ∀ c, n ≠ .leave c) :
    State.settleMembership old s sender own n = s := by
  cases n with
  | presence p => exact absurd rfl (presence p)
  | leave c =>
    rcases leave with rfl | other
    · rfl
    · exact absurd rfl (other c)
  | _ => rfl

/-- A PRESENCE at a station that applies frames leaves table, line count and Line Controller to the frame itself. -/
theorem State.settlePresence_frame_of_applies {old : State} (applies : old.applies = true) (s : State) (sender : StationId)
    (p : PresencePayload) : (State.settlePresence old s sender p).et = s.et ∧ (State.settlePresence old s sender p).lc = s.lc := by
  have elsewhere : old.inState .listening = false := by
    by_contra yes
    have state := State.inState_iff.1 (by simpa using yes)
    simp [State.applies, state] at applies
  unfold State.settlePresence
  rw [elsewhere]
  simp only [Bool.false_eq_true, if_false]
  (repeat' split) <;> simp

theorem State.dutiful_frame_of_applies {old : State} (applies : old.applies = true) (sender : StationId) (n : Notice) :
    (old.dutiful sender none n).et = (old.taken sender none n).et ∧ (old.dutiful sender none n).lc =
    (old.taken sender none n).lc := by
  simp only [State.dutiful, State.takeDuties_frame]
  cases n with
  | presence p => exact State.settlePresence_frame_of_applies applies _ sender p
  | _ => exact ⟨rfl, rfl⟩

end Sys2Proof.Machine
end

section
/-! PROOF. The frame of another station, and what a POINT notice and a CLAIM do (O34, O36). -/

namespace Sys2Proof.Machine

/-! ## The acceptance of another station's frame -/

/-- The state that the acceptance of another station's frame ends in. -/
def State.foreign (s : State) (sender : StationId) (n : Notice) : State := State.close s (s.dutiful sender none n)

theorem State.receives_run {s : State} (h : s.receives) (sender : StationId) (n : Notice) :
    exec (acceptanceOf sender n) s = .next (s.foreign sender n) := by
  rw [exec_acceptanceOf, State.accept_foreign h, State.acceptFrame_foreign]
  rfl

section Foreign
variable {s : State} (sender : StationId) {n : Notice}

theorem State.foreign_et (applies : s.applies = true) : (s.foreign sender n).et = (s.applied sender none n).et := by
  have begun := (s.begun_none_applies n).trans applies
  rw [State.foreign, (State.close_frame _ s).2.1, (State.dutiful_frame_of_applies applies sender n).1,
    (State.taken_frame sender begun).2.1]

theorem State.foreign_lc (applies : s.applies = true) : (s.foreign sender n).lc = (s.applied sender none n).lc := by
  have begun := (s.begun_none_applies n).trans applies
  rw [State.foreign, (State.close_frame _ s).2.2.2.2.2.1, (State.dutiful_frame_of_applies applies sender n).2,
    (State.taken_frame sender begun).2.2.2.1]

theorem State.foreign_entry (applies : s.applies = true) (i : EntryIndex) :
    (s.foreign sender n).entry i = (s.applied sender none n).entry i :=
  State.entry_congr (congrArg EventTable.table (State.foreign_et sender applies)) i

theorem State.dutiful_plain (presence : ∀ p, n ≠ .presence p) :
    s.dutiful sender none n = State.takeDuties s (s.taken sender none n) := by
  rw [State.dutiful, State.settleMembership_stays s _ sender presence (.inl rfl)]

theorem State.takeDuties_roster (old t : State) : (State.takeDuties old t).ru.roster = t.ru.roster := by
  rw [State.takeDuties_ru]
  split <;> rfl

theorem State.foreign_record (applies : s.applies = true) (presence : ∀ p, n ≠ .presence p) (u : StationId) :
    (s.foreign sender n).record u = (s.applied sender none n).record u := by
  have begun := (s.begun_none_applies n).trans applies
  refine State.record_congr ?_ u
  rw [State.foreign, (State.close_frame _ s).2.2.1, State.dutiful_plain sender presence, State.takeDuties_roster,
    (State.taken_frame sender begun).2.2.1, State.moveCursor_none]

/-- The line count after a frame without segment content (R23). -/
theorem State.foreign_count (applies : s.applies = true) (plain : (∀ p, n ≠ .snapshot p) ∨ s.takesSegment sender = false) :
    (s.foreign sender n).et.lineCount = s.countAtAcceptance ∧ (s.foreign sender n).et.countValid = s.et.countValid := by
  obtain ⟨count, valid⟩ := State.applyKind_count (s.judged sender none n) sender ((s.begun none n).takesSegment sender) n
  obtain ⟨judged, judged'⟩ := State.judged_count (old := s) (sender := sender) (own := none) (n := n)
    (by rw [State.takesSegment_congr (s.begun_none_ru n)]; exact plain)
  rw [State.foreign_et sender applies]
  exact ⟨count.trans judged, valid.trans judged'⟩

/-- The records about table and roster of a frame other than a PRESENCE. -/
theorem State.foreign_pushes (applies : s.applies = true) (presence : ∀ p, n ≠ .presence p) {rs : List Record}
    (records : (s.judged sender none n).kindRecords sender n = rs) : s.pushes (s.foreign sender n) Record.isReport rs := by
  have begun := (s.begun_none_applies n).trans applies
  have taken := State.pushed_taken sender begun
  have duties : (s.taken sender none n).Pushed (s.dutiful sender none n) [] := by
    rw [State.dutiful_plain sender presence]
    exact .nothing (by simp) (by simp)
  refine ((taken.trans duties).trans (State.pushed_close s _)).pushes ?_
  have station : List.filter Record.isReport (if (s.dutiful sender none n).ru.state ≠ s.ru.state ∨
      (s.dutiful sender none n).tripReasons ≠ s.ou.trip then [Record.station (s.dutiful sender none n).ru.state
        (s.dutiful sender none n).ru.refusal (s.dutiful sender none n).tripReasons] else []) = [] := by
    split <;> rfl
  rw [List.filter_append, List.filter_append, List.filter_append, State.kindRecords_isReport, State.queueOutcomes_isReport,
    station, records]
  simp

/-- The counters that the taking of the frame leaves to the kind's effect (R110). -/
theorem State.judged_counters (s : State) (n : Notice) : (s.judged sender none n).lc.counters =
    { s.lc.counters with framesAccepted := bump s.lc.counters.framesAccepted } := by
  rw [(s.judged_frame sender none n).2.2.2.2.2.1, State.takeFrame_lc]

/-- A frame whose kind has no effect of its own is counted and heard, no more (R184). -/
theorem State.foreign_idle (applies : s.applies = true) (presence : ∀ p, n ≠ .presence p) (plain : ∀ p, n ≠ .snapshot p)
    (idle : s.applied sender none n = s.judged sender none n)
    (silent : (s.judged sender none n).kindRecords sender n = []) :
    (s.foreign sender n).et.table = s.et.table ∧ (s.foreign sender n).et.lineCount = s.countAtAcceptance ∧
      (s.foreign sender n).lc.counters = { s.lc.counters with framesAccepted := bump s.lc.counters.framesAccepted } ∧
      s.pushes (s.foreign sender n) Record.isReport [] := by
  refine ⟨?_, (State.foreign_count sender applies (.inl plain)).1, ?_, State.foreign_pushes sender applies presence silent⟩
  · rw [State.foreign_et sender applies, idle, (s.judged_frame sender none n).2.2.2.2.2.2.2]
  · rw [State.foreign_lc sender applies, idle, State.judged_counters]

end Foreign

/-! ## POINT (R9 to R15) -/

theorem byteTo16_eq_none {b : Byte} (big : 16 ≤ b.toNat) : byteTo16 b = none := by
  rw [byteTo16, dif_neg (by omega)]

theorem byteTo8_eq_none {b : Byte} (big : 8 ≤ b.toNat) : byteTo8 b = none := by
  rw [byteTo8, dif_neg (by omega)]

theorem byteTo16_ofNat (q : Fin 16) : byteTo16 (BitVec.ofNat 8 q.1) = some q := byteTo16_finByte q

theorem byteTo8_ofNat (c : Fin 8) : byteTo8 (BitVec.ofNat 8 c.1) = some c := by
  have : (BitVec.ofNat 8 c.1).toNat = c.1 := by simp; omega
  rw [byteTo8, dif_pos (by omega)]
  simp [this]

theorem pointMeaning_eq_none {p : PointPayload} (bad : 16 ≤ p.point.toNat ∨ 8 ≤ p.category.toNat) : pointMeaning p = none := by
  rcases bad with big | big
  · simp [pointMeaning, byteTo16_eq_none big]
  · simp [pointMeaning, byteTo8_eq_none big]

/-- What a POINT payload with a point and a category in range says (R9, R183). -/
def statedPoint (q : PointId) (c : CategoryId) (n status : Byte) : PointStatement where
  point := q
  category := c
  occurrence := n
  condition := Condition.ofBool (status.getLsbD 7)
  reminders := status.extractLsb' 0 4

theorem pointMeaning_ofNat (q : PointId) (c : CategoryId) (n status : Byte) :
    pointMeaning { point := BitVec.ofNat 8 q.1, category := BitVec.ofNat 8 c.1, occurrence := n, status := status } =
      some (statedPoint q c n status) := by
  simp [pointMeaning, byteTo16_ofNat, byteTo8_ofNat, statedPoint]

/-- R14 in the words of the statement. -/
theorem categoryCheck_eq (m : AckMode) (ph : Phase) : categoryCheck m ph =
    if (m = .none ∧ (ph = .held ∨ ph = .lapsed)) ∨ (m = .active ∧ ph = .lapsed) then .quiet else ph := by
  cases m <;> cases ph <;> rfl

theorem categoryCheck_raised (m : AckMode) : categoryCheck m .raised = .raised := by cases m <;> rfl

theorem categoryCheck_ofNewFall (m : AckMode) :
    categoryCheck m (if m = .latch then .lapsed else .quiet) = if m = .latch then .lapsed else .quiet := by
  cases m <;> rfl

theorem categoryCheck_phaseAfterFall (m : AckMode) (ph : Phase) : categoryCheck m (phaseAfterFall m ph) =
    if m = .latch ∧ (ph = .raised ∨ ph = .lapsed) then .lapsed else .quiet := by
  cases m <;> cases ph <;> rfl

section PointCases
variable (s : State) (e : Entry) {n : PointStatement}

theorem State.pointEntry_newer_active (order : compareOccurrence n.occurrence e.occurrence = .newer)
    (active : n.condition = .active) : s.pointEntry e n =
      { e with orphaned := false, category := some n.category, phase := .raised, condition := .active
               occurrence := n.occurrence, acknowledger := none, reminders := n.reminders, raiseStamp := s.stampNow } := by
  simp [State.pointEntry, State.pointCase, order, active, categoryCheck_raised]

theorem State.pointEntry_newer_inactive (order : compareOccurrence n.occurrence e.occurrence = .newer)
    (inactive : n.condition = .inactive) : s.pointEntry e n =
      { e with orphaned := false, category := some n.category
               phase := if s.ackMode n.category = .latch then .lapsed else .quiet, condition := .inactive
               occurrence := n.occurrence, acknowledger := none, reminders := n.reminders
               raiseStamp := if s.ackMode n.category = .latch then s.stampNow else e.raiseStamp } := by
  simp [State.pointEntry, State.pointCase, order, inactive, categoryCheck_ofNewFall]

theorem State.pointEntry_same_active (order : compareOccurrence n.occurrence e.occurrence = .same)
    (active : n.condition = .active) : s.pointEntry e n =
      { e with orphaned := false, category := some n.category, phase := categoryCheck (s.ackMode n.category) e.phase
               condition := .active, reminders := n.reminders } := by
  simp [State.pointEntry, State.pointCase, order, active]

theorem State.pointEntry_same_inactive (order : compareOccurrence n.occurrence e.occurrence = .same)
    (inactive : n.condition = .inactive) : s.pointEntry e n =
      { e with orphaned := false, category := some n.category
               phase := if s.ackMode n.category = .latch ∧ (e.phase = .raised ∨ e.phase = .lapsed) then .lapsed else .quiet
               condition := .inactive, reminders := n.reminders } := by
  simp [State.pointEntry, State.pointCase, order, inactive, categoryCheck_phaseAfterFall]

theorem State.pointEntry_older (order : compareOccurrence n.occurrence e.occurrence = .older) : s.pointEntry e n =
    { e with orphaned := false, category := some n.category, phase := categoryCheck (s.ackMode n.category) e.phase } := by
  simp [State.pointEntry, State.pointCase, order]

end PointCases

theorem State.ackMode_congr {s t : State} (cs : t.cs = s.cs) (c : CategoryId) : t.ackMode c = s.ackMode c := by
  simp only [State.ackMode, State.category, cs]

/-- The ack mode of a category of the profile held (R6). -/
theorem State.ackMode_of_profile {s : State} {f : Profile} (held : s.cs.profile = some f) (c : CategoryId) :
    s.ackMode c = (f.categories[c] : Category).ackMode := by
  simp [State.ackMode, State.category, held]

/-- The condition a POINT payload states, by its status bit (R183). -/
theorem Condition.ofBool_eq_iff (b : Bool) : (Condition.ofBool b = .active ↔ b = true) ∧
    (Condition.ofBool b = .inactive ↔ b = false) := by
  cases b <;> decide

/-- The cause of R15 in the words of the statement, where `e'` is the entry left. -/
theorem pointCause_statedPoint (q : PointId) (c : CategoryId) (n status : Byte) (e e' : Entry) :
    pointCause (statedPoint q c n status) e e' =
      (if compareOccurrence n e.occurrence = .newer then .newOccurrence
       else if compareOccurrence n e.occurrence = .same ∧ status.getLsbD 7 = false ∧
          (e'.condition ≠ e.condition ∨ e'.phase ≠ e.phase) then .fall
       else if compareOccurrence n e.occurrence = .same ∧ status.getLsbD 7 = true ∧ e'.reminders ≠ e.reminders then .reminder
       else if e.orphaned = true then .restored
       else .fall) := by
  simp only [pointCause, statedPoint, (Condition.ofBool_eq_iff _).1, (Condition.ofBool_eq_iff _).2, ne_comm]

theorem Entry.sameButCategory_iff (e e' : Entry) : e.sameButCategory e' = true ↔
    { e' with category := none, raiseStamp := 0 } = ({ e with category := none, raiseStamp := 0 } : Entry) := by
  simp only [Entry.sameButCategory, Entry.sameReplicated, beq_iff_eq]
  exact eq_comm

/-- The raise stamp of a new occurrence at this acceptance (R24). -/
theorem State.judged_stampNow {s : State} (sender : StationId) {n : Notice} (plain : ∀ p, n ≠ .snapshot p) :
    (s.judged sender none n).stampNow = if s.et.countValid then s.et.lineCount + 1 else 0 := by
  obtain ⟨count, valid⟩ := State.judged_count (old := s) (sender := sender) (own := none) (n := n) (.inl plain)
  simp only [State.stampNow, count, valid, State.countAtAcceptance]
  split <;> rfl

section PointFrame
variable {s : State} (sender : StationId) {p : PointPayload} {n : PointStatement}

theorem State.applied_point (meaning : pointMeaning p = some n) :
    s.applied sender none (.point p) = (s.judged sender none (.point p)).applyPoint sender n := by
  simp only [State.applied, State.applyKind, meaning]

/-- The entries after a POINT notice that has a meaning. -/
theorem State.foreign_point_entry (applies : s.applies = true) (meaning : pointMeaning p = some n) (j : EntryIndex) :
    (s.foreign sender (.point p)).entry j =
      if j = entryIndex sender n.point then (s.judged sender none (.point p)).pointEntry (s.entry j) n else s.entry j := by
  rw [State.foreign_entry sender applies, State.applied_point sender meaning, State.entry_applyPoint, State.judged_entry]

/-- Stale notices are counted (R13). -/
theorem State.foreign_point_stale (applies : s.applies = true) (meaning : pointMeaning p = some n) :
    (s.foreign sender (.point p)).lc.counters.staleNotices =
      if compareOccurrence n.occurrence (s.entry (entryIndex sender n.point)).occurrence = .older then
        bump s.lc.counters.staleNotices else s.lc.counters.staleNotices := by
  rw [State.foreign_lc sender applies, State.applied_point sender meaning, State.applyPoint_lc, State.judged_entry]
  split <;> rw [State.judged_counters]

/-- The record of a POINT notice that has a meaning (R15). -/
theorem State.foreign_point_pushes (applies : s.applies = true) (meaning : pointMeaning p = some n) :
    let i := entryIndex sender n.point
    let t := s.foreign sender (.point p)
    s.pushes t Record.isReport
      (if { t.entry i with category := none, raiseStamp := 0 } ≠ ({ s.entry i with category := none, raiseStamp := 0 } : Entry) ∧
          s.wantsEntry (t.entry i) = true then
        [t.entryRecord i (pointCause n (s.entry i) (t.entry i))] else []) := by
  intro i t
  refine State.foreign_pushes sender applies (fun _ => Notice.noConfusion) ?_
  have left : t.entry i = (s.judged sender none (.point p)).pointEntry (s.entry i) n :=
    (State.foreign_point_entry sender applies meaning i).trans (if_pos rfl)
  simp only [State.kindRecords, meaning, State.judged_entry, State.judged_wantsEntry, State.entryRecord, Entry.record, left,
    Bool.and_eq_true, Bool.not_eq_true', ← Bool.not_eq_true, Entry.sameButCategory_iff]
  rfl

end PointFrame

/-- Settles O34: the entry and the record of `State.applyPoint`, in the state that the frame is judged in. -/
theorem pointNoticeWritesItsEntry : Obligations.PointNoticeWritesItsEntry := by
  refine ⟨fun s f c held => State.ackMode_of_profile held c, fun s sender p receives applies bad => ?_,
    fun s sender q c n status receives applies => ?_⟩
  · have unread := pointMeaning_eq_none bad
    exact ⟨_, State.receives_run receives sender (.point p), State.foreign_idle sender applies (fun _ => Notice.noConfusion)
      (fun _ => Notice.noConfusion) (by simp [State.applied, State.applyKind, unread]) (by simp [State.kindRecords, unread])⟩
  · refine ⟨_, State.receives_run receives sender (.point _),
      (State.foreign_count sender applies (.inl fun _ => Notice.noConfusion)).1, ?_⟩
    have meaning := pointMeaning_ofNat q c n status
    have written := State.foreign_point_entry sender applies meaning
    have here := (written (entryIndex sender q)).trans (if_pos rfl)
    have stale := State.foreign_point_stale sender applies meaning
    have pushed := State.foreign_point_pushes sender applies meaning
    have stamp : ∀ x, (s.judged sender none (.point x)).stampNow = if s.et.countValid then s.et.lineCount + 1 else 0 :=
      fun x => State.judged_stampNow sender fun _ => Notice.noConfusion
    have mode : ∀ x, (s.judged sender none (.point x)).ackMode c = s.ackMode c :=
      fun x => State.ackMode_congr (s.judged_frame sender none (.point x)).1 c
    intro i e m check stamp' base order
    have condition := Condition.ofBool_eq_iff (status.getLsbD 7)
    refine ⟨fun j other => (written j).trans (if_neg other), fun newer active => ?_, fun newer inactive => ?_,
      fun same active => ?_, fun same inactive => ?_, fun older => ?_, stale, ?_⟩
    · rw [here, State.pointEntry_newer_active _ _ newer (condition.1.2 active), stamp]
      rfl
    · rw [here, State.pointEntry_newer_inactive _ _ newer (condition.2.2 inactive), stamp]
      simp only [statedPoint, mode]
      rfl
    · rw [here, State.pointEntry_same_active _ _ same (condition.1.2 active)]
      simp only [statedPoint, mode, categoryCheck_eq]
      rfl
    · rw [here, State.pointEntry_same_inactive _ _ same (condition.2.2 inactive)]
      simp only [statedPoint, mode]
      rfl
    · rw [here, State.pointEntry_older _ _ older]
      simp only [statedPoint, mode, categoryCheck_eq]
      rfl
    · simp only [pointCause_statedPoint] at pushed
      exact pushed

end Sys2Proof.Machine
end

section
/-! PROOF. What a CLAIM does (R49 to R52), for O36. -/

namespace Sys2Proof.Machine

theorem claimMeaning_eq_none {p : ClaimPayload} (bad : 16 ≤ p.origin.toNat ∨ 16 ≤ p.point.toNat) : claimMeaning p = none := by
  rcases bad with big | big
  · simp [claimMeaning, byteTo16_eq_none big]
  · simp [claimMeaning, byteTo16_eq_none big]

theorem claimMeaning_ofNat (o : StationId) (q : PointId) (n : Byte) :
    claimMeaning { origin := BitVec.ofNat 8 o.1, point := BitVec.ofNat 8 q.1, occurrence := n } = some (entryIndex o q) := by
  simp [claimMeaning, byteTo16_ofNat]

/-- An entry takes NO_ACK when its category has ack mode NONE (R6, R49). -/
theorem State.entryAckNone_of_profile {s : State} {f : Profile} (held : s.cs.profile = some f) (e : Entry) :
    s.entryAckNone e = true ↔ ∃ c, e.category = some c ∧ (f.categories[c] : Category).ackMode = .none := by
  unfold State.entryAckNone
  cases e.category with
  | none => simp
  | some c => simp [State.ackMode_of_profile held]

theorem phaseAfterWin_of_pending {ph : Phase} (pending : ph = .raised ∨ ph = .lapsed) :
    phaseAfterWin ph = if ph = .raised then .held else .quiet := by
  rcases pending with rfl | rfl <;> rfl

section ClaimFrame
variable {s : State} (sender : StationId) {p : ClaimPayload} {i : EntryIndex}

theorem State.applied_claim (meaning : claimMeaning p = some i) :
    s.applied sender none (.claim p) = (s.judged sender none (.claim p)).applyClaim sender i p.occurrence := by
  simp only [State.applied, State.applyKind, meaning]

/-- Where the frame is judged, the claim is decided as before. -/
theorem State.judged_claimDecision (j : EntryIndex) (e : Entry) (n : Byte) :
    (s.judged sender none (.claim p)).claimDecision j e n = s.claimDecision j e n :=
  State.claimDecision_congr (s.judged_frame sender none (.claim p)).1 j e n

theorem State.foreign_claim_entry (applies : s.applies = true) (meaning : claimMeaning p = some i) (j : EntryIndex) :
    (s.foreign sender (.claim p)).entry j =
      if j = i ∧ s.claimDecision i (s.entry i) p.occurrence = .wins then (s.entry j).wonBy sender else s.entry j := by
  rw [State.foreign_entry sender applies, State.applied_claim sender meaning, State.entry_applyClaim,
    State.judged_entry, State.judged_claimDecision, State.judged_entry]

theorem State.foreign_claim_void (applies : s.applies = true) (meaning : claimMeaning p = some i) :
    (s.foreign sender (.claim p)).lc.counters.voidClaims =
      if s.claimDecision i (s.entry i) p.occurrence = .wins then s.lc.counters.voidClaims
      else bump s.lc.counters.voidClaims := by
  rw [State.foreign_lc sender applies, State.applied_claim sender meaning, State.applyClaim_lc, State.judged_entry,
    State.judged_claimDecision]
  split <;> rw [State.judged_counters]

/-- The record of a CLAIM that has a meaning (R51). -/
theorem State.foreign_claim_pushes (applies : s.applies = true) (meaning : claimMeaning p = some i) :
    s.pushes (s.foreign sender (.claim p)) Record.isReport
      (if s.claimDecision i (s.entry i) p.occurrence = .wins then
        if s.wantsEntry (s.entry i) = true then [(s.foreign sender (.claim p)).entryRecord i .acked] else []
      else []) := by
  refine State.foreign_pushes sender applies (fun _ => Notice.noConfusion) ?_
  have written := State.foreign_claim_entry sender applies meaning i
  simp only [State.kindRecords, meaning, State.judged_wantsEntry, State.judged_entry, State.judged_claimDecision]
  by_cases wins : s.claimDecision i (s.entry i) p.occurrence = .wins
  · rw [if_pos ⟨rfl, wins⟩] at written
    simp only [wins, true_and, if_true, State.entryRecord, Entry.record, written]
  · rw [if_neg wins, if_neg fun both => wins both.1]

end ClaimFrame

/-- Settles O36: a claim that wins writes and reports its entry, any other is counted, by the decision of R49. -/
theorem claimWinsOrIsVoid : Obligations.ClaimWinsOrIsVoid := by
  refine ⟨fun s f e held => State.entryAckNone_of_profile held e, fun s sender p receives applies bad => ?_,
    fun s sender o q n receives applies => ?_⟩
  · have unread := claimMeaning_eq_none bad
    exact ⟨_, State.receives_run receives sender (.claim p), State.foreign_idle sender applies (fun _ => Notice.noConfusion)
      (fun _ => Notice.noConfusion) (by simp [State.applied, State.applyKind, unread]) (by simp [State.kindRecords, unread])⟩
  · refine ⟨_, State.receives_run receives sender (.claim _),
      (State.foreign_count sender applies (.inl fun _ => Notice.noConfusion)).1, ?_⟩
    have meaning := claimMeaning_ofNat o q n
    have written := State.foreign_claim_entry sender applies meaning
    have void := State.foreign_claim_void sender applies meaning
    have pushed := State.foreign_claim_pushes sender applies meaning
    intro i e wins
    have decided : s.claimDecision i e n = .wins ↔ wins := State.claimDecision_wins_iff s i e n
    refine ⟨fun j other => (written j).trans (if_neg fun same => other same.1), fun won => ?_, fun lost => ?_⟩
    · have here := (written i).trans (if_pos ⟨rfl, decided.2 won⟩)
      refine ⟨here.trans ?_, void.trans (if_pos (decided.2 won)), (congrArg (s.pushes _ _) (if_pos (decided.2 won))).mp pushed⟩
      obtain ⟨-, -, -, phase⟩ := won
      rw [Entry.wonBy, phaseAfterWin_of_pending phase]
    · have stands := mt decided.1 lost
      exact ⟨(written i).trans (if_neg fun both => stands both.2), void.trans (if_neg stands), 
        (congrArg (s.pushes _ _) (if_neg stands)).mp pushed⟩

end Sys2Proof.Machine
end

section
/-! PROOF. Why O38 fails: an item leaves the list with every item of its age (R118), and a LOST may drop a claim. -/

namespace Sys2Proof.Machine

/-- An entry whose first occurrence stands. -/
def Entry.firstRaised : Entry :=
  { Entry.pristine with phase := .raised, condition := .active, occurrence := 1, category := some 0 }

/-- A MEMBER whose own point 0 has an entry, and whose claim and PRESENCE items bear one age. No run reaches it: each item
enters with an age of its own, and `State.Sound` asks for that; the statement does not. -/
def agesCollide : State :=
  { State.reset with
    et := { State.reset.et with table := State.reset.et.table.set 0 Entry.firstRaised }
    ru := { State.reset.ru with
      state := .member, roster := State.reset.ru.roster.set 0 { RosterRecord.absent with state := .present } }
    sq := { items := [{ kind := .claim 0 0, cls := 2, age := 0 }, { kind := .presence none, cls := 3, age := 0 }],
            nextAge := 1, returnPending := false }
    lc := { State.reset.lc with receiverOn := true, assembling := true } }

/-- A LOST that names station 0, with no count known. -/
def lostNamesZero : LostPayload := { target := 0x80, lastHeard := 0 }

theorem agesCollide_receives : agesCollide.receives ∧ agesCollide.applies = true := by decide +kernel

theorem agesCollide_own : agesCollide.cs.stationNumber = 0 ∧ agesCollide.ru.state = .member ∧
    (agesCollide.record 0).state = .present := by decide +kernel

/-- The claim on the entry that the LOST orphans is void, and the PRESENCE leaves with it. -/
theorem agesCollide_dropsPresence (t : State) (run : exec (.lostAccepted 1 lostNamesZero) agesCollide = .next t) :
    t.hasItem ItemKind.isPresence = false := by
  have dropped : (agesCollide.foreign 1 (.lost lostNamesZero)).hasItem ItemKind.isPresence = false := by decide +kernel
  obtain ⟨rfl⟩ : agesCollide.foreign 1 (.lost lostNamesZero) = t :=
    Host.Outcome.next.inj ((State.receives_run agesCollide_receives.1 1 (.lost lostNamesZero)).symm.trans run)
  exact dropped

/-- Refutes O38: the MEMBER named by a valid LOST is left without its PRESENCE item. -/
theorem not_lostDeclaresASilentStation : ¬ Obligations.LostDeclaresASilentStation := by
  intro h
  obtain ⟨receives, applies⟩ := agesCollide_receives
  obtain ⟨own, member, present⟩ := agesCollide_own
  obtain ⟨t, run, -, -, valid, -⟩ := h agesCollide 1 lostNamesZero 0 receives applies (by decide)
  obtain ⟨-, -, -, -, recovers⟩ := valid ⟨.inl present, .inl (by decide)⟩
  exact absurd (recovers own.symm member).1 (by rw [agesCollide_dropsPresence t run]; decide)

end Sys2Proof.Machine
end

section
/-! PROOF. What a PURGE does (R16, R18, R20, R43) and what a LEAVE does (R16, R131, R132), for O37 and O39. -/

namespace Sys2Proof.Machine

/-! ## The entries of one origin -/

theorem originOf_eq_iff {i : EntryIndex} {o : StationId} : originOf i = o ↔ i.1 / 16 = o.1 := by
  simp [originOf, Fin.ext_iff]

theorem RosterState.gone_iff (r : RosterState) : r.gone = true ↔ r = .lost ∨ r = .left ∨ r = .absent := by
  cases r <;> decide

/-- Two entries agree but for the raise stamp when they agree in the replicated fields (R4). -/
theorem Entry.sameReplicated_iff (e e' : Entry) : e.sameReplicated e' = true ↔
    { e' with raiseStamp := 0 } = ({ e with raiseStamp := 0 } : Entry) := by
  simp only [Entry.sameReplicated, beq_iff_eq]
  exact eq_comm

/-- The records of a rewritten origin are those of its entries that changed, in the words of the statements. -/
theorem State.rewriteRecords_eq_originRecords {s t : State} {o : StationId} {skip : Entry → Bool} {f : Entry → Entry}
    {cause : EntryCause} {changed : EntryIndex → Bool} (category : ∀ e, (f e).category = e.category)
    (spared : ∀ i, originOf i = o → changed i = !skip (s.entry i))
    (written : ∀ i, originOf i = o → skip (s.entry i) = false → t.entry i = f (s.entry i)) :
    ((List.finRange 16).filterMap fun q => s.rewriteRecord skip f cause (entryIndex o q)) =
      s.originRecords t o cause changed := by
  refine List.filterMap_congr fun q _ => ?_
  have here := originOf_entryIndex o q
  have wants : s.wantsEntry (f (s.entry (entryIndex o q))) = s.wantsEntry (s.entry (entryIndex o q)) :=
    State.wantsEntry_congr rfl rfl (category _)
  simp only [State.rewriteRecord, spared _ here, wants]
  split
  · rename_i pushed
    have stays : skip (s.entry (entryIndex o q)) = false := by simp_all
    rw [State.entryRecord, written _ here stays]
    rfl
  · rfl

/-! ## The points after another station's frame -/

theorem State.applied_cs (old : State) (sender : StationId) (own : Option Item) (n : Notice) :
    (old.applied sender own n).cs = old.cs := by
  simp [State.applied, (old.judged_frame sender own n).1]

theorem State.judged_ownState (old : State) (sender : StationId) (n : Notice) :
    (old.judged sender none n).ru.state = old.ru.state :=
  (old.judged_control sender none n).state.trans (by rw [State.begun_none_ru])

theorem State.foreign_pu {s : State} (sender : StationId) {n : Notice} (presence : ∀ p, n ≠ .presence p) :
    (s.foreign sender n).pu = (State.applyFrame s (s.begun none n) sender none n).pu := by
  rw [State.foreign, State.dutiful_plain sender presence, State.taken_eq]
  simp

theorem State.announceCheck_pending (s : State) (q p : PointId) (forced : Bool) :
    ((s.announceCheck q forced).point p).pendingReminders = (s.point p).pendingReminders := by
  unfold State.announceCheck
  split
  · rw [State.point_queuePoint]
    split <;> rfl
  · rfl

theorem State.checkChanged_pending (old s : State) (p : PointId) :
    ((State.checkChanged old s).point p).pendingReminders = (s.point p).pendingReminders := by
  refine State.foldl_keeps (fun u : State => (u.point p).pendingReminders) _ (fun u q => ?_) _ s
  split
  · rfl
  · exact u.announceCheck_pending q p false

theorem State.stopSettledReminders_pending (s : State) (p : PointId) :
    (s.stopSettledReminders.point p).pendingReminders = (s.point p).pendingReminders := by
  rw [State.stopSettledReminders, State.point_onPoints]
  split <;> rfl

/-- PU's part at another station's frame leaves the reminder counts to the resets of R43. -/
theorem State.settlePoints_pending (old s : State) (n : Notice) (p : PointId) :
    ((State.settlePoints old s none n).point p).pendingReminders =
      ((State.settlePurged old s n).point p).pendingReminders := by
  rw [State.settlePoints, State.settleOwnPoint, State.checkChanged_pending, State.stopSettledReminders_pending]

/-! ## PURGE -/

section PurgeFrame
variable {s : State} (sender o : StationId)

/-- A PURGE of the origin `o`. -/
def purgeOf (o : StationId) : Notice := .purge (BitVec.ofNat 8 o.1)

theorem State.applyKind_purgeOf (s : State) (taken : Bool) : s.applyKind sender taken (purgeOf o) = s.applyPurge o := by
  rw [purgeOf, State.applyKind, byteTo16_ofNat]

theorem State.kindRecords_purgeOf (s : State) : s.kindRecords sender (purgeOf o) =
    if (s.record o).state.gone = true then s.purgeRecords o else [] := by
  rw [purgeOf, State.kindRecords, byteTo16_ofNat]

theorem State.settlePurged_purgeOf {old s : State} (own : s.own = o) (gone : (old.record o).state.gone = true) :
    State.settlePurged old s (purgeOf o) = s.resetPending := by
  rw [purgeOf, State.settlePurged, byteTo16_ofNat, own, if_pos ⟨rfl, gone⟩]

theorem State.applied_purge : s.applied sender none (purgeOf o) = (s.judged sender none (purgeOf o)).applyPurge o :=
  State.applyKind_purgeOf sender o _ _

theorem State.judged_gone : ((s.judged sender none (purgeOf o)).record o).state.gone = (s.record o).state.gone := by
  rw [State.judged_state]

theorem State.applied_purge_of_gone (gone : (s.record o).state.gone = true) :
    s.applied sender none (purgeOf o) = (s.judged sender none (purgeOf o)).purgeOrigin o := by
  rw [State.applied_purge, State.applyPurge, State.judged_gone, if_pos gone]

theorem State.applied_purge_of_live (live : (s.record o).state.gone = false) : s.applied sender none (purgeOf o) =
    (s.judged sender none (purgeOf o)).onCounters fun c => { c with voidPurges := bump c.voidPurges } := by
  rw [State.applied_purge, State.applyPurge, State.judged_gone, live]
  rfl

/-- The entries after a PURGE of a station that is gone. -/
theorem State.foreign_purge_entry (applies : s.applies = true) (gone : (s.record o).state.gone = true) (i : EntryIndex) :
    (s.foreign sender (purgeOf o)).entry i =
      if originOf i = o ∧ s.entry i ≠ Entry.pristine then purgedEntry (s.entry i) else s.entry i := by
  rw [State.foreign_entry sender applies, State.applied_purge_of_gone sender o gone, State.entry_purgeOrigin,
    State.judged_entry]

theorem State.foreign_purge_table (applies : s.applies = true) (live : (s.record o).state.gone = false) :
    (s.foreign sender (purgeOf o)).et.table = s.et.table := by
  rw [State.foreign_et sender applies, State.applied_purge_of_live sender o live]
  exact (s.judged_frame sender none (purgeOf o)).2.2.2.2.2.2.2

theorem State.foreign_purge_void (applies : s.applies = true) :
    (s.foreign sender (purgeOf o)).lc.counters.voidPurges =
      if (s.record o).state.gone = true then s.lc.counters.voidPurges else bump s.lc.counters.voidPurges := by
  rw [State.foreign_lc sender applies]
  split
  · rename_i gone
    rw [State.applied_purge_of_gone sender o gone, (State.purgeOrigin_frame _ o).2.2.2.2.1, State.judged_counters]
  · rename_i live
    rw [State.applied_purge_of_live sender o (by simpa using live)]
    change bump (s.judged sender none (purgeOf o)).lc.counters.voidPurges = _
    rw [State.judged_counters]

theorem State.foreign_purge_pushes (applies : s.applies = true) :
    s.pushes (s.foreign sender (purgeOf o)) Record.isReport
      (if (s.record o).state.gone = true then
        s.originRecords (s.foreign sender (purgeOf o)) o .purged fun i =>
          decide ({ (s.foreign sender (purgeOf o)).entry i with raiseStamp := 0 } ≠ { s.entry i with raiseStamp := 0 })
      else []) := by
  refine State.foreign_pushes sender applies (fun _ => Notice.noConfusion) ?_
  have wants : (s.judged sender none (purgeOf o)).purgeRecords o = s.purgeRecords o :=
    List.filterMap_congr fun q _ => State.rewriteRecord_congr (s.judged_frame sender none (purgeOf o)).1
      (s.judged_ownState sender _) (s.judged_frame sender none (purgeOf o)).2.2.2.2.2.2.2
  rw [State.kindRecords_purgeOf, wants]
  simp only [State.judged_gone]
  split
  · rename_i gone
    have entries := State.foreign_purge_entry sender o applies gone
    refine State.rewriteRecords_eq_originRecords (fun _ => rfl) (fun i here => ?_) fun i here kept => ?_
    · by_cases pristine : s.entry i = Entry.pristine
      · simp [entries, here, pristine, Entry.sparedByPurge, Entry.isPristine]
      · simp only [entries, here, pristine, ne_eq, not_false_eq_true, and_self, if_true, Entry.sparedByPurge, Entry.isPristine,
          ← Entry.sameReplicated_iff]
        simp [pristine]
    · refine (entries i).trans (if_pos ⟨here, fun pristine => ?_⟩)
      simp [Entry.sparedByPurge, Entry.isPristine, pristine] at kept
  · rfl

/-- A valid PURGE of the own origin makes the reminder counts 0 (R43). -/
theorem State.foreign_purge_pending (applies : s.applies = true) (gone : (s.record s.own).state.gone = true) (p : PointId) :
    ((s.foreign sender (purgeOf s.own)).point p).pendingReminders = 0 := by
  have begun := (s.begun_none_applies (purgeOf s.own)).trans applies
  have own : (s.applied sender none (purgeOf s.own)).own = s.own := congrArg ConfigStore.stationNumber (s.applied_cs sender none _)
  rw [State.point_congr (State.foreign_pu sender fun _ => Notice.noConfusion), State.applyFrame_of_applies sender begun]
  change ((State.settlePoints s (s.applied sender none (purgeOf s.own)) none (purgeOf s.own)).point p).pendingReminders = 0
  rw [State.settlePoints_pending, State.settlePurged_purgeOf s.own own gone, State.resetPending_point]

end PurgeFrame

/-- Settles O37: a PURGE of a station that is gone clears its entries, any other is counted. -/
theorem purgeClearsADepartedOrigin : Obligations.PurgeClearsADepartedOrigin := by
  refine ⟨fun s sender origin receives applies bad => ?_, fun s sender o receives applies => ?_⟩
  · have unread := byteTo16_eq_none bad
    exact ⟨_, State.receives_run receives sender (.purge origin), State.foreign_idle sender applies (fun _ => Notice.noConfusion)
      (fun _ => Notice.noConfusion) (by simp [State.applied, State.applyKind, unread]) (by simp [State.kindRecords, unread])⟩
  · refine ⟨_, State.receives_run receives sender (purgeOf o),
      (State.foreign_count sender applies (.inl fun _ => Notice.noConfusion)).1, ?_⟩
    have void := State.foreign_purge_void sender o applies
    have pushed := State.foreign_purge_pushes sender o applies
    intro valid
    have gone : (s.record o).state.gone = true ↔ valid := RosterState.gone_iff _
    refine ⟨fun i apart => ?_, fun yes => ⟨fun i here stands => ?_, ?_, ?_, ?_⟩, fun no => ⟨?_, ?_, ?_⟩⟩
    · by_cases yes : (s.record o).state.gone = true
      · refine (State.foreign_purge_entry sender o applies yes i).trans (if_neg fun ⟨here, stands⟩ => ?_)
        exact apart.elim (fun other => other (originOf_eq_iff.1 here)) stands
      · exact State.entry_congr (State.foreign_purge_table sender o applies (by simpa using yes)) i
    · exact (State.foreign_purge_entry sender o applies (gone.2 yes) i).trans (if_pos ⟨originOf_eq_iff.2 here, stands⟩)
    · exact void.trans (if_pos (gone.2 yes))
    · exact (congrArg (s.pushes _ _) (if_pos (gone.2 yes))).mp pushed
    · rintro rfl
      exact State.foreign_purge_pending sender applies (gone.2 yes)
    · exact State.foreign_purge_table sender o applies (by simpa using mt gone.1 no)
    · exact void.trans (if_neg (mt gone.1 no))
    · exact (congrArg (s.pushes _ _) (if_neg (mt gone.1 no))).mp pushed

end Sys2Proof.Machine
end

section
/-! PROOF. What a LEAVE of another station does (R16, R131, R132), for O39. -/

namespace Sys2Proof.Machine

theorem LeaveCause.ofCode_eq_none {cause : Byte} (big : 2 ≤ cause.toNat) : LeaveCause.ofCode cause = none := by
  obtain ⟨k, value⟩ := Nat.exists_eq_add_of_le' big
  rw [LeaveCause.ofCode, value]
  rfl

theorem LeaveCause.ofCode_of_le_one {cause : Byte} (small : cause.toNat ≤ 1) :
    LeaveCause.ofCode cause = some (if cause = 0 then .commanded else .vetoLimit) := by
  rcases Nat.le_one_iff_eq_zero_or_eq_one.1 small with zero | one
  · obtain rfl : cause = 0 := BitVec.eq_of_toNat_eq zero
    rfl
  · obtain rfl : cause = 1 := BitVec.eq_of_toNat_eq one
    rfl

/-- The last-heard count that the sender of a frame without segment content gets (R130). -/
theorem State.judged_lastHeard {s : State} (sender : StationId) {own : Option Item} {n : Notice}
    (plain : (∀ p, n ≠ .snapshot p) ∨ (s.begun own n).takesSegment sender = false) :
    ((s.judged sender own n).record sender).lastHeard = s.heardAt := by
  obtain ⟨count, valid⟩ := State.judged_count plain
  rw [State.judged_record, if_pos rfl, count, valid]
  simp only [State.heardAt, State.countAtAcceptance]
  split <;> simp_all

theorem RosterRecord.become_left (r : RosterRecord) (own : Bool) (period : Nat) (heard : r.suspect = false) :
    (r.become .left own period).state = .left ∧ (r.become .left own period).suspect = false ∧
      (r.become .left own period).lastHeard = r.lastHeard := by
  unfold RosterRecord.become
  split
  · exact ⟨‹_›, heard, rfl⟩
  · exact ⟨rfl, rfl, rfl⟩

section LeaveFrame
variable {s : State} (sender : StationId) {c : Byte}

/-- A leave cause without a meaning has no effect (R184). -/
theorem State.applied_leave_none (unread : LeaveCause.ofCode c = none) :
    s.applied sender none (.leave c) = s.judged sender none (.leave c) := by
  simp only [State.applied, State.applyKind, unread]

variable {cause : LeaveCause}

theorem State.applied_leave (read : LeaveCause.ofCode c = some cause) : s.applied sender none (.leave c) =
    ((s.judged sender none (.leave c)).setRoster sender .left (some cause)).orphanOrigin sender := by
  simp only [State.applied, State.applyKind, read]
  rfl

theorem State.foreign_leave_record (applies : s.applies = true) (read : LeaveCause.ofCode c = some cause) (u : StationId) :
    (s.foreign sender (.leave c)).record u =
      if u = sender then ((s.judged sender none (.leave c)).record u).become .left (sender == (s.judged sender none (.leave c)).own)
        (s.judged sender none (.leave c)).presenceMs
      else s.record u := by
  rw [State.foreign_record sender applies (fun _ => Notice.noConfusion), State.applied_leave sender read,
    State.record_congr (congrArg RosterUnit.roster (State.orphanOrigin_frame _ sender).2.1), State.record_setRoster]
  split
  · rfl
  · rename_i other
    rw [State.judged_record, if_neg other]

theorem State.foreign_leave_entry (applies : s.applies = true) (read : LeaveCause.ofCode c = some cause) (i : EntryIndex) :
    (s.foreign sender (.leave c)).entry i =
      if originOf i = sender ∧ s.entry i ≠ Entry.pristine then { s.entry i with orphaned := true } else s.entry i := by
  rw [State.foreign_entry sender applies, State.applied_leave sender read, State.entry_orphanOrigin,
    State.entry_congr (congrArg EventTable.table (State.setRoster_frame _ sender _ _).2.1), State.judged_entry]

/-- The records that an orphaning pushes, in the words of the statements, where `t` is the state it ends in. -/
theorem State.orphanRecords_eq_originRecords {s t : State} {o : StationId} (entries : ∀ i, t.entry i =
    if originOf i = o ∧ s.entry i ≠ Entry.pristine then { s.entry i with orphaned := true } else s.entry i) :
    s.orphanRecords o = s.originRecords t o .orphaned fun i => (t.entry i).orphaned && !(s.entry i).orphaned := by
  refine State.rewriteRecords_eq_originRecords (fun _ => rfl) (fun i here => ?_) fun i here kept => ?_
  · by_cases pristine : s.entry i = Entry.pristine
    · simp [entries, pristine, Entry.sparedByOrphaning, Entry.isPristine]
    · simp [entries, here, pristine, Entry.sparedByOrphaning, Entry.isPristine]
  · refine (entries i).trans (if_pos ⟨here, fun pristine => ?_⟩)
    simp [Entry.sparedByOrphaning, Entry.isPristine, pristine] at kept

theorem State.foreign_leave_pushes (applies : s.applies = true) (read : LeaveCause.ofCode c = some cause) :
    s.pushes (s.foreign sender (.leave c)) Record.isReport (s.rosterRecords sender .left (some cause) ++
      s.originRecords (s.foreign sender (.leave c)) sender .orphaned fun i =>
        ((s.foreign sender (.leave c)).entry i).orphaned && !(s.entry i).orphaned) := by
  refine State.foreign_pushes sender applies (fun _ => Notice.noConfusion) ?_
  obtain ⟨cs, -, -, -, -, -, -, table⟩ := s.judged_frame sender none (.leave c)
  simp only [State.kindRecords, read]
  rw [State.judged_rosterRecords, State.orphanRecords_congr sender cs (s.judged_ownState sender _) table,
    State.orphanRecords_eq_originRecords (State.foreign_leave_entry sender applies read)]

end LeaveFrame

/-- Settles O39: a LEAVE with a cause makes its sender LEFT and orphans its entries. -/
theorem leaveDepartsItsSender : Obligations.LeaveDepartsItsSender := by
  intro s sender c receives applies
  refine ⟨_, State.receives_run receives sender (.leave c),
    (State.foreign_count sender applies (.inl fun _ => Notice.noConfusion)).1, fun v other => ?_, fun small => ?_,
    fun small => ?_, fun big => ?_⟩
  · cases read : LeaveCause.ofCode c with
    | none =>
      rw [State.foreign_record sender applies (fun _ => Notice.noConfusion), State.applied_leave_none sender read,
        State.judged_record, if_neg other]
    | some cause => exact (State.foreign_leave_record sender applies read v).trans (if_neg other)
  · have read := LeaveCause.ofCode_of_le_one small
    have heard := State.judged_lastHeard (s := s) sender (own := none) (n := .leave c) (.inl fun _ => Notice.noConfusion)
    have trusted : ((s.judged sender none (.leave c)).record sender).suspect = false := by rw [State.judged_record, if_pos rfl]
    have left := RosterRecord.become_left _ (sender == (s.judged sender none (.leave c)).own)
      (s.judged sender none (.leave c)).presenceMs trusted
    rw [(State.foreign_leave_record sender applies read sender).trans (if_pos rfl), ← heard]
    refine ⟨left.1, left.2.1, left.2.2, fun i => ?_⟩
    simp only [State.foreign_leave_entry sender applies read, originOf_eq_iff]
  · exact State.foreign_leave_pushes sender applies (LeaveCause.ofCode_of_le_one small)
  · have unread := LeaveCause.ofCode_eq_none big
    have idle := State.foreign_idle sender applies (fun _ => Notice.noConfusion) (fun _ => Notice.noConfusion)
      (State.applied_leave_none sender unread) (by simp [State.kindRecords, unread])
    refine ⟨?_, idle.1, idle.2.2.2⟩
    rw [State.foreign_record sender applies (fun _ => Notice.noConfusion), State.applied_leave_none sender unread,
      State.judged_state]

end Sys2Proof.Machine
end

section
/-! PROOF. What the acceptance of another station's frame leaves of Line Controller, roster, own state and points (R3, R23,
R103, R130), for O33. -/

namespace Sys2Proof.Machine

/-! ## The Line Controller -/

/-- The kind's effect counts no frame (R110). -/
theorem State.applyKind_accepted (s : State) (sender : StationId) (taken : Bool) (n : Notice) :
    (s.applyKind sender taken n).lc.counters.framesAccepted = s.lc.counters.framesAccepted := by
  unfold State.applyKind
  cases n with
  | presence p =>
    dsimp only [State.applyPresence]
    split <;> simp
  | point p =>
    dsimp only
    split
    · rw [State.applyPoint_lc]
      split <;> rfl
    · rfl
  | claim p =>
    dsimp only
    split
    · rw [State.applyClaim_lc]
      split <;> rfl
    · rfl
  | lost p =>
    dsimp only [State.applyLost]
    split <;> simp
  | purge o =>
    dsimp only [State.applyPurge]
    split
    · split <;> simp
    · rfl
  | leave c =>
    dsimp only [State.applyLeave]
    split <;> simp
  | join p =>
    dsimp only [State.applyJoin]
    split
    · split <;> simp
    · rfl
  | snapshot p =>
    dsimp only
    split <;> rfl

theorem State.settlePresence_lc (old s : State) (sender : StationId) (p : PresencePayload) :
    ∃ v, (State.settlePresence old s sender p).lc = { s.lc with vetoCount := v } := by
  unfold State.settlePresence State.decideWindow
  split
  · split
    · split
      · exact ⟨s.lc.vetoCount, by simp⟩
      · exact ⟨0, by rw [State.enterOut_lc]⟩
    · exact ⟨s.lc.vetoCount, rfl⟩
  · refine ⟨s.lc.vetoCount, ?_⟩
    (repeat' split) <;> simp

theorem State.taken_lc (old : State) (sender : StationId) (n : Notice) : ∃ c, (old.taken sender none n).lc =
    { (old.takeFrame none).lc with counters := c } ∧ c.framesAccepted = bump old.lc.counters.framesAccepted := by
  have base : (old.takeFrame none).lc.counters.framesAccepted = bump old.lc.counters.framesAccepted := by
    rw [State.takeFrame_lc]
  by_cases applies : old.applies = true
  · have judged := (old.judged_frame sender none n).2.2.2.2.2.1
    refine ⟨(old.applied sender none n).lc.counters, ?_, ?_⟩
    · rw [(State.taken_frame sender ((old.begun_none_applies n).trans applies)).2.2.2.1, State.applied, State.applyKind_lc,
        judged]
    · rw [State.applied, State.applyKind_accepted, judged, base]
  · have stands := (old.begun_none_applies n).trans (by simpa using applies)
    exact ⟨(old.takeFrame none).lc.counters, (State.taken_frame_of_not sender stands).2.2.2.2.1, base⟩

theorem State.dutiful_lc (old : State) (sender : StationId) (n : Notice) :
    ∃ v, (old.dutiful sender none n).lc = { (old.taken sender none n).lc with vetoCount := v } := by
  simp only [State.dutiful, State.takeDuties_frame]
  cases n with
  | presence p => exact State.settlePresence_lc old _ sender p
  | _ => exact ⟨_, rfl⟩

/-- The line after another station's frame: counted, not idle, and with nothing of the own in flight (R93, R107). -/
theorem State.foreign_line {s : State} (receives : s.receives) (sender : StationId) (n : Notice) :
    (s.foreign sender n).lc.counters.framesAccepted = bump s.lc.counters.framesAccepted ∧
      (s.foreign sender n).lc.inFlight = none ∧ (s.foreign sender n).lc.receiverOn = true ∧
      (s.foreign sender n).lc.lineIdle = false := by
  obtain ⟨on, quiet, -⟩ := receives
  obtain ⟨c, taken, counted⟩ := s.taken_lc sender n
  obtain ⟨v, dutiful⟩ := s.dutiful_lc sender n
  rw [State.foreign, (State.close_frame _ s).2.2.2.2.2.1, dutiful, taken, State.takeFrame_lc]
  exact ⟨counted, by simp [quiet], on, rfl⟩

theorem State.foreign_cs (s : State) (sender : StationId) (n : Notice) : (s.foreign sender n).cs = s.cs := by
  by_cases applies : s.applies = true
  · simp [State.foreign, State.dutiful, (State.taken_frame sender ((s.begun_none_applies n).trans applies)).1]
  · have stands := (s.begun_none_applies n).trans (by simpa using applies)
    simp [State.foreign, State.dutiful, (State.taken_frame_of_not sender stands).1]

theorem State.foreign_pending (s : State) (sender : StationId) (n : Notice) : (s.foreign sender n).pending = s.pending := by
  by_cases applies : s.applies = true
  · simp [State.foreign, State.dutiful, (State.taken_frame sender ((s.begun_none_applies n).trans applies)).2.2.2.2.2]
  · have stands := (s.begun_none_applies n).trans (by simpa using applies)
    simp [State.foreign, State.dutiful, (State.taken_frame_of_not sender stands).2.2.2.2.2.2]

/-- The veto count at a station that applies the frame (R107). -/
theorem State.foreign_vetoCount {s : State} (applies : s.applies = true) (sender : StationId) (n : Notice) :
    (s.foreign sender n).lc.vetoCount = s.lc.vetoCount := by
  rw [State.foreign_lc sender applies, State.applied, State.applyKind_lc, (s.judged_frame sender none n).2.2.2.2.2.1,
    State.takeFrame_lc]
  rfl

/-! ## The changes of own state -/

/-- The state of an acceptance once the changes of own state are done, before the reference's duties. -/
def State.moved (old : State) (sender : StationId) (own : Option Item) (n : Notice) : State :=
  State.settleMembership old (old.taken sender own n) sender own n

theorem State.dutiful_eq (old : State) (sender : StationId) (own : Option Item) (n : Notice) :
    old.dutiful sender own n = State.takeDuties old (old.moved sender own n) := rfl

theorem State.moved_plain (s : State) (sender : StationId) {n : Notice} (presence : ∀ p, n ≠ .presence p) :
    s.moved sender none n = s.taken sender none n :=
  State.settleMembership_stays s _ sender presence (.inl rfl)

theorem State.foreign_ru (s : State) (sender : StationId) (n : Notice) :
    (s.foreign sender n).ru = (State.takeDuties s (s.moved sender none n)).ru := by
  rw [State.foreign, (State.close_frame _ s).2.2.1, State.dutiful_eq]

theorem State.foreign_sq (s : State) (sender : StationId) (n : Notice) :
    (s.foreign sender n).sq = (State.takeDuties s (s.moved sender none n)).sq := by
  rw [State.foreign, (State.close_frame _ s).2.2.2.2.1, State.dutiful_eq]

theorem State.moved_cs (s : State) (sender : StationId) (n : Notice) : (s.moved sender none n).cs = s.cs := by
  by_cases applies : s.applies = true
  · simp [State.moved, (State.taken_frame sender ((s.begun_none_applies n).trans applies)).1]
  · have stands := (s.begun_none_applies n).trans (by simpa using applies)
    simp [State.moved, (State.taken_frame_of_not sender stands).1]

theorem State.not_listening_of_applies {s : State} (applies : s.applies = true) : s.inState .listening = false := by
  by_contra yes
  simp [State.applies, State.inState_iff.1 (by simpa using yes)] at applies

/-- What a PRESENCE can bring outside LISTENING (R80, R135, R136, R156). -/
theorem State.settlePresence_cases {P : State → Prop} {old s : State} (elsewhere : old.inState .listening = false)
    (sender : StationId)
    (p : PresencePayload) (nothing : P s) (aligned : P s.alignFlashers)
    (syncing : old.ru.state = .member → P s.alignFlashers.enterSyncing)
    (completes : old.completes = true → P (s.alignFlashers.complete p)) : P (State.settlePresence old s sender p) := by
  unfold State.settlePresence
  rw [elsewhere, if_neg Bool.false_ne_true]
  split
  · split
    · unfold State.hearReference
      dsimp only
      split
      · split
        · rename_i member
          split
          · exact syncing (State.inState_iff.1 member.1)
          · exact aligned
        · split
          · exact completes ‹_›
          · exact aligned
      · exact aligned
    · exact nothing
  · exact nothing

/-! ## A frame that is not applied -/

theorem State.isOwnReference_of_same {s t : State} (cs : t.cs = s.cs) (ru : t.ru = s.ru) :
    t.isOwnReference = s.isOwnReference :=
  State.isOwnReference_congr cs (congrArg RosterUnit.state ru) (congrArg RosterUnit.roster ru)

/-- A frame that is not applied leaves table, roster, own state and points, a PRESENCE in LISTENING apart (R3). -/
theorem State.foreign_stands {s : State} (sender : StationId) {n : Notice} (stands : s.applies = false)
    (window : s.ru.state = .listening → ∀ p, n ≠ .presence p) : (s.foreign sender n).et = s.et ∧
      (s.foreign sender n).ru = s.ru ∧ (s.foreign sender n).pu = s.pu ∧ (s.foreign sender n).lc = (s.takeFrame none).lc ∧
      (s.foreign sender n).ou.silenceMark = s.ou.silenceMark ∧ (s.foreign sender n).ou.fast = s.ou.fast ∧
      (s.foreign sender n).ou.slow = s.ou.slow := by
  obtain ⟨cs, et, ru, pu, lc, ou, -⟩ := State.taken_frame_of_not sender ((s.begun_none_applies n).trans stands)
  rw [State.moveCursor_none, State.begun_none_ru] at ru
  have member : State.settleMembership s (s.taken sender none n) sender none n = s.taken sender none n := by
    cases n with
    | presence p =>
      have elsewhere : s.inState .listening = false := by
        by_contra yes
        exact window (State.inState_iff.1 (by simpa using yes)) p rfl
      simp only [State.settleMembership, State.settlePresence, elsewhere, stands]
      simp only [Bool.false_eq_true, if_false, false_and]
      split <;> rfl
    | _ => rfl
  have duties : (State.takeDuties s (s.taken sender none n)).ru = s.ru := by
    rw [State.takeDuties_ru, State.sweeps_congr cs ru, ru]
    simp
  rw [State.foreign, State.close_ou]
  simp [duties, State.dutiful, member, et, pu, lc, ou]

/-! ## Rosters -/

theorem State.record_complete (s : State) (p : PresencePayload) (u : StationId) : (s.complete p).record u =
    if u = s.own then s.record u else (s.record u).become (carriedState p u) false s.presenceMs := by
  simp [State.record, State.complete_ru]

/-- What holds of a record once the frame is judged, and is kept where a record takes a state, holds of it at the end. -/
theorem State.foreign_record_keeps {s : State} (applies : s.applies = true) (sender : StationId) (n : Notice) (u : StationId)
    {Q : RosterRecord → Prop} (keeps : ∀ r st, Q r → Q (r.become st (u == s.own) s.presenceMs))
    (judged : Q ((s.judged sender none n).record u)) : Q ((s.foreign sender n).record u) := by
  have begun := (s.begun_none_applies n).trans applies
  have cs := (s.judged_frame sender none n).1
  have kind : Q ((s.applied sender none n).record u) := by
    have roster := (s.judged sender none n).roster_applyKind sender ((s.begun none n).takesSegment sender) n
    cases move : (s.judged sender none n).kindMove sender n with
    | none =>
      rw [move] at roster
      rw [State.applied, State.record_congr roster]
      exact judged
    | some m =>
      obtain ⟨t, st, cause⟩ := m
      rw [move] at roster
      rw [State.applied, State.record_congr roster, State.record_setRoster, State.presenceMs_congr cs,
        show (s.judged sender none n).own = s.own from congrArg ConfigStore.stationNumber cs]
      split
      · rename_i same
        exact same ▸ keeps _ _ judged
      · exact judged
  have taken : Q ((s.taken sender none n).record u) := by
    rw [State.record_congr (s := s.applied sender none n) (by rw [(State.taken_frame sender begun).2.2.1, State.moveCursor_none])]
    exact kind
  have moved : Q ((s.moved sender none n).record u) := by
    cases n with
    | presence p =>
      refine State.settlePresence_cases (P := fun t => Q (t.record u)) (State.not_listening_of_applies applies) sender p
        taken ?_ (fun _ => ?_) fun _ => ?_
      · rwa [State.record_congr (congrArg RosterUnit.roster (State.alignFlashers_frame _).2.2.1)]
      · rwa [State.record_congr (s := s.taken sender none (.presence p)) (by simp [State.enterSyncing_ru])]
      · have takenCs := (State.taken_frame sender begun).1
        rw [State.record_complete, State.record_congr (congrArg RosterUnit.roster (State.alignFlashers_frame _).2.2.1),
          State.presenceMs_congr (((State.alignFlashers_frame _).1).trans takenCs)]
        split
        · exact taken
        · rename_i other
          have own : (u == s.own) = false := by
            simpa [State.own, takenCs] using other
          exact own ▸ keeps _ _ taken
    | _ => exact taken
  rw [State.record_congr (s := s.moved sender none n) (by rw [State.foreign_ru, State.takeDuties_roster])]
  exact moved

end Sys2Proof.Machine
end

section
/-! PROOF. The sender's record, own state, points and duties after another station's frame (R103, R130, R138, R150), for O33. -/

namespace Sys2Proof.Machine

theorem RosterState.live_iff (r : RosterRecord) : r.state.live = true ↔ r.stands := by
  cases h : r.state <;> simp [RosterState.live, RosterRecord.stands, h]

/-! ## The sender's record (R130) -/

/-- A record that has just been heard at the count `count`. -/
def RosterRecord.HeardAt (count : Option Word32) (own : Bool) (period : Nat) (r : RosterRecord) : Prop :=
  r.lastHeard = count ∧ r.suspect = false ∧ (own = false → r.state.live = true → r.silence = some (3 * period))

theorem RosterRecord.HeardAt.become {count : Option Word32} {own : Bool} {period : Nat} {r : RosterRecord}
    (h : r.HeardAt count own period) (st : RosterState) : (r.become st own period).HeardAt count own period := by
  obtain ⟨heard, trusted, silence⟩ := h
  unfold RosterRecord.become
  split
  · exact ⟨heard, trusted, silence⟩
  · split
    · exact ⟨heard, trusted, fun other _ => by simp [other]⟩
    · rename_i dead
      exact ⟨heard, rfl, fun _ live => absurd live dead⟩

/-- The count at which the sender of a frame is heard. -/
def State.judgedCount (old : State) (sender : StationId) (n : Notice) : Option Word32 :=
  if (old.judged sender none n).et.countValid then some (old.judged sender none n).et.lineCount else none

theorem State.foreign_heard {s : State} (applies : s.applies = true) (sender : StationId) (n : Notice) :
    ((s.foreign sender n).record sender).HeardAt (s.judgedCount sender n) (sender == s.own) s.presenceMs := by
  refine State.foreign_record_keeps applies sender n sender (fun _ st h => h.become st) ?_
  rw [State.judged_record, if_pos rfl]
  refine ⟨rfl, rfl, fun other live => ?_⟩
  have apart : (sender != s.own) = true := by simp [bne, other]
  have live : (s.record sender).state.live = true := live
  simp [live, apart]

theorem State.judgedCount_plain {s : State} (sender : StationId) {n : Notice}
    (plain : (∀ p, n ≠ .snapshot p) ∨ s.takesSegment sender = false) : s.judgedCount sender n = s.heardAt := by
  have := State.judged_lastHeard (s := s) sender (own := none) (n := n)
    (by rwa [State.takesSegment_congr (s.begun_none_ru n)])
  rwa [State.judged_record, if_pos rfl] at this

/-- The line count of a segment that is taken (R153). -/
theorem State.judged_count_taken {s : State} {sender : StationId} (takes : s.takesSegment sender = true) (p : SnapshotPayload) :
    (s.judged sender none (.snapshot p)).et.lineCount = p.lineCount + 1 ∧
      (s.judged sender none (.snapshot p)).et.countValid = true := by
  have takes : (s.begun none (.snapshot p)).takesSegment sender = true := by
    rwa [State.takesSegment_congr (s.begun_none_ru _)]
  rw [State.judged_et, State.countFrame, if_pos takes]
  exact ⟨rfl, rfl⟩

theorem State.foreign_count_taken {s : State} {sender : StationId} (applies : s.applies = true)
    (takes : s.takesSegment sender = true) (p : SnapshotPayload) :
    (s.foreign sender (.snapshot p)).et.lineCount = p.lineCount + 1 ∧ (s.foreign sender (.snapshot p)).et.countValid = true ∧
      ((s.foreign sender (.snapshot p)).record sender).lastHeard = some (p.lineCount + 1) := by
  obtain ⟨count, valid⟩ := State.judged_count_taken takes p
  obtain ⟨kept, kept'⟩ := State.applyKind_count (s.judged sender none (.snapshot p)) sender
    ((s.begun none (.snapshot p)).takesSegment sender) (.snapshot p)
  rw [State.foreign_et sender applies]
  refine ⟨kept.trans count, kept'.trans valid, ?_⟩
  rw [(State.foreign_heard applies sender (.snapshot p)).1, State.judgedCount, count, valid]
  rfl

/-! ## The records of the others (R131) -/

theorem State.kindMove_station {s : State} {sender u : StationId} {n : Notice} {st : RosterState} {cause : Option LeaveCause}
    (move : s.kindMove sender n = some (u, st, cause)) :
    (∃ p, n = .lost p ∧ u = lostTarget p) ∨ (u = sender ∧ ((∃ p, n = .presence p) ∨ (∃ c, n = .leave c) ∨ ∃ p, n = .join p)) := by
  unfold State.kindMove at move
  cases n with
  | presence p =>
    obtain ⟨_, -, same⟩ := Option.map_eq_some_iff.1 move
    injection same with same
    exact .inr ⟨same.symm, .inl ⟨p, rfl⟩⟩
  | lost p =>
    dsimp only at move
    split at move
    · injection move with same
      injection same with same
      exact .inl ⟨p, rfl, same.symm⟩
    · exact nomatch move
  | leave c =>
    obtain ⟨_, -, same⟩ := Option.map_eq_some_iff.1 move
    injection same with same
    exact .inr ⟨same.symm, .inr (.inl ⟨c, rfl⟩)⟩
  | join p =>
    obtain ⟨_, -, rest⟩ := Option.bind_eq_some_iff.1 move
    split at rest
    · injection rest with same
      injection same with same
      exact .inr ⟨same.symm, .inr (.inr ⟨p, rfl⟩)⟩
    · exact nomatch rest
  | point p => exact nomatch move
  | claim p => exact nomatch move
  | purge o => exact nomatch move
  | snapshot p => exact nomatch move

/-- A record whose state the frame does not move is as the judgement left it. -/
theorem State.applied_record_of_unmoved {s : State} {sender u : StationId} {n : Notice}
    (unmoved : ∀ st cause, (s.judged sender none n).kindMove sender n ≠ some (u, st, cause)) :
    (s.applied sender none n).record u = (s.judged sender none n).record u := by
  have roster := (s.judged sender none n).roster_applyKind sender ((s.begun none n).takesSegment sender) n
  cases move : (s.judged sender none n).kindMove sender n with
  | none =>
    rw [move] at roster
    rw [State.applied, State.record_congr roster]
  | some m =>
    obtain ⟨t, st, cause⟩ := m
    rw [move] at roster unmoved
    rw [State.applied, State.record_congr roster, State.record_setRoster, if_neg]
    rintro rfl
    exact unmoved st cause rfl

theorem lostTarget_val (p : LostPayload) : (lostTarget p).1 = p.target.toNat % 16 := by
  simp [lostTarget, lowNibble]

/-- But for a PRESENCE, the records of stations that the frame neither comes from nor names stand. -/
theorem State.foreign_record_others {s : State} {sender v : StationId} {n : Notice} (presence : ∀ p, n ≠ .presence p)
    (other : v ≠ sender) (unnamed : ∀ p, n = .lost p → p.target.toNat % 16 ≠ v.1) : (s.foreign sender n).record v = s.record v := by
  by_cases applies : s.applies = true
  · rw [State.foreign_record sender applies presence, State.applied_record_of_unmoved fun st cause move => ?_,
      State.judged_record, if_neg other]
    rcases State.kindMove_station move with ⟨p, rfl, same⟩ | ⟨same, -⟩
    · exact unnamed p rfl (by rw [same, lostTarget_val])
    · exact other same
  · rw [State.record_congr (congrArg RosterUnit.roster
      (State.foreign_stands sender (by simpa using applies) fun _ => presence).2.1)]

/-- A POINT, a CLAIM, a PURGE, a SNAPSHOT and a LOST that names another station leave the state of the sender's record. -/
theorem State.foreign_senderState {s : State} {sender : StationId} {n : Notice}
    (kind : (∃ p, n = .point p) ∨ (∃ p, n = .claim p) ∨ (∃ o, n = .purge o) ∨ (∃ p, n = .snapshot p) ∨
      ∃ p, n = .lost p ∧ p.target.toNat % 16 ≠ sender.1) :
    ((s.foreign sender n).record sender).state = (s.record sender).state := by
  have presence : ∀ p, n ≠ .presence p := by
    rintro p rfl
    simp at kind
  by_cases applies : s.applies = true
  · rw [State.foreign_record sender applies presence, State.applied_record_of_unmoved fun st cause move => ?_,
      State.judged_state]
    rcases State.kindMove_station move with ⟨p, rfl, same⟩ | ⟨-, moves⟩
    · have other : p.target.toNat % 16 ≠ sender.1 := by simpa using kind
      exact other (by rw [same, lostTarget_val])
    · rcases moves with ⟨p, rfl⟩ | ⟨c, rfl⟩ | ⟨p, rfl⟩ <;> simp at kind
  · rw [State.record_congr (congrArg RosterUnit.roster
      (State.foreign_stands sender (by simpa using applies) fun _ => presence).2.1)]

/-! ## Own state, outputs, port and points, but for a PRESENCE -/

/-- The own state is that before but for roster, cursor, coverage set and attempt timer. -/
def RosterUnit.sameService (r r' : RosterUnit) : Prop :=
  r' = { r with roster := r'.roster, cursor := r'.cursor, coverage := r'.coverage, attemptTimer := r'.attemptTimer }

theorem RosterUnit.sameService.trans {r r' r'' : RosterUnit} (h : r.sameService r') (h' : r'.sameService r'') :
    r.sameService r'' := by
  rw [RosterUnit.sameService] at *
  rw [h', h]

theorem RosterUnit.sameControl.service {r r' : RosterUnit} (h : r.sameControl r') : r.sameService r' := by
  rw [RosterUnit.sameControl] at h
  rw [h, RosterUnit.sameService]

theorem State.setRoster_cursor (s : State) (t : StationId) (st : RosterState) (cause : Option LeaveCause) :
    (s.setRoster t st cause).ru.cursor = s.ru.cursor := by
  unfold State.setRoster
  dsimp only
  (repeat' split) <;> simp

theorem State.applyKind_service (s : State) (sender : StationId) (taken : Bool) (n : Notice) :
    s.ru.sameService (s.applyKind sender taken n).ru ∧ (s.applyKind sender taken n).ru.cursor = s.ru.cursor := by
  refine s.applyKind_cases (P := fun t => s.ru.sameService t.ru ∧ t.ru.cursor = s.ru.cursor) sender taken n ⟨rfl, rfl⟩
    (fun st => ?_) (fun i occ => ?_) (fun t st cause => ?_) (fun o => ?_) (fun st cause => ?_) (fun _ => ⟨rfl, rfl⟩)
    fun p _ _ _ => ?_
  · rw [show (s.applyPoint sender st).ru = s.ru by simp]
    exact ⟨rfl, rfl⟩
  · rw [show (s.applyClaim sender i occ).ru = s.ru by simp]
    exact ⟨rfl, rfl⟩
  · rw [(State.orphanOrigin_frame _ t).2.1]
    exact ⟨(s.setRoster_sameControl t st cause).service, s.setRoster_cursor t st cause⟩
  · rw [(State.purgeOrigin_frame _ o).2.1]
    exact ⟨rfl, rfl⟩
  · exact ⟨(s.setRoster_sameControl sender st cause).service, s.setRoster_cursor sender st cause⟩
  · exact ⟨rfl, rfl⟩

/-- The kind's effect moves the Output Unit's pulse timers alone (R84). -/
theorem State.applyKind_ou (s : State) (sender : StationId) (taken : Bool) (n : Notice) :
    (s.applyKind sender taken n).ou = { s.ou with pulses := (s.applyKind sender taken n).ou.pulses } := by
  refine s.applyKind_cases (P := fun t => t.ou = { s.ou with pulses := t.ou.pulses }) sender taken n rfl (fun st => ?_)
    (fun i occ => ?_) (fun t st cause => by simp) (fun o => by simp) (fun st cause => by simp) (fun _ => rfl) fun p _ _ _ => rfl
  · unfold State.applyPoint
    dsimp only
    (repeat' split) <;> simp [State.startPulses]
  · unfold State.applyClaim
    split <;> simp

theorem State.applied_service (s : State) (sender : StationId) (n : Notice) :
    s.ru.sameService (s.applied sender none n).ru ∧ (s.applied sender none n).ru.cursor = s.ru.cursor := by
  have judged := s.judged_control sender none n
  rw [State.begun_none_ru] at judged
  obtain ⟨service, cursor⟩ := State.applyKind_service (s.judged sender none n) sender ((s.begun none n).takesSegment sender) n
  refine ⟨judged.service.trans service, cursor.trans ?_⟩
  simp [State.judged, State.hearSender, State.begun_none_ru]

theorem State.taken_service (s : State) (sender : StationId) (n : Notice) :
    s.ru.sameService (s.taken sender none n).ru ∧ (s.taken sender none n).ru.cursor = s.ru.cursor := by
  by_cases applies : s.applies = true
  · rw [(State.taken_frame sender ((s.begun_none_applies n).trans applies)).2.2.1, State.moveCursor_none]
    exact s.applied_service sender n
  · rw [(State.taken_frame_of_not sender ((s.begun_none_applies n).trans (by simpa using applies))).2.2.1,
      State.moveCursor_none, State.begun_none_ru]
    exact ⟨rfl, rfl⟩

theorem State.foreign_service {s : State} (sender : StationId) {n : Notice} (presence : ∀ p, n ≠ .presence p) :
    s.ru.sameService (s.foreign sender n).ru := by
  rw [State.foreign_ru, State.moved_plain s sender presence]
  exact (s.taken_service sender n).1.trans (State.takeDuties_sameControl s _).service

theorem State.foreign_ou {s : State} (sender : StationId) {n : Notice} (presence : ∀ p, n ≠ .presence p) :
    (s.foreign sender n).ou.silenceMark = s.ou.silenceMark ∧ (s.foreign sender n).ou.fast = s.ou.fast ∧
      (s.foreign sender n).ou.slow = s.ou.slow := by
  by_cases applies : s.applies = true
  · have taken := (State.taken_frame sender ((s.begun_none_applies n).trans applies)).2.2.2.2.1
    rw [State.foreign, State.close_ou, State.dutiful_plain sender presence, (State.takeDuties_frame _ s).2.2.2.2.1, taken,
      State.applied, State.applyKind_ou, (s.judged_frame sender none n).2.2.2.1]
    exact ⟨rfl, rfl, rfl⟩
  · exact (State.foreign_stands sender (by simpa using applies) fun _ => presence).2.2.2.2

theorem State.portAfter_reply (s : State) (rs : List Record) : (s.portAfter rs).reply = s.lp.reply :=
  List.foldlRecOn (motive := fun l : LocalPort => l.reply = s.lp.reply) rs _ rfl fun l h r _ => by simpa using h

theorem State.foreign_reply {s : State} (sender : StationId) {n : Notice} (presence : ∀ p, n ≠ .presence p) :
    (s.foreign sender n).lp.reply = s.lp.reply := by
  have taken : ∃ rs, s.Pushed (s.taken sender none n) rs := by
    by_cases applies : s.applies = true
    · exact ⟨_, State.pushed_taken sender ((s.begun_none_applies n).trans applies)⟩
    · have begun : s.Pushed (s.begun none n) [] := .nothing (s.begun_frame none n).1 (s.begun_frame none n).2.2.2.2.2.1
      rw [State.taken_eq, State.applyFrame_of_not sender ((s.begun_none_applies n).trans (by simpa using applies))]
      exact ⟨_, begun.trans (State.pushed_settleQueue s _ sender none n)⟩
  obtain ⟨rs, taken⟩ := taken
  rw [State.foreign, State.close_reply, State.dutiful_plain sender presence, (State.takeDuties_frame _ s).2.2.2.2.2.1, taken.lp,
    State.portAfter_reply]

/-- The levels and the qualification of the points stand (R28, R32). -/
theorem State.foreign_levels {s : State} (sender : StationId) {n : Notice} (presence : ∀ p, n ≠ .presence p) (q : PointId) :
    (s.point q).sameLevels ((s.foreign sender n).point q) := by
  rw [State.point_congr (State.foreign_pu sender presence)]
  by_cases applies : s.applies = true
  · rw [State.applyFrame_of_applies sender ((s.begun_none_applies n).trans applies)]
    have applied : s.KeepsLevels (s.applied sender none n) := by
      refine .of_pu ?_ (by simp [State.applied, (s.judged_frame sender none n).2.1])
      rw [(s.applied_service sender n).1]
    exact ((applied.trans (State.keepsLevels_settlePoints s _ none n)).trans (State.keepsLevels_recoverFromLost _ _ n)).levels q
  · rw [State.applyFrame_of_not sender ((s.begun_none_applies n).trans (by simpa using applies)),
      State.point_congr (s.begun_frame none n).2.2.1]
    exact rfl

/-! ## The reference's duties (R138, R139, R150) -/

theorem State.namesItself_iff (s : State) : s.namesItself ↔ s.isOwnReference = true := by
  simp [State.namesItself, State.isOwnReference, State.own]

theorem State.someoneRebuilds_iff (s : State) : s.someoneRebuilds ↔ s.someRebuilding = true := by
  simp only [State.someoneRebuilds, State.someRebuilding, List.any_eq_true, List.mem_finRange, true_and]
  refine exists_congr fun u => ?_
  cases (s.record u).state <;> simp [RosterState.rebuilding]

theorem State.sweepCondition_iff (s : State) : s.sweepCondition ↔ s.sweeps = true := by
  simp only [State.sweepCondition, State.sweeps, Bool.and_eq_true, State.inState_iff, State.namesItself_iff,
    State.someoneRebuilds_iff, and_assoc]

theorem State.foreign_isOwnReference (s : State) (sender : StationId) (n : Notice) :
    (s.foreign sender n).isOwnReference = (s.moved sender none n).isOwnReference := by
  have control := State.takeDuties_sameControl s (s.moved sender none n)
  refine State.isOwnReference_congr ((s.foreign_cs sender n).trans (s.moved_cs sender n).symm) ?_ ?_
  · rw [State.foreign_ru, control.state]
  · rw [State.foreign_ru, State.takeDuties_roster]

theorem State.foreign_sweeps (s : State) (sender : StationId) (n : Notice) :
    (s.foreign sender n).sweeps = (s.moved sender none n).sweeps := by
  have control := State.takeDuties_sameControl s (s.moved sender none n)
  have roster : ∀ u, (s.foreign sender n).record u = (s.moved sender none n).record u := fun u =>
    State.record_congr (by rw [State.foreign_ru, State.takeDuties_roster]) u
  simp only [State.sweeps, State.foreign_isOwnReference, State.inState, State.foreign_ru, control.state, State.someRebuilding,
    roster]

end Sys2Proof.Machine
end

section
/-! PROOF. The items that are no point's, from event to event (R112, R118, R119, R138, R139, R150, R152), for O33. -/

namespace Sys2Proof.Machine

/-! ## Operations that only add items, or place a point's item again -/

/-- Every item but a point's that is older than the next age stays where it is, in the list or out of it. -/
def State.KeepsOlder (s t : State) : Prop :=
  s.sq.nextAge ≤ t.sq.nextAge ∧
    ∀ x : Item, x.age < s.sq.nextAge → x.kind.isPoint = false → (x ∈ t.sq.items ↔ x ∈ s.sq.items)

theorem State.KeepsOlder.of_sq {s t : State} (sq : t.sq = s.sq) : s.KeepsOlder t := by
  rw [State.KeepsOlder, sq]
  exact ⟨Nat.le_refl _, fun _ _ _ => Iff.rfl⟩

theorem State.KeepsOlder.trans {s t u : State} (h : s.KeepsOlder t) (h' : t.KeepsOlder u) : s.KeepsOlder u :=
  ⟨Nat.le_trans h.1 h'.1, fun x old other =>
    (h'.2 x (Nat.lt_of_lt_of_le old h.1) other).trans (h.2 x old other)⟩

theorem State.KeepsOlder.foldl {α : Type} {step : State → α → State} (each : ∀ (u : State) a, u.KeepsOlder (step u a))
    (l : List α) (s : State) : s.KeepsOlder (l.foldl step s) :=
  List.foldlRecOn (motive := fun u => s.KeepsOlder u) l step (.of_sq rfl) fun u hu a _ => hu.trans (each u a)

theorem State.mem_enqueue {s : State} {kind : ItemKind} {cls : Fin 4} {x : Item} : x ∈ (s.enqueue kind cls).sq.items ↔
    x = { kind := kind, cls := cls, age := s.sq.nextAge } ∨ x ∈ s.sq.items := by
  simp [State.enqueue, SendQueue.enqueue]

theorem State.keepsOlder_enqueue (s : State) (kind : ItemKind) (cls : Fin 4) : s.KeepsOlder (s.enqueue kind cls) := by
  refine ⟨Nat.le_succ _, fun x old _ => ?_⟩
  rw [State.mem_enqueue, or_iff_right]
  rintro rfl
  exact Nat.lt_irrefl _ old

theorem State.keepsOlder_requestPresence (s : State) : s.KeepsOlder s.requestPresence := by
  unfold State.requestPresence
  split
  · exact .of_sq rfl
  · exact s.keepsOlder_enqueue _ _

theorem State.keepsOlder_requestAllLost (s : State) : s.KeepsOlder s.requestAllLost := by
  refine State.KeepsOlder.foldl (fun u t => ?_) _ s
  split
  · unfold State.requestLost
    split
    · exact .of_sq rfl
    · exact u.keepsOlder_enqueue _ _
  · exact .of_sq rfl

theorem State.keepsOlder_startSweep (s : State) : s.KeepsOlder s.startSweep := by
  have cursor : s.KeepsOlder (s.onRu fun r => { r with cursor := 0 }) := .of_sq rfl
  refine cursor.trans ?_
  unfold State.startSweep State.requestSnapshot
  split
  · exact .of_sq rfl
  · exact State.keepsOlder_enqueue _ _ _

theorem State.keepsOlder_queuePoint (s : State) (p : PointId) : s.KeepsOlder (s.queuePoint p) :=
  (s.keepsOlder_enqueue _ _).trans (.of_sq rfl)

theorem State.keepsOlder_announceCheck (s : State) (p : PointId) (forced : Bool) : s.KeepsOlder (s.announceCheck p forced) := by
  unfold State.announceCheck
  split
  · exact s.keepsOlder_queuePoint p
  · exact .of_sq rfl

theorem State.keepsOlder_reannounceAll (s : State) : s.KeepsOlder s.reannounceAll := by
  refine State.KeepsOlder.foldl (fun u p => ?_) _ s
  split
  · exact u.keepsOlder_queuePoint p
  · exact .of_sq rfl

theorem State.keepsOlder_reclassPoint (s : State) (p : PointId) : s.KeepsOlder (s.reclassPoint p) := by
  have point : ∀ k : ItemKind, ItemKind.isPointOf p k = true → k.isPoint = true := by
    intro k yes
    cases k <;> simp_all [ItemKind.isPointOf, ItemKind.isPoint]
  refine ⟨Nat.le_refl _, fun x _ other => ?_⟩
  have elsewhere : ItemKind.isPointOf p x.kind = false := by
    by_contra yes
    exact absurd (point _ (by simpa using yes)) (by simp [other])
  rw [State.reclassPoint, State.reclassItems_sq, mem_replaced]
  refine ⟨?_, fun listed => .inr ⟨listed, elsewhere⟩⟩
  rintro (⟨y, -, moved, rfl⟩ | ⟨listed, -⟩)
  · exact absurd (point _ moved) (by simpa using other)
  · exact listed

theorem State.keepsOlder_resetPending (s : State) : s.KeepsOlder s.resetPending := by
  have reset : s.KeepsOlder (s.onPoints fun _ r => { r with pendingReminders := 0 }) := .of_sq rfl
  exact reset.trans (State.KeepsOlder.foldl State.keepsOlder_reclassPoint _ _)

theorem State.keepsOlder_settlePurged (old s : State) (n : Notice) : s.KeepsOlder (State.settlePurged old s n) := by
  unfold State.settlePurged
  cases n with
  | purge o =>
    dsimp only
    split
    · exact s.keepsOlder_resetPending
    · exact .of_sq rfl
  | _ => exact .of_sq rfl

theorem State.keepsOlder_checkChanged (old s : State) : s.KeepsOlder (State.checkChanged old s) := by
  refine State.KeepsOlder.foldl (fun u p => ?_) _ s
  split
  · exact .of_sq rfl
  · exact u.keepsOlder_announceCheck p false

theorem State.keepsOlder_recoverFromLost (judged s : State) (n : Notice) : s.KeepsOlder (State.recoverFromLost judged s n) := by
  unfold State.recoverFromLost
  cases n with
  | lost p =>
    dsimp only
    split
    · exact s.keepsOlder_requestPresence.trans (State.keepsOlder_reannounceAll _)
    · exact .of_sq rfl
  | _ => exact .of_sq rfl

/-- PU's part at another station's frame. -/
theorem State.keepsOlder_settlePoints (old s : State) (n : Notice) : s.KeepsOlder (State.settlePoints old s none n) := by
  have stopped : (State.settlePurged old s n).KeepsOlder (State.settlePurged old s n).stopSettledReminders :=
    .of_sq (by simp)
  exact ((State.keepsOlder_settlePurged old s n).trans stopped).trans (State.keepsOlder_checkChanged old _)

theorem State.keepsOlder_applyFrame (s : State) (sender : StationId) (n : Notice) :
    s.KeepsOlder (State.applyFrame s (s.begun none n) sender none n) := by
  by_cases applies : s.applies = true
  · rw [State.applyFrame_of_applies sender ((s.begun_none_applies n).trans applies)]
    have applied : s.KeepsOlder (s.applied sender none n) :=
      .of_sq (by simp [State.applied, (s.judged_frame sender none n).2.2.1])
    exact (applied.trans (State.keepsOlder_settlePoints s _ n)).trans (State.keepsOlder_recoverFromLost _ _ n)
  · rw [State.applyFrame_of_not sender ((s.begun_none_applies n).trans (by simpa using applies))]
    exact .of_sq (s.begun_frame none n).2.2.2.1

/-! ## The items an acceptance settles (R55, R119, R139, R152) -/

theorem State.checkClaim_items (old s : State) (x : Item) : (State.checkClaim old s x).sq.items = s.sq.items ∨
    x.kind.isClaim = true ∧ (State.checkClaim old s x).sq.items = s.sq.items.filter fun y => y.age != x.age := by
  unfold State.checkClaim
  cases claim : x.kind with
  | claim i n =>
    dsimp only
    split
    · exact .inl rfl
    · split
      · exact .inl rfl
      · exact .inr ⟨rfl, by simp⟩
  | _ => exact .inl rfl

/-- At another station's frame claims alone are settled. -/
theorem State.ListOk.mem_settleItems {flying : Option Item} {stale : List PointId} {old s : State} (h : s.ListOk flying stale)
    {x : Item} (other : x.kind.isClaim = false) :
    x ∈ (s.sq.items.foldl (State.settleItem old none) s).sq.items ↔ x ∈ s.sq.items := by
  suffices kept : ∀ u : State, u = s.sq.items.foldl (State.settleItem old none) s → u.sq.items ⊆ s.sq.items ∧
      (x ∈ s.sq.items → x ∈ u.sq.items) from ⟨fun listed => (kept _ rfl).1 listed, (kept _ rfl).2⟩
  rintro u rfl
  refine List.foldlRecOn (motive := fun u : State => u.sq.items ⊆ s.sq.items ∧ (x ∈ s.sq.items → x ∈ u.sq.items)) _ _
    ⟨List.Subset.refl _, id⟩ ?_
  rintro u ⟨subset, kept⟩ y listed
  refine ⟨List.Subset.trans (State.settleItem_subset old u none y) subset, fun here => ?_⟩
  change x ∈ (State.checkClaim old u y).sq.items
  rcases State.checkClaim_items old u y with same | ⟨claim, dropped⟩
  · rw [same]
    exact kept here
  · rw [dropped]
    refine List.mem_filter.2 ⟨kept here, ?_⟩
    simp only [bne_iff_ne, ne_eq]
    intro same
    rw [h.eq_of_age here listed same, claim] at other
    exact nomatch other

theorem State.mem_withdraw {s : State} (quiet : s.lc.inFlight = none) (k : ItemKind → Bool) (x : Item) :
    x ∈ (s.withdraw k).sq.items ↔ x ∈ s.sq.items ∧ k x.kind = false := by
  simp [State.withdraw, State.flies, quiet]

/-- What the settling of the list withdraws (R139, R152). -/
def State.overtakes (s : State) (sender : StationId) (k : ItemKind) : Bool :=
  match k with
  | .lost t => t == sender || !(s.record t).state.live
  | .snapshot => !s.someRebuilding
  | .point _ | .claim _ _ | .presence _ | .join _ | .leave _ | .purge _ => false

theorem State.mem_withdrawOvertaken {s : State} (quiet : s.lc.inFlight = none) (sender : StationId) (x : Item) :
    x ∈ (s.withdrawOvertaken sender).sq.items ↔ x ∈ s.sq.items ∧ s.overtakes sender x.kind = false := by
  have rebuilding : ∀ k, (s.withdraw k).someRebuilding = s.someRebuilding := fun _ => rfl
  unfold State.withdrawOvertaken
  dsimp only
  rw [rebuilding]
  split
  · rw [State.mem_withdraw quiet]
    cases kind : x.kind <;> simp_all [State.overtakes]
  · rw [State.mem_withdraw (s := s.withdraw _) quiet, State.mem_withdraw quiet]
    cases kind : x.kind <;> simp_all [State.overtakes]

/-! ## The duties (R138, R139, R150, R152) -/

/-- The items that go with the duties of the reference (R138). -/
def ItemKind.isDuty (k : ItemKind) : Bool := k.isLost || k == .snapshot

/-- A MEMBER has ceased to be its own reference. -/
def State.ceases (old s : State) : Bool :=
  old.isOwnReference && !s.isOwnReference && old.inState .member && s.inState .member

theorem State.mem_takeDuties {old s : State} (quiet : s.lc.inFlight = none) {x : Item} (older : x.age < s.sq.nextAge)
    (other : x.kind.isPoint = false) :
    x ∈ (State.takeDuties old s).sq.items ↔ x ∈ s.sq.items ∧ ¬(State.ceases old s = true ∧ x.kind.isDuty = true) := by
  unfold State.takeDuties
  extract_lets s1 s2
  have first : s1.sq.nextAge = s.sq.nextAge ∧
      (x ∈ s1.sq.items ↔ x ∈ s.sq.items ∧ ¬(State.ceases old s = true ∧ x.kind.isDuty = true)) := by
    simp only [s1]
    split
    · rename_i ceases
      refine ⟨rfl, (State.mem_withdraw quiet _ x).trans ?_⟩
      simp [State.ceases, ceases, ItemKind.isDuty]
    · rename_i stays
      simp [State.ceases, stays]
  have second : s1.KeepsOlder s2 := by
    simp only [s2]
    split
    · exact s1.keepsOlder_requestAllLost
    · exact .of_sq rfl
  have third : s1.KeepsOlder (if (!old.sweeps && s2.sweeps) = true then s2.startSweep else s2) := by
    split
    · exact second.trans s2.keepsOlder_startSweep
    · exact second
  exact (third.2 x (first.1 ▸ older) other).trans first.2

theorem State.hasItem_enqueue {s : State} {k : ItemKind → Bool} (held : s.hasItem k = true) (kind : ItemKind) (cls : Fin 4) :
    (s.enqueue kind cls).hasItem k = true := by
  obtain ⟨x, listed, yes⟩ := List.any_eq_true.1 held
  exact List.any_eq_true.2 ⟨x, State.mem_enqueue.2 (.inr listed), yes⟩

theorem State.hasItem_enqueued (s : State) {k : ItemKind → Bool} {kind : ItemKind} (yes : k kind = true) (cls : Fin 4) :
    (s.enqueue kind cls).hasItem k = true :=
  List.any_eq_true.2 ⟨_, State.mem_enqueue.2 (.inl rfl), yes⟩

theorem State.requestLost_hasItem (s : State) (t : StationId) : (s.requestLost t).hasItem (· == .lost t) = true := by
  unfold State.requestLost
  split
  · assumption
  · exact s.hasItem_enqueued (by simp) 1

theorem State.hasItem_requestLost {s : State} {k : ItemKind → Bool} (held : s.hasItem k = true) (t : StationId) :
    (s.requestLost t).hasItem k = true := by
  unfold State.requestLost
  split
  · exact held
  · exact State.hasItem_enqueue held _ _

/-- A station that takes up the duties asks for a LOST item for each suspect peer (R139). -/
theorem State.requestAllLost_hasItem (s : State) {v : StationId} (peer : v ≠ s.own) (suspect : (s.record v).suspect = true) :
    s.requestAllLost.hasItem (· == .lost v) = true := by
  obtain ⟨before, rest, split⟩ := List.append_of_mem (List.mem_finRange v)
  have step : ∀ (u : State) (t : StationId), (if (t != u.own && (u.record t).suspect) = true then u.requestLost t else u).cs = u.cs ∧
      (if (t != u.own && (u.record t).suspect) = true then u.requestLost t else u).ru = u.ru := by
    intro u t
    split <;> simp
  have reached := State.foldl_keeps (fun u : State => (u.cs, u.ru)) _ (fun u t => Prod.ext (step u t).1 (step u t).2) before s
  rw [State.requestAllLost, split, List.foldl_append, List.foldl_cons]
  generalize before.foldl _ s = u at reached
  obtain ⟨cs, ru⟩ := Prod.ext_iff.1 reached
  refine List.foldlRecOn (motive := fun w : State => w.hasItem (· == .lost v) = true) rest _ ?_ fun w held t _ => ?_
  · have own : u.own = s.own := congrArg ConfigStore.stationNumber cs
    rw [if_pos (by simp [own, peer, State.record_congr (congrArg RosterUnit.roster ru), suspect])]
    exact u.requestLost_hasItem v
  · split
    · exact State.hasItem_requestLost held t
    · exact held

theorem State.startSweep_hasItem (s : State) : s.startSweep.hasItem (· == .snapshot) = true := by
  unfold State.startSweep State.requestSnapshot
  split
  · assumption
  · exact State.hasItem_enqueued _ (by simp) 3

theorem State.hasItem_startSweep {s : State} {k : ItemKind → Bool} (held : s.hasItem k = true) :
    s.startSweep.hasItem k = true := by
  unfold State.startSweep State.requestSnapshot
  split
  · exact held
  · exact State.hasItem_enqueue held _ _

theorem State.takeDuties_hasLost {old s : State} (before : old.isOwnReference = false) (after : s.isOwnReference = true)
    {v : StationId} (peer : v ≠ s.own) (suspect : (s.record v).suspect = true) :
    (State.takeDuties old s).hasItem (· == .lost v) = true := by
  unfold State.takeDuties
  simp only [before, Bool.false_and, Bool.false_eq_true, if_false, Bool.not_false, Bool.true_and, after, if_true]
  split
  · exact State.hasItem_startSweep (s.requestAllLost_hasItem peer suspect)
  · exact s.requestAllLost_hasItem peer suspect

theorem State.takeDuties_startsSweep {old s : State} (before : old.sweeps = false) (after : s.sweeps = true) :
    (State.takeDuties old s).ru.cursor = 0 ∧ (State.takeDuties old s).hasItem (· == .snapshot) = true := by
  refine ⟨by rw [State.takeDuties_ru, before, after]; rfl, ?_⟩
  unfold State.takeDuties
  extract_lets s1 s2
  have first : s1.cs = s.cs ∧ s1.ru = s.ru := by
    simp only [s1]
    split <;> simp
  have second : s2.cs = s.cs ∧ s2.ru = s.ru := by
    simp only [s2]
    split
    · simpa using first
    · exact first
  rw [before, State.sweeps_congr second.1 second.2, after]
  exact s2.startSweep_hasItem

end Sys2Proof.Machine
end

section
/-! PROOF. The acceptance of another station's frame, put together (R3, R23, R103, R130, R138, R139, R150, R152): O33. -/

namespace Sys2Proof.Machine

/-! ## The items (R139, R152) -/

theorem State.settleItems_kept (old s : State) (own : Option Item) (l : List Item) :
    (l.foldl (State.settleItem old own) s).lc = s.lc ∧ (l.foldl (State.settleItem old own) s).sq.nextAge = s.sq.nextAge := by
  have each : ∀ (u : State) (x : Item), (State.settleItem old own u x).sq.nextAge = u.sq.nextAge := by
    intro u x
    unfold State.settleItem State.settleOwn State.checkClaim
    (repeat' split) <;> simp
  exact ⟨State.foldl_keeps State.lc _ (fun u x => by simp) l s, State.foldl_keeps (fun u => u.sq.nextAge) _ each l s⟩

theorem State.withdrawOvertaken_nextAge (s : State) (sender : StationId) :
    (s.withdrawOvertaken sender).sq.nextAge = s.sq.nextAge := by
  unfold State.withdrawOvertaken
  dsimp only
  split <;> rfl

theorem State.overtakes_congr {s t : State} (roster : t.ru.roster = s.ru.roster) (sender : StationId) (k : ItemKind) :
    t.overtakes sender k = s.overtakes sender k := by
  have record := State.record_congr roster
  simp only [State.overtakes, State.someRebuilding, record]

/-- The items that are neither a point's nor a claim, at the settling of the list. -/
theorem State.mem_taken {s : State} (sound : s.Sound) (receives : s.receives) (sender : StationId) (n : Notice) {x : Item}
    (listed : x ∈ s.sq.items) (point : x.kind.isPoint = false) (claim : x.kind.isClaim = false) :
    (x ∈ (s.taken sender none n).sq.items ↔ (s.taken sender none n).overtakes sender x.kind = false) ∧
      x.age < (s.taken sender none n).sq.nextAge := by
  have quiet := receives.2.1
  have settled : s.Settled none := by simpa [quiet] using sound.settled
  have young := settled.list.young x listed
  have kept := s.keepsOlder_applyFrame sender n
  have list : (State.applyFrame s (s.begun none n) sender none n).ListOk none [] :=
    (((settled.takeFrame (.inr quiet)).markOwnJoin none n).applyFrame (old := s) sender n).list
  have quietFrame : (State.applyFrame s (s.begun none n) sender none n).lc.inFlight = none :=
    State.applyFrame_quiet (by rw [(s.begun_frame none n).2.2.2.2.2.2.1]; exact State.takeFrame_quiet (.inr quiet)) sender none n
  have ru := s.settleQueue_ru (State.applyFrame s (s.begun none n) sender none n) sender none n
  rw [State.taken_eq, State.overtakes_congr (congrArg RosterUnit.roster ru)]
  generalize State.applyFrame s (s.begun none n) sender none n = u at kept list quietFrame
  obtain ⟨lc, nextAge⟩ := State.settleItems_kept s u none u.sq.items
  have items := list.mem_settleItems (old := s) claim
  have roster := State.settleItems_ru s u none u.sq.items
  simp only [State.settleQueue, State.settleRemoved, State.moveCursor_none]
  refine ⟨?_, ?_⟩
  · rw [State.mem_withdrawOvertaken (by rw [lc, quietFrame]), State.overtakes_congr (congrArg RosterUnit.roster roster), items,
      kept.2 x young point]
    exact and_iff_right listed
  · rw [State.withdrawOvertaken_nextAge, nextAge]
    exact Nat.lt_of_lt_of_le young kept.1

/-- Where frames are applied and the own state stays, a PRESENCE too leaves RU and the list to the frame itself. -/
theorem State.moved_of_stays {s : State} (applies : s.applies = true) (sender : StationId) (n : Notice)
    (stays : (s.moved sender none n).ru.state = s.ru.state) : (s.moved sender none n).ru = (s.taken sender none n).ru ∧
      (s.moved sender none n).sq = (s.taken sender none n).sq := by
  cases n with
  | presence p =>
    refine State.settlePresence_cases (old := s) (P := fun t : State => t.ru.state = s.ru.state →
      t.ru = (s.taken sender none (.presence p)).ru ∧ t.sq = (s.taken sender none (.presence p)).sq)
      (State.not_listening_of_applies applies) sender p
      (fun _ => ⟨rfl, rfl⟩) (fun _ => by simp) (fun member state => ?_) (fun completes state => ?_) stays
    · rw [State.enterSyncing_ru, member] at state
      exact nomatch state
    · have attempts := State.attempts_of_appliesSegments (Bool.and_eq_true_iff.1 completes).1
      rw [State.complete_ru] at state
      rw [← state] at attempts
      exact nomatch attempts
  | _ => exact ⟨rfl, rfl⟩

theorem State.foreign_roster (s : State) (sender : StationId) (n : Notice) :
    (s.foreign sender n).ru.roster = (s.moved sender none n).ru.roster := by
  rw [State.foreign_ru, State.takeDuties_roster]

theorem State.foreign_state (s : State) (sender : StationId) (n : Notice) :
    (s.foreign sender n).ru.state = (s.moved sender none n).ru.state := by
  rw [State.foreign_ru, (State.takeDuties_sameControl s _).state]

/-- Where frames are applied and the own state stays, an item that is neither a point's nor a claim leaves when the frame
overtakes it, or the station ceases to be its own reference. -/
theorem State.mem_foreign {s : State} (sound : s.Sound) (receives : s.receives) (applies : s.applies = true)
    (sender : StationId) (n : Notice) (stays : (s.foreign sender n).ru.state = s.ru.state) {x : Item} (listed : x ∈ s.sq.items)
    (point : x.kind.isPoint = false) (claim : x.kind.isClaim = false) : x ∈ (s.foreign sender n).sq.items ↔
      (s.foreign sender n).overtakes sender x.kind = false ∧ ¬(s.ceases (s.foreign sender n) = true ∧ x.kind.isDuty = true) := by
  obtain ⟨taken, young⟩ := State.mem_taken sound receives sender n listed point claim
  obtain ⟨ru, sq⟩ := State.moved_of_stays applies sender n ((s.foreign_state sender n).symm.trans stays)
  have quiet : (s.moved sender none n).lc.inFlight = none := by
    have := (State.foreign_line receives sender n).2.1
    rwa [State.foreign, (State.close_frame _ s).2.2.2.2.2.1, State.dutiful_eq, (State.takeDuties_frame _ s).2.2.2.1] at this
  have ceases : s.ceases (s.foreign sender n) = s.ceases (s.moved sender none n) := by
    simp only [State.ceases, State.foreign_isOwnReference, State.inState, State.foreign_state]
  rw [State.foreign_sq, State.mem_takeDuties quiet (by rw [sq]; exact young) point, sq, taken, ceases,
    State.overtakes_congr ((s.foreign_roster sender n).trans (congrArg RosterUnit.roster ru))]

theorem State.ceases_iff {s t : State} (stays : t.ru.state = s.ru.state) : s.ceases t = true ↔
    s.ru.state = .member ∧ s.namesItself ∧ ¬t.namesItself := by
  simp only [State.ceases, Bool.and_eq_true, Bool.not_eq_true', State.inState_iff, stays, State.namesItself_iff, Bool.not_eq_true]
  tauto

theorem State.overtakes_lost (t : State) (sender u : StationId) :
    t.overtakes sender (.lost u) = false ↔ u ≠ sender ∧ (t.record u).stands := by
  rw [← RosterState.live_iff]
  simp [State.overtakes]

theorem State.overtakes_snapshot (t : State) (sender : StationId) :
    t.overtakes sender .snapshot = false ↔ t.someoneRebuilds := by
  rw [State.someoneRebuilds_iff]
  simp [State.overtakes]

/-! ## The obligation -/

theorem State.applies_iff (s : State) : s.applies = true ↔
    s.ru.state = .member ∨ s.ru.state = .leaving ∨ s.ru.state = .syncing ∨ (s.ru.state = .joining ∧ s.ru.ownJoin = true) ∨
      (s.ru.state = .muted ∧ (s.ru.entryState = some .member ∨ s.ru.entryState = some .syncing ∨
        (s.ru.entryState = some .joining ∧ s.ru.ownJoin = true))) := by
  unfold State.applies
  cases s.ru.state with
  | muted =>
    cases s.ru.entryState with
    | none => simp
    | some e => cases e <;> simp
  | _ => simp

theorem State.accept_noEvent {s : State} (quiet : s.lc.inFlight = none) (deaf : s.lc.receiverOn = false ∨ s.lc.assembling = false)
    (sender : StationId) (n : Notice) : exec (acceptanceOf sender n) s = .next s := by
  have none : s.arrival sender n = .noEvent := by
    unfold State.arrival
    rcases deaf with off | other
    · simp [off]
    · simp [quiet, other]
  rw [exec_acceptanceOf, State.accept, none]

theorem State.Sound.foreign {s : State} (sound : s.Sound) (receives : s.receives) (sender : StationId) (n : Notice) :
    (s.foreign sender n).Sound :=
  sound.acceptFrame_foreign receives.2.1 sender n

/-- The cursor of a sweep under way stands (R150). -/
theorem State.foreign_cursor {s : State} (sender : StationId) {n : Notice} (before : s.sweeps = true)
    (after : (s.foreign sender n).sweeps = true) : (s.foreign sender n).ru.cursor = s.ru.cursor := by
  have member : ∀ {u : State}, u.sweeps = true → u.ru.state = .member := by
    intro u sweeps
    simp only [State.sweeps, Bool.and_eq_true, State.inState_iff] at sweeps
    exact sweeps.1.1
  have applies : s.applies = true := (State.applies_iff s).2 (.inl (member before))
  have stays : (s.moved sender none n).ru.state = s.ru.state := by
    rw [← State.foreign_state, member after, member before]
  rw [State.foreign_ru, State.takeDuties_ru, before, (State.moved_of_stays applies sender n stays).1]
  exact (s.taken_service sender n).2

/-- The statement's last clause (R3, R103). -/
theorem State.foreign_keepsControl {s : State} (sender : StationId) {n : Notice} (presence : ∀ p, n ≠ .presence p) :
    let t := s.foreign sender n
    t.ru.state = s.ru.state ∧ t.ru.refusal = s.ru.refusal ∧ t.ru.entryState = s.ru.entryState ∧
      t.ru.doubtful = s.ru.doubtful ∧ t.ru.joinMode = s.ru.joinMode ∧ t.ru.attempt = s.ru.attempt ∧
      t.ru.ownJoin = s.ru.ownJoin ∧ t.ru.presenceTimer = s.ru.presenceTimer ∧ t.ru.muteTimer = s.ru.muteTimer ∧
      t.ru.windowTimer = s.ru.windowTimer := by
  intro t
  have service : t.ru = _ := State.foreign_service sender presence
  rw [service]
  exact ⟨rfl, rfl, rfl, rfl, rfl, rfl, rfl, rfl, rfl, rfl⟩

/-- Settles O33, clause by clause from the parts of an acceptance. -/
theorem acceptedFrameIsCountedAndHeard : Obligations.AcceptedFrameIsCountedAndHeard := by
  refine ⟨State.applies_iff, fun s sender n quiet deaf => State.accept_noEvent quiet deaf sender n,
    fun s sender n receives => ⟨_, State.receives_run receives sender n, ?_⟩⟩
  obtain ⟨counted, quiet, on, busy⟩ := State.foreign_line receives sender n
  have own : (sender == s.own) = true ↔ sender = s.cs.stationNumber := by simp [State.own]
  refine ⟨counted, s.foreign_cs sender n, s.foreign_pending sender n, quiet, on, busy, fun applies => ?_,
    State.foreign_senderState, fun sound applies stays => ?_, fun before after v peer suspect => ?_, fun before after => ?_,
    fun before after => ?_, fun stands window => ?_, fun presence => ?_⟩
  · obtain ⟨heard, trusted, silence⟩ := State.foreign_heard applies sender n
    refine ⟨fun plain => ?_, ?_, trusted, State.foreign_vetoCount applies sender n, fun other stands => ?_, fun sound dead => ?_⟩
    · obtain ⟨count, valid⟩ := State.foreign_count sender applies plain
      exact ⟨count, valid, heard.trans (State.judgedCount_plain sender plain)⟩
    · rintro p rfl takes
      exact State.foreign_count_taken applies takes p
    · exact silence (by simpa using mt own.1 other) ((RosterState.live_iff _).2 stands)
    · have roster := (State.rosterOk_iff _).1 (sound.foreign receives sender n).settled.roster sender
      refine (roster ?_).2
      rw [show (s.foreign sender n).own = s.own from congrArg ConfigStore.stationNumber (s.foreign_cs sender n), own]
      exact dead.imp_right fun gone => by simpa using mt (RosterState.live_iff _).1 gone
  · intro ceased x listed
    have ceases : s.ceases (s.foreign sender n) = true ↔ ceased := State.ceases_iff stays
    refine ⟨fun u lost => ?_, fun snapshot => ?_⟩
    · rw [State.mem_foreign sound receives applies sender n stays listed (by rw [lost]; rfl) (by rw [lost]; rfl), lost,
        State.overtakes_lost, ceases]
      simp [ItemKind.isDuty, ItemKind.isLost, and_assoc]
    · rw [State.mem_foreign sound receives applies sender n stays listed (by rw [snapshot]; rfl) (by rw [snapshot]; rfl), snapshot,
        State.overtakes_snapshot, ceases]
      simp [ItemKind.isDuty]
  · rw [State.namesItself_iff, Bool.not_eq_true] at before
    rw [State.namesItself_iff, State.foreign_isOwnReference] at after
    rw [State.hasItem, State.foreign_sq]
    rw [s.foreign_cs sender n] at peer
    refine State.takeDuties_hasLost before after ?_ ?_
    · rwa [State.own, State.moved_cs]
    · rwa [State.record_congr (s.foreign_roster sender n)] at suspect
  · rw [State.sweepCondition_iff, Bool.not_eq_true] at before
    rw [State.sweepCondition_iff, State.foreign_sweeps] at after
    rw [State.hasItem, State.foreign_sq, State.foreign_ru]
    exact State.takeDuties_startsSweep before after
  · exact State.foreign_cursor sender ((State.sweepCondition_iff s).1 before) ((State.sweepCondition_iff _).1 after)
  · obtain ⟨et, ru, pu, lc, -⟩ := State.foreign_stands sender stands window
    refine ⟨et, ru, pu, ?_⟩
    rw [lc, State.takeFrame_lc]
  · obtain ⟨state, refusal, entryState, doubtful, joinMode, attempt, ownJoin, presenceTimer, muteTimer, windowTimer⟩ :=
      State.foreign_keepsControl (s := s) sender presence
    obtain ⟨silenceMark, fast, slow⟩ := State.foreign_ou (s := s) sender presence
    refine ⟨state, refusal, entryState, doubtful, joinMode, attempt, ownJoin, presenceTimer, muteTimer, windowTimer, silenceMark,
      fast, slow, State.foreign_reply sender presence, fun q => ?_, fun v other unnamed =>
      State.foreign_record_others presence other unnamed⟩
    have levels : (s.foreign sender n).point q = _ := State.foreign_levels sender presence q
    rw [levels]
    exact ⟨rfl, rfl, rfl, rfl, rfl⟩

end Sys2Proof.Machine
end

section
/-! PROOF. A sender and a receiver of one frame: what both hold alike stays alike (R102, R103), for O45. -/

namespace Sys2Proof.Machine

/-! ## What two states share -/

/-- Two states agree on configuration, table, outputs, counters, own state and roster: on all that the frame itself acts on. -/
structure State.Shares (t v : State) : Prop where
  cs : t.cs = v.cs
  et : t.et = v.et
  ou : t.ou = v.ou
  counters : t.lc.counters = v.lc.counters
  state : t.ru.state = v.ru.state
  entryState : t.ru.entryState = v.ru.entryState
  record : ∀ u, t.record u = v.record u

theorem State.Shares.of_blocks {t v : State} (cs : t.cs = v.cs) (et : t.et = v.et) (ou : t.ou = v.ou)
    (counters : t.lc.counters = v.lc.counters) (ru : v.ru.sameControl t.ru) (roster : t.ru.roster = v.ru.roster) :
    t.Shares v :=
  ⟨cs, et, ou, counters, ru.standing.1, ru.standing.2.1, fun u => State.record_congr roster u⟩

/-- An operation on other blocks leaves what a state shares. -/
theorem State.Shares.of_unchanged {t v : State} (cs : t.cs = v.cs) (et : t.et = v.et) (ou : t.ou = v.ou) (lc : t.lc = v.lc)
    (ru : t.ru = v.ru) : t.Shares v :=
  .of_blocks cs et ou (by rw [lc]) (.of_eq ru) (by rw [ru])

theorem State.Shares.symm {t v : State} (h : t.Shares v) : v.Shares t :=
  ⟨h.cs.symm, h.et.symm, h.ou.symm, h.counters.symm, h.state.symm, h.entryState.symm, fun u => (h.record u).symm⟩

theorem State.Shares.trans {t v w : State} (h : t.Shares v) (h' : v.Shares w) : t.Shares w :=
  ⟨h.cs.trans h'.cs, h.et.trans h'.et, h.ou.trans h'.ou, h.counters.trans h'.counters, h.state.trans h'.state,
    h.entryState.trans h'.entryState, fun u => (h.record u).trans (h'.record u)⟩

/-- Both sides go on, each by an operation that leaves what it shares. -/
theorem State.Shares.keep {t v t' v' : State} (h : t.Shares v) (ht : t'.Shares t) (hv : v'.Shares v) : t'.Shares v' :=
  (ht.trans h).trans hv.symm

section
variable {t v : State} (h : t.Shares v)
include h

theorem State.Shares.own : t.own = v.own := congrArg ConfigStore.stationNumber h.cs

theorem State.Shares.entry (i : EntryIndex) : t.entry i = v.entry i := State.entry_congr (congrArg EventTable.table h.et) i

theorem State.Shares.presenceMs : t.presenceMs = v.presenceMs := State.presenceMs_congr h.cs

theorem State.Shares.ackMode (c : CategoryId) : t.ackMode c = v.ackMode c := State.ackMode_congr h.cs c

theorem State.Shares.inState (st : StationState) : t.inState st = v.inState st := by simp only [State.inState, h.state]

theorem State.Shares.modesCount : t.modesCount = v.modesCount := State.modesCount_congr h.state h.entryState

theorem State.Shares.wantsEntry (e : Entry) : t.wantsEntry e = v.wantsEntry e := State.wantsEntry_congr h.cs h.state rfl

theorem State.Shares.claimDecision (i : EntryIndex) (e : Entry) (n : Byte) : t.claimDecision i e n = v.claimDecision i e n :=
  State.claimDecision_congr h.cs i e n

theorem State.Shares.lostValid (u : StationId) (count : Option Word32) : t.lostValid u count = v.lostValid u count := by
  simp only [State.lostValid, h.record]

theorem State.Shares.pointEntry (e : Entry) (n : PointStatement) : t.pointEntry e n = v.pointEntry e n := by
  have mode : t.ackMode = v.ackMode := funext h.ackMode
  simp only [State.pointEntry, State.pointCase, State.stampNow, mode, h.et]

theorem State.Shares.presenceApplies (p : PresencePayload) : t.presenceApplies p = v.presenceApplies p := by
  simp only [State.presenceApplies, h.cs]

theorem State.Shares.rosterRecords (u : StationId) (st : RosterState) (cause : Option LeaveCause) :
    t.rosterRecords u st cause = v.rosterRecords u st cause := by
  have wants : t.wantsRoster = v.wantsRoster := by simp only [State.wantsRoster, h.state]
  simp only [State.rosterRecords, h.record, wants]

theorem State.Shares.rewriteRecord (skip : Entry → Bool) (f : Entry → Entry) (cause : EntryCause) (i : EntryIndex) :
    t.rewriteRecord skip f cause i = v.rewriteRecord skip f cause i :=
  State.rewriteRecord_congr h.cs h.state (congrArg EventTable.table h.et)

/-- The records that the kind's effect pushes are the same on both sides (R15, R16, R20, R52, R131). -/
theorem State.Shares.kindRecords (sender : StationId) (n : Notice) : t.kindRecords sender n = v.kindRecords sender n := by
  have orphans : ∀ u, t.orphanRecords u = v.orphanRecords u := fun u => List.filterMap_congr fun _ _ => h.rewriteRecord _ _ _ _
  have purges : ∀ u, t.purgeRecords u = v.purgeRecords u := fun u => List.filterMap_congr fun _ _ => h.rewriteRecord _ _ _ _
  cases n <;> simp only [State.kindRecords, State.presenceRecords, h.entry, h.pointEntry, h.wantsEntry, h.claimDecision,
    h.lostValid, h.record, h.rosterRecords, h.presenceApplies, h.cs, orphans, purges]

/-! ## The operations of the kinds -/

/-- Both sides go on, each by an operation that leaves configuration, outputs, Line Controller and own state. -/
theorem State.Shares.step {t' v' : State} (cs : t'.cs = t.cs) (cs' : v'.cs = v.cs) (et : t'.et = v'.et) (ou : t'.ou = t.ou)
    (ou' : v'.ou = v.ou) (lc : t'.lc = t.lc) (lc' : v'.lc = v.lc) (ru : t.ru.sameStanding t'.ru) (ru' : v.ru.sameStanding v'.ru)
    (record : ∀ u, t'.record u = v'.record u) : t'.Shares v' :=
  ⟨cs.trans (h.cs.trans cs'.symm), et, ou.trans (h.ou.trans ou'.symm), by rw [lc, lc', h.counters],
    ru.1.trans (h.state.trans ru'.1.symm), ru.2.1.trans (h.entryState.trans ru'.2.1.symm), record⟩

theorem State.Shares.setRoster (u : StationId) (st : RosterState) (cause : Option LeaveCause) :
    (t.setRoster u st cause).Shares (v.setRoster u st cause) := by
  obtain ⟨cs, et, -, -, lc, ou, -⟩ := t.setRoster_frame u st cause
  obtain ⟨cs', et', -, -, lc', ou', -⟩ := v.setRoster_frame u st cause
  refine h.step cs cs' (et.trans (h.et.trans et'.symm)) ou ou' lc lc' (t.setRoster_sameControl u st cause).standing
    (v.setRoster_sameControl u st cause).standing fun w => ?_
  simp only [State.record_setRoster, h.record, h.own, h.presenceMs]

omit h in
theorem State.et_ext {s u : State} (entry : ∀ i, s.entry i = u.entry i) (count : s.et.lineCount = u.et.lineCount)
    (valid : s.et.countValid = u.et.countValid) : s.et = u.et := by
  have table : s.et.table = u.et.table := Vector.ext fun i hi => entry ⟨i, hi⟩
  rcases hs : s.et with ⟨a, b, c⟩
  rcases hu : u.et with ⟨a', b', c'⟩
  simp_all

theorem State.Shares.orphanOrigin (o : StationId) : (t.orphanOrigin o).Shares (v.orphanOrigin o) := by
  obtain ⟨cs, ru, -, -, lc, ou, -⟩ := t.orphanOrigin_frame o
  obtain ⟨cs', ru', -, -, lc', ou', -⟩ := v.orphanOrigin_frame o
  refine h.step cs cs' (State.et_ext (fun i => ?_) ?_ ?_) ou ou' lc lc' (RosterUnit.sameControl.of_eq ru).standing
    (RosterUnit.sameControl.of_eq ru').standing fun w => ?_
  · simp only [State.entry_orphanOrigin, h.entry]
  · rw [(t.orphanOrigin_count o).1, (v.orphanOrigin_count o).1, h.et]
  · rw [(t.orphanOrigin_count o).2, (v.orphanOrigin_count o).2, h.et]
  · rw [State.record_congr (congrArg RosterUnit.roster ru), State.record_congr (congrArg RosterUnit.roster ru'), h.record]

theorem State.Shares.purgeOrigin (o : StationId) : (t.purgeOrigin o).Shares (v.purgeOrigin o) := by
  obtain ⟨cs, ru, -, -, lc, ou, -⟩ := t.purgeOrigin_frame o
  obtain ⟨cs', ru', -, -, lc', ou', -⟩ := v.purgeOrigin_frame o
  refine h.step cs cs' (State.et_ext (fun i => ?_) ?_ ?_) ou ou' lc lc' (RosterUnit.sameControl.of_eq ru).standing
    (RosterUnit.sameControl.of_eq ru').standing fun w => ?_
  · simp only [State.entry_purgeOrigin, h.entry]
  · rw [(t.purgeOrigin_count o).1, (v.purgeOrigin_count o).1, h.et]
  · rw [(t.purgeOrigin_count o).2, (v.purgeOrigin_count o).2, h.et]
  · rw [State.record_congr (congrArg RosterUnit.roster ru), State.record_congr (congrArg RosterUnit.roster ru'), h.record]

theorem State.Shares.onCounters (g : Counters → Counters) : (t.onCounters g).Shares (v.onCounters g) :=
  ⟨h.cs, h.et, h.ou, congrArg g h.counters, h.state, h.entryState, h.record⟩

theorem State.Shares.setEntry (i : EntryIndex) (e : Entry) : (t.setEntry i e).Shares (v.setEntry i e) :=
  ⟨h.cs, by simp only [State.setEntry, State.onEt_et, h.et], h.ou, h.counters, h.state, h.entryState, h.record⟩

theorem State.Shares.startPulses (i : EntryIndex) : (t.startPulses i).Shares (v.startPulses i) := by
  have rule : t.rule = v.rule := by
    funext k
    simp only [State.rule, h.cs]
  refine ⟨h.cs, h.et, ?_, h.counters, h.state, h.entryState, h.record⟩
  simp only [State.startPulses, State.onOu_ou, rule, h.entry, h.ou]

omit h in
theorem State.shares_pushEntry (s : State) (i : EntryIndex) (cause : EntryCause) : (s.pushEntry i cause).Shares s :=
  .of_unchanged (by simp) (by simp) (by simp) (by simp) (by simp)

theorem State.Shares.pushEntry (i : EntryIndex) (cause : EntryCause) : (t.pushEntry i cause).Shares (v.pushEntry i cause) :=
  h.keep (t.shares_pushEntry i cause) (v.shares_pushEntry i cause)

theorem State.Shares.applyPoint (sender : StationId) (n : PointStatement) :
    (t.applyPoint sender n).Shares (v.applyPoint sender n) := by
  have written := h.setEntry (entryIndex sender n.point) (v.pointEntry (v.entry (entryIndex sender n.point)) n)
  have counted := written.onCounters fun c => { c with staleNotices := bump c.staleNotices }
  unfold State.applyPoint
  simp only [h.entry, h.pointEntry]
  have modes : ∀ {a b : State}, a.Shares b → a.modesCount = b.modesCount := State.Shares.modesCount
  by_cases older : compareOccurrence n.occurrence (v.entry (entryIndex sender n.point)).occurrence = .older
  · have never : compareOccurrence n.occurrence (v.entry (entryIndex sender n.point)).occurrence ≠ .newer := by simp [older]
    simp only [older, if_true, reduceCtorEq, false_and, if_false]
    split
    · exact counted
    · exact counted.pushEntry _ _
  · simp only [older, if_false]
    split
    · rw [modes written]
      split
      · exact written.startPulses _
      · exact written
    · rw [modes (written.pushEntry (entryIndex sender n.point)
        (pointCause n (v.entry (entryIndex sender n.point)) (v.pointEntry (v.entry (entryIndex sender n.point)) n)))]
      split
      · exact (written.pushEntry _ _).startPulses _
      · exact written.pushEntry _ _

theorem State.Shares.applyClaim (sender : StationId) (i : EntryIndex) (n : Byte) :
    (t.applyClaim sender i n).Shares (v.applyClaim sender i n) := by
  have won := (h.setEntry i ((v.entry i).wonBy sender)).pushEntry i .acked
  unfold State.applyClaim
  rw [h.entry, h.claimDecision]
  split
  · exact won
  · exact h.onCounters fun c => { c with voidClaims := bump c.voidClaims }

theorem State.Shares.applySegment (p : SnapshotPayload) : (t.applySegment p).Shares (v.applySegment p) := by
  obtain ⟨cs, -, -, lc, ou, -⟩ := t.applySegment_frame p
  obtain ⟨cs', -, -, lc', ou', -⟩ := v.applySegment_frame p
  have et : ∀ s : State, (s.applySegment p).et = { s.et with table := vmap (segmentEntry p s.et.lineCount) s.et.table } :=
    fun s => by simp [State.applySegment]
  have record : ∀ (s : State) u, (s.applySegment p).record u = s.record u := fun s =>
    State.record_congr (by simp [State.applySegment])
  exact h.step cs cs' (by rw [et, et, h.et]) ou ou' lc lc' (t.applySegment_standing p) (v.applySegment_standing p)
    fun u => by rw [record, record, h.record]

/-- The kind's effect acts alike on both sides (R103). -/
theorem State.Shares.applyKind (sender : StationId) (taken : Bool) (n : Notice) :
    (t.applyKind sender taken n).Shares (v.applyKind sender taken n) := by
  unfold State.applyKind
  cases n with
  | presence p =>
    dsimp only
    unfold State.applyPresence
    rw [h.presenceApplies]
    split
    · exact h.setRoster _ _ _
    · exact h
  | point p =>
    dsimp only
    split
    · exact h.applyPoint _ _
    · exact h
  | claim p =>
    dsimp only
    split
    · exact h.applyClaim _ _ _
    · exact h
  | lost p =>
    dsimp only
    unfold State.applyLost
    rw [h.lostValid]
    split
    · exact (h.setRoster _ _ _).orphanOrigin _
    · exact h.onCounters fun c => { c with voidLost := bump c.voidLost }
  | purge o =>
    dsimp only
    split
    · unfold State.applyPurge
      rw [h.record]
      split
      · exact h.purgeOrigin _
      · exact h.onCounters fun c => { c with voidPurges := bump c.voidPurges }
    · exact h
  | leave c =>
    dsimp only
    split
    · exact (h.setRoster _ _ _).orphanOrigin _
    · exact h
  | join p =>
    dsimp only
    split
    · unfold State.applyJoin
      rw [h.cs]
      split
      · exact h.setRoster _ _ _
      · exact h
    · exact h
  | snapshot p =>
    dsimp only
    split
    · exact h.applySegment p
    · exact h

theorem State.Shares.hearSender (sender : StationId) : (t.hearSender sender).Shares (v.hearSender sender) := by
  refine ⟨h.cs, h.et, h.ou, h.counters, h.state, h.entryState, fun w => ?_⟩
  simp only [State.record_hearSender, h.record, h.et, h.own, h.presenceMs]

theorem State.Shares.countFrame (sender : StationId) (takes : t.takesSegment sender = v.takesSegment sender) (n : Notice) :
    (t.countFrame sender n).Shares (v.countFrame sender n) := by
  have on : ∀ g : EventTable → EventTable, (t.onEt g).Shares (v.onEt g) := fun g =>
    ⟨h.cs, congrArg g h.et, h.ou, h.counters, h.state, h.entryState, h.record⟩
  unfold State.countFrame
  cases n with
  | snapshot p =>
    dsimp only
    rw [takes]
    split
    · exact on _
    · exact on _
  | _ => exact on _

end

end Sys2Proof.Machine
end

section
/-! PROOF. A sender and a receiver of one frame: the points, that of the sender's item apart (R35, R37, R39, R40, R43, R141). -/

namespace Sys2Proof.Machine

/-! ## One operation, one point -/

/-- The announce check queues its point, where it does, and no other (R35). -/
def State.announcesPoint (s : State) (p : PointId) (forced : Bool) : Bool :=
  s.inState .member && s.pointUsed p && !(s.point p).queued && (!s.pairsEqual p || forced)

theorem State.announceCheck_eq (s : State) (p : PointId) (forced : Bool) :
    s.announceCheck p forced = if s.announcesPoint p forced = true then s.queuePoint p else s := rfl

theorem State.point_announceCheck (s : State) (p q : PointId) (forced : Bool) : (s.announceCheck p forced).point q =
    if q = p ∧ s.announcesPoint p forced = true then { s.point q with queued := true } else s.point q := by
  rw [State.announceCheck_eq]
  by_cases due : s.announcesPoint p forced = true
  · rw [if_pos due, State.point_queuePoint]
    simp [due]
  · rw [if_neg due, if_neg fun both => due both.2]

theorem State.point_stopSettledReminders (s : State) (p : PointId) : s.stopSettledReminders.point p =
    if (s.ownEntry p).phase.pending then s.point p else { s.point p with reminder := .stopped } :=
  State.point_onPoints s p _

theorem State.point_reannounceAll (s : State) (p : PointId) : s.reannounceAll.point p =
    if s.pointUsed p then { s.point p with queued := true } else s.point p := by
  have rest : { s.reannounceAll.point p with queued := true } = { s.point p with queued := true } := by
    refine State.foldl_keeps (fun u : State => { u.point p with queued := true }) _ (fun u q => ?_) _ s
    split
    · rw [State.point_queuePoint]
      split <;> rfl
    · rfl
  split
  · rename_i used
    rw [← rest, ← s.reannounceAll_queued used]
  · rename_i unused
    refine (List.foldlRecOn (motive := fun u : State => u.cs = s.cs ∧ u.point p = s.point p) (List.finRange 16) _ ⟨rfl, rfl⟩
      fun u ⟨cs, kept⟩ q _ => ?_).2
    split
    · rename_i due
      refine ⟨by simp [cs], ?_⟩
      rw [State.point_queuePoint, if_neg, kept]
      rintro rfl
      simp only [State.pointUsed, State.pointSource, State.pointSetup, cs, Bool.and_eq_true] at due unused
      exact unused due.1
    · exact ⟨cs, kept⟩

theorem State.point_settlePoint_other (s : State) (x : Item) {p q : PointId} (other : q ≠ p) :
    (s.settlePoint x p).point q = s.point q := by
  have reminder : ∀ u : State, (u.startReminder p).point q = u.point q := by
    intro u
    unfold State.startReminder
    split
    · rw [State.point_onPoint, if_neg other]
    · rfl
  unfold State.settlePoint
  dsimp only
  rw [reminder]
  split
  · rfl
  · split
    · rw [State.point_announceCheck, if_neg fun both => other both.1, State.point_onPoint, if_neg other]
      exact State.point_congr (by simp) q
    · exact State.point_congr (by simp) q

/-! ## Twins -/

/-- Two states share what the frame acts on, and the points that `apart` does not set apart; of these they share the level. -/
structure State.Twin (apart : PointId → Prop) (t v : State) : Prop where
  shares : t.Shares v
  qualified : ∀ q, (t.point q).qualified = (v.point q).qualified
  point : ∀ q, ¬ apart q → t.point q = v.point q

section
variable {apart : PointId → Prop} {t v : State} (h : State.Twin apart t v)

theorem State.Twin.of_pu (shares : t.Shares v) (pu : t.pu = v.pu) : State.Twin apart t v :=
  ⟨shares, fun q => by rw [State.point_congr pu], fun q _ => State.point_congr pu q⟩

include h

/-- Both sides go on, each by an operation that leaves what it shares and its points. -/
theorem State.Twin.keep {t' v' : State} (ht : t'.Shares t) (pt : t'.pu = t.pu) (hv : v'.Shares v) (pv : v'.pu = v.pu) :
    State.Twin apart t' v' :=
  ⟨h.shares.keep ht hv, fun q => by rw [State.point_congr pt, State.point_congr pv, h.qualified],
    fun q kept => by rw [State.point_congr pt, State.point_congr pv, h.point q kept]⟩

theorem State.Twin.ownEntry (p : PointId) : t.ownEntry p = v.ownEntry p := by
  rw [State.ownEntry, State.ownEntry, h.shares.own, h.shares.entry]

theorem State.Twin.pointUsed (p : PointId) : t.pointUsed p = v.pointUsed p := by
  simp only [State.pointUsed, State.pointSource, State.pointSetup, h.shares.cs]

theorem State.Twin.reminderMs (p : PointId) : t.reminderMs p = v.reminderMs p := by
  simp only [State.reminderMs, State.pointCategory, State.pointSetup, State.category, h.shares.cs]

theorem State.Twin.mayRemind (p : PointId) : t.mayRemind p = v.mayRemind p := by
  simp only [State.mayRemind, h.pointUsed, h.reminderMs, h.ownEntry, h.shares.inState]

/-- Both sides change their points alike. -/
theorem State.Twin.points {t' v' : State} (ht : t'.Shares t) (hv : v'.Shares v) {g : PointId → PointRecord → PointRecord}
    (level : ∀ q (r r' : PointRecord), r.qualified = r'.qualified → (g q r).qualified = (g q r').qualified)
    (pt : ∀ q, t'.point q = g q (t.point q)) (pv : ∀ q, v'.point q = g q (v.point q)) : State.Twin apart t' v' :=
  ⟨h.shares.keep ht hv, fun q => by rw [pt, pv]; exact level q _ _ (h.qualified q),
    fun q kept => by rw [pt, pv, h.point q kept]⟩

theorem State.Twin.announcesPoint {p : PointId} (kept : ¬ apart p) (forced : Bool) :
    t.announcesPoint p forced = v.announcesPoint p forced := by
  simp only [State.announcesPoint, State.pairsEqual, h.shares.inState, h.pointUsed, h.point p kept, h.ownEntry]

omit h in
theorem State.shares_announceCheck (s : State) (p : PointId) (forced : Bool) : (s.announceCheck p forced).Shares s :=
  .of_unchanged (by simp) (by simp) (by simp) (by simp) (by simp)

theorem State.Twin.announceCheck (p : PointId) (forced : Bool) :
    State.Twin apart (t.announceCheck p forced) (v.announceCheck p forced) := by
  refine ⟨h.shares.keep (t.shares_announceCheck p forced) (v.shares_announceCheck p forced), fun q => ?_, fun q kept => ?_⟩
  · have level : ∀ s : State, ((s.announceCheck p forced).point q).qualified = (s.point q).qualified := by
      intro s
      rw [State.point_announceCheck]
      split <;> rfl
    rw [level, level, h.qualified]
  · rw [State.point_announceCheck, State.point_announceCheck, h.point q kept]
    by_cases same : q = p
    · subst same
      rw [h.announcesPoint kept]
    · rw [if_neg fun both => same both.1, if_neg fun both => same both.1]

theorem State.Twin.checkChanged {old old' : State} (entry : ∀ p, old.ownEntry p = old'.ownEntry p) :
    State.Twin apart (State.checkChanged old t) (State.checkChanged old' v) := by
  have changed : ∀ p, (old.ownEntry p).sameReplicated (t.ownEntry p) = (old'.ownEntry p).sameReplicated (v.ownEntry p) :=
    fun p => by rw [entry, h.ownEntry]
  refine List.foldl_rel (r := State.Twin apart) h fun p _ a b twin => ?_
  rw [changed]
  split
  · exact twin
  · exact twin.announceCheck p false

theorem State.Twin.stopSettledReminders : State.Twin apart t.stopSettledReminders v.stopSettledReminders := by
  have stops : ∀ s : State, s.stopSettledReminders.Shares s := fun s =>
    .of_unchanged (by simp) (by simp) (by simp) (by simp) (by simp)
  refine h.points (g := fun q r => if (v.ownEntry q).phase.pending then r else { r with reminder := .stopped }) (stops t) (stops v)
    (fun q r r' same => ?_) (fun q => ?_) fun q => State.point_stopSettledReminders v q
  · split <;> exact same
  · rw [State.point_stopSettledReminders, h.ownEntry]

theorem State.Twin.settlePurged {old old' : State} (record : ∀ u, old.record u = old'.record u) (n : Notice) :
    State.Twin apart (State.settlePurged old t n) (State.settlePurged old' v n) := by
  have resets : ∀ s : State, s.resetPending.Shares s := fun s =>
    .of_unchanged (by simp) (by simp) (by simp) (by simp) (by simp)
  unfold State.settlePurged
  cases n with
  | purge o =>
    dsimp only
    rw [h.shares.own, record]
    split
    · exact h.points (g := fun _ r => { r with pendingReminders := 0 }) (resets t) (resets v) (fun _ _ _ same => same)
        t.resetPending_point v.resetPending_point
    · exact h
  | _ => exact h

/-- The sender settles its point beside what the receiver does. -/
theorem State.Twin.settleOwnPoint {x : Item} (own : ∀ q, x.kind = .point q → apart q) :
    State.Twin apart (t.settleOwnPoint (some x)) v := by
  have settled : (t.settleOwnPoint (some x)).Shares t := .of_unchanged (by simp) (by simp) (by simp) (by simp) (by simp)
  refine ⟨settled.trans h.shares, fun q => ?_, fun q kept => ?_⟩
  · rw [← h.qualified q, (t.keepsLevels_settleOwnPoint (some x)).levels q]
  · rw [← h.point q kept]
    cases kind : x.kind with
    | point p =>
      simp only [State.settleOwnPoint, kind]
      exact State.point_settlePoint_other t x fun same => kept (own q (same ▸ kind))
    | _ => simp only [State.settleOwnPoint, kind]

theorem State.Twin.settlePoints {old old' : State} (entry : ∀ p, old.ownEntry p = old'.ownEntry p)
    (record : ∀ u, old.record u = old'.record u) {x : Item} (own : ∀ q, x.kind = .point q → apart q) (n : Notice) :
    State.Twin apart (State.settlePoints old t (some x) n) (State.settlePoints old' v none n) :=
  (((h.settlePurged record n).stopSettledReminders).checkChanged entry).settleOwnPoint own

theorem State.Twin.reannounceAll : State.Twin apart t.reannounceAll v.reannounceAll := by
  have announces : ∀ s : State, s.reannounceAll.Shares s := fun s =>
    .of_unchanged (by simp) (by simp) (by simp) (by simp) (by simp)
  refine h.points (g := fun q r => if v.pointUsed q then { r with queued := true } else r) (announces t) (announces v)
    (fun q r r' same => ?_) (fun q => ?_) fun q => State.point_reannounceAll v q
  · split <;> exact same
  · rw [State.point_reannounceAll, h.pointUsed]

theorem State.Twin.requestPresence : State.Twin apart t.requestPresence v.requestPresence := by
  have requests : ∀ s : State, s.requestPresence.Shares s := fun s =>
    .of_unchanged (by simp) (by simp) (by simp) (by simp) (by simp)
  exact h.keep (requests t) (by simp) (requests v) (by simp)

theorem State.Twin.recoverFromLost {judged judged' : State} (j : judged.Shares judged') (n : Notice) :
    State.Twin apart (State.recoverFromLost judged t n) (State.recoverFromLost judged' v n) := by
  unfold State.recoverFromLost
  cases n with
  | lost p =>
    dsimp only
    rw [h.shares.inState, h.shares.own, j.lostValid]
    split
    · exact h.requestPresence.reannounceAll
    · exact h
  | _ => exact h

/-! ## The changes of own state (R80, R135, R136, R156) -/

theorem State.Twin.alignFlashers : State.Twin apart t.alignFlashers v.alignFlashers := by
  refine ⟨⟨h.shares.cs, h.shares.et, ?_, h.shares.counters, h.shares.state, h.shares.entryState, h.shares.record⟩, h.qualified,
    h.point⟩
  simp only [State.alignFlashers, State.onOu_ou, h.shares.ou, h.shares.presenceMs]

theorem State.Twin.enterSyncing : State.Twin apart t.enterSyncing v.enterSyncing := by
  have record : ∀ (s : State) u, s.enterSyncing.record u = s.record u := fun s =>
    State.record_congr (by rw [State.enterSyncing_ru])
  refine ⟨⟨by simp [h.shares.cs], by simp [h.shares.et], by simp [h.shares.ou], by simp [h.shares.counters],
    by simp [State.enterSyncing_ru], by simp [State.enterSyncing_ru], fun u => by rw [record, record, h.shares.record]⟩,
    fun q => ?_, fun q kept => ?_⟩
  · rw [State.point_enterSyncing, State.point_enterSyncing]
    exact h.qualified q
  · rw [State.point_enterSyncing, State.point_enterSyncing, h.point q kept]

end

end Sys2Proof.Machine
end

section
/-! PROOF. A sender and a receiver of one frame, from the frame's end to the close (R80, R102, R103, R118, R135, R136, R156). -/

namespace Sys2Proof.Machine

/-! ## A completion (R45, R156, R157) -/

theorem State.completed_ou (s : State) : s.completed.ou = { s.ou with silenceMark := s.et.lineCount } := by
  simp [State.completed]

section
variable {apart : PointId → Prop} {t v : State} (h : State.Twin apart t v)
include h

omit h in
theorem State.record_adoptRoster (s : State) (p : PresencePayload) (u : StationId) : (s.adoptRoster p).record u =
    if u = s.own then s.record u else (s.record u).become (carriedState p u) false s.presenceMs := by
  simp [State.record, State.adoptRoster_ru]

theorem State.Twin.adoptRoster (p : PresencePayload) : State.Twin apart (t.adoptRoster p) (v.adoptRoster p) := by
  have pu : ∀ (s : State) q, (s.adoptRoster p).point q = s.point q := fun s => State.point_congr (by simp)
  have standing : ∀ s : State, s.ru.sameStanding (s.adoptRoster p).ru := fun s => by
    rw [State.adoptRoster_ru]
    exact ⟨rfl, rfl, rfl⟩
  refine ⟨h.shares.step (by simp) (by simp) (by simp [h.shares.et]) (by simp) (by simp) (by simp) (by simp) (standing t) (standing v)
    fun u => ?_, fun q => by rw [pu, pu, h.qualified], fun q kept => by rw [pu, pu, h.point q kept]⟩
  simp only [State.record_adoptRoster, h.shares.record, h.shares.own, h.shares.presenceMs]

theorem State.Twin.adoptOccurrences : State.Twin apart t.adoptOccurrences v.adoptOccurrences := by
  have adopts : ∀ s : State, s.adoptOccurrences.Shares s := fun s =>
    .of_unchanged (by simp) (by simp) (by simp) (by simp) (by simp)
  refine h.points (g := fun q r => if v.pointUsed q && !(v.ownEntry q).isPristine then adoptOccurrence (v.ownEntry q) r
    else r) (adopts t) (adopts v) (fun q r r' same => ?_) (fun q => ?_) fun q => State.point_adoptOccurrences v q
  · split
    · have level := fun r => (adoptOccurrence_qualification (v.ownEntry q) r).1.1
      rw [level, level, same]
    · exact same
  · rw [State.point_adoptOccurrences, h.pointUsed, h.ownEntry]

theorem State.Twin.adopted (p : PresencePayload) : State.Twin apart (t.adopted p) (v.adopted p) :=
  (h.adoptRoster p).adoptOccurrences

theorem State.Twin.completed : State.Twin apart t.completed v.completed := by
  have record : ∀ (s : State) u, s.completed.record u = s.record u := fun s => State.record_congr (by rw [State.completed_ru])
  have pu : ∀ (s : State) q, s.completed.point q = s.point q := fun s => State.point_congr s.completed_frame.2.2.1
  obtain ⟨cs, et, -, lc, -⟩ := t.completed_frame
  obtain ⟨cs', et', -, lc', -⟩ := v.completed_frame
  exact ⟨⟨by rw [cs, cs', h.shares.cs], by rw [et, et', h.shares.et],
    by rw [State.completed_ou, State.completed_ou, h.shares.ou, h.shares.et], by rw [lc, lc', h.shares.counters],
    by rw [State.completed_ru, State.completed_ru], by rw [State.completed_ru, State.completed_ru]; exact h.shares.entryState,
    fun u => by rw [record, record, h.shares.record]⟩, fun q => by rw [pu, pu, h.qualified],
    fun q kept => by rw [pu, pu, h.point q kept]⟩

theorem State.Twin.startReminders : State.Twin apart t.startReminders v.startReminders := by
  have starts : ∀ s : State, s.startReminders.Shares s := fun s =>
    .of_unchanged (by simp) (by simp) (by simp) (by simp) (by simp)
  refine h.points (g := fun q r => if v.mayRemind q then { r with reminder := .running (v.reminderMs q) } else r) (starts t)
    (starts v) (fun q r r' same => ?_) (fun q => ?_) fun q => State.point_startReminders v q
  · split <;> exact same
  · rw [State.point_startReminders, h.mayRemind, h.reminderMs]

theorem State.Twin.announced : State.Twin apart t.announced v.announced := by
  have timer : State.Twin apart t.requestPresence.startPresenceTimer v.requestPresence.startPresenceTimer := by
    have starts : ∀ s : State, s.startPresenceTimer.Shares s := fun s => ⟨rfl, rfl, rfl, rfl, rfl, rfl, fun _ => rfl⟩
    exact h.requestPresence.keep (starts _) rfl (starts _) rfl
  exact timer.reannounceAll.startReminders

theorem State.Twin.complete (p : PresencePayload) : State.Twin apart (t.complete p) (v.complete p) := by
  have pushes : ∀ (s : State) (r : Record), (s.push r).Shares s := fun s r =>
    .of_unchanged (by simp) (by simp) (by simp) (by simp) (by simp)
  rw [State.complete_eq, State.complete_eq]
  exact (h.adopted p).completed.announced.keep (pushes _ _) (by simp) (pushes _ _) (by simp)

end

/-! ## Membership (R80, R135, R136, R156) -/

theorem State.reference_congr {s t : State} (cs : t.cs = s.cs) (ru : t.ru = s.ru) : t.reference = s.reference := by
  have own : t.own = s.own := congrArg ConfigStore.stationNumber cs
  have qualifies : t.qualifies = s.qualifies := by
    funext u
    simp only [State.qualifies, own, State.inState, State.record, ru]
  simp only [State.reference, qualifies, ru]

/-- What a PRESENCE leads to is judged by the states before it: where these do not differ, both sides take the same course. -/
theorem State.settlePresence_pair {R : State → State → Prop} {old old' t v : State} (cs : old.cs = old'.cs)
    (et : old.et = old'.et) (ru : old.ru = old'.ru) (window : old.ru.state ≠ .listening) (sender : StationId) (p : PresencePayload)
    (same : t.presenceApplies p = v.presenceApplies p) (nothing : R t v) (aligned : R t.alignFlashers v.alignFlashers)
    (syncing : R t.alignFlashers.enterSyncing v.alignFlashers.enterSyncing)
    (completed : R (t.alignFlashers.complete p) (v.alignFlashers.complete p)) :
    R (State.settlePresence old t sender p) (State.settlePresence old' v sender p) := by
  have elsewhere : old.inState .listening = false := by simpa [State.inState] using window
  have elsewhere' : old'.inState .listening = false := by simpa [State.inState, ← ru] using window
  have applies : old.applies = old'.applies := State.applies_congr ru
  have own : old.isOwnReference = old'.isOwnReference := State.isOwnReference_of_same cs ru
  have reference : old.reference = old'.reference := State.reference_congr cs ru
  have differs : old.differsFrom p = old'.differsFrom p := by
    have entry : old.entry = old'.entry := funext fun i => State.entry_congr (congrArg EventTable.table et) i
    simp only [State.differsFrom, State.tableDigest, entry, et, ru]
  have completes : old.completes = old'.completes := by
    simp only [State.completes, State.appliesSegments, State.coverageFull, ru]
  have member : old.inState .member = old'.inState .member := by simp only [State.inState, ru]
  unfold State.settlePresence
  rw [elsewhere, elsewhere', if_neg Bool.false_ne_true, if_neg Bool.false_ne_true, same, applies, reference]
  split
  · split
    · unfold State.hearReference
      dsimp only
      rw [member, own, differs, completes]
      split
      · split
        · split
          · exact syncing
          · exact aligned
        · split
          · exact completed
          · exact aligned
      · exact aligned
    · exact nothing
  · exact nothing

/-! ## The close (R62, R72, R75) -/

section
variable {apart : PointId → Prop} {t v : State} (h : State.Twin apart t v)
include h

theorem State.Twin.tripReasons : t.tripReasons = v.tripReasons := by
  have category : t.category = v.category := by funext c; simp only [State.category, h.shares.cs]
  have setup : t.pointSetup = v.pointSetup := by funext p; simp only [State.pointSetup, h.shares.cs]
  simp only [State.tripReasons, State.tripTable, State.tripOwnPoint, State.tripUncertain, State.entry, State.isTripEntry,
    State.isTripCategory, State.pointUsed, State.pointSource, State.pointCategory, category, setup, h.qualified, h.shares.cs,
    h.shares.et, h.shares.state, h.shares.entryState]

/-- The close drives the outputs of both sides alike. -/
theorem State.Twin.close (old old' : State) : State.Twin apart (State.close old t) (State.close old' v) := by
  obtain ⟨cs, et, ru, pu, -, lc, -⟩ := t.close_frame old
  obtain ⟨cs', et', ru', pu', -, lc', -⟩ := v.close_frame old'
  have record : ∀ u, (State.close old t).record u = (State.close old' v).record u := fun u => by
    rw [State.record_congr (congrArg RosterUnit.roster ru), State.record_congr (congrArg RosterUnit.roster ru'), h.shares.record]
  have pins : (State.close old t).ou.pins = (State.close old' v).ou.pins := by
    rw [(State.close_outputsOk old t).2.1, (State.close_outputsOk old' v).2.1]
    refine State.outputPins_congr (by rw [cs, cs', h.shares.cs]) (by rw [et, et', h.shares.et]) (by rw [ru, ru', h.shares.state])
      (by rw [ru, ru', h.shares.entryState]) ?_ ?_ ?_ ?_ ?_ <;>
      rw [State.close_ou old t, State.close_ou old' v] <;> simp only [h.tripReasons, h.shares.modesCount, h.shares.ou]
  have ou : (State.close old t).ou = (State.close old' v).ou := by
    rw [State.close_ou old t, State.close_ou old' v, pins, h.tripReasons, h.shares.modesCount, h.shares.ou]
  exact ⟨⟨by rw [cs, cs', h.shares.cs], by rw [et, et', h.shares.et], ou, by rw [lc, lc', h.shares.counters],
    by rw [ru, ru', h.shares.state], by rw [ru, ru', h.shares.entryState], record⟩,
    fun q => by rw [State.point_congr pu, State.point_congr pu', h.qualified],
    fun q kept => by rw [State.point_congr pu, State.point_congr pu', h.point q kept]⟩

end

end Sys2Proof.Machine
end

section
/-! PROOF. The acceptance of the own frame beside that of a receiver of the frame in the same state (R102, R103, R118), for
O45. -/

namespace Sys2Proof.Machine

/-! ## The two acceptances -/

/-- Does the own frame set the own JOIN mark (R147)? -/
def State.joins (s : State) (n : Notice) : Bool :=
  match n with
  | .join _ => s.ru.state == .joining || s.ru.state == .syncing
  | .presence _ | .point _ | .claim _ | .lost _ | .purge _ | .leave _ | .snapshot _ => false

/-- The state of `s`, but with the own JOIN accepted and nothing in flight: a receiver of the frame. -/
def State.receiver (s : State) (n : Notice) : State :=
  { s with
    ru := { s.ru with ownJoin := s.ru.ownJoin || s.joins n }
    lc := { s.lc with inFlight := none, ltx := .released, assembling := true } }

/-- The state that the acceptance of the own frame, with the item `x`, ends in. -/
def State.landed (s : State) (sender : StationId) (x : Item) (n : Notice) : State :=
  State.close s (s.dutiful sender (some x) n).takeDeferredExpiry

theorem State.landed_run {s : State} {f : InFlight} (on : s.lc.receiverOn = true) (flight : s.lc.inFlight = some f) {n : Notice}
    (kind : noticeKind n = noticeKind f.frame.notice) :
    exec (acceptanceOf f.frame.sender n) s = .next (s.landed f.frame.sender f.item f.frame.notice) := by
  have own : s.arrival f.frame.sender n = .own f := by
    simp [State.arrival, on, flight, kind]
  rw [exec_acceptanceOf, State.accept, own]
  rfl

theorem State.receiver_receives {s : State} (on : s.lc.receiverOn = true) (n : Notice) : (s.receiver n).receives :=
  ⟨on, rfl, rfl⟩

theorem State.receiver_ru_of_other {s : State} {n : Notice} (other : ∀ p, n ≠ .join p) : (s.receiver n).ru = s.ru := by
  have none : s.joins n = false := by
    cases n with
    | join p => exact absurd rfl (other p)
    | _ => rfl
  simp [State.receiver, none]

/-! ## The frame begun -/

theorem State.begun_standing (s : State) (own : Option Item) (n : Notice) : s.ru.sameStanding (s.begun own n).ru := by
  simpa [State.begun] using State.markOwnJoin_standing (s.takeFrame own) own n

theorem State.begun_ownJoin (s : State) (x : Item) (n : Notice) :
    (s.begun (some x) n).ru.ownJoin = (s.ru.ownJoin || s.joins n) := by
  have ru : (s.takeFrame (some x)).ru = s.ru := by simp
  unfold State.begun State.markOwnJoin State.joins
  rw [ru]
  cases n with
  | join p =>
    dsimp only
    cases state : s.ru.state <;> simp
  | _ => simp

theorem State.begun_record (s : State) (own : Option Item) (n : Notice) (u : StationId) :
    (s.begun own n).record u = s.record u := State.record_congr (s.begun_roster own n) u

theorem State.shares_begun (s : State) (x : Item) (n : Notice) :
    (s.begun (some x) n).Shares ((s.receiver n).begun none n) := by
  obtain ⟨cs, et, -, -, ou, -, lc, -⟩ := s.begun_frame (some x) n
  obtain ⟨cs', et', -, -, ou', -, lc', -⟩ := (s.receiver n).begun_frame none n
  obtain ⟨state, entryState, -⟩ := s.begun_standing (some x) n
  have ru' := (s.receiver n).begun_none_ru n
  refine ⟨cs.trans cs'.symm, et.trans et'.symm, ou.trans ou'.symm, ?_, state.trans (by rw [ru']; rfl),
    entryState.trans (by rw [ru']; rfl), fun u => ?_⟩
  · rw [lc, lc', State.takeFrame_lc, State.takeFrame_lc]
    rfl
  · rw [State.begun_record, State.begun_record]
    rfl

theorem State.begun_applies (s : State) (x : Item) (n : Notice) :
    (s.begun (some x) n).applies = ((s.receiver n).begun none n).applies := by
  have h := s.shares_begun x n
  have joined : (s.begun (some x) n).ru.ownJoin = ((s.receiver n).begun none n).ru.ownJoin := by
    rw [State.begun_ownJoin, State.begun_none_ru]
    rfl
  simp only [State.applies, h.state, h.entryState, joined]

theorem State.begun_takesSegment (s : State) (x : Item) (n : Notice) (sender : StationId) :
    (s.begun (some x) n).takesSegment sender = ((s.receiver n).begun none n).takesSegment sender := by
  have h := s.shares_begun x n
  have joined : (s.begun (some x) n).ru.ownJoin = ((s.receiver n).begun none n).ru.ownJoin := by
    rw [State.begun_ownJoin, State.begun_none_ru]
    rfl
  simp only [State.takesSegment, State.appliesSegments, h.state, h.record, joined]

theorem State.shares_judged (s : State) (sender : StationId) (x : Item) (n : Notice) :
    (s.judged sender (some x) n).Shares ((s.receiver n).judged sender none n) :=
  ((s.shares_begun x n).countFrame sender (s.begun_takesSegment x n sender) n).hearSender sender

theorem State.shares_applied (s : State) (sender : StationId) (x : Item) (n : Notice) :
    (s.applied sender (some x) n).Shares ((s.receiver n).applied sender none n) := by
  rw [State.applied, State.applied, State.begun_takesSegment]
  exact (s.shares_judged sender x n).applyKind sender _ n

/-! ## The frame taken -/

/-- The point of an item, which its sender settles and a receiver does not. -/
def Item.settles (x : Item) (q : PointId) : Prop := x.kind = .point q

theorem State.twin_applyFrame (s : State) (sender : StationId) (x : Item) (n : Notice) :
    State.Twin x.settles (State.applyFrame s (s.begun (some x) n) sender (some x) n)
      (State.applyFrame (s.receiver n) ((s.receiver n).begun none n) sender none n) := by
  by_cases applies : (s.begun (some x) n).applies = true
  · have applies' := (s.begun_applies x n).symm.trans applies
    rw [State.applyFrame_of_applies sender applies, State.applyFrame_of_applies sender applies']
    have applied : State.Twin x.settles (s.applied sender (some x) n) ((s.receiver n).applied sender none n) := by
      refine .of_pu (s.shares_applied sender x n) ?_
      rw [State.applied, State.applied, (State.applyKind_frame _ sender _ n).2.1, (State.applyKind_frame _ sender _ n).2.1,
        (s.judged_frame sender (some x) n).2.1, ((s.receiver n).judged_frame sender none n).2.1]
      rfl
    exact (applied.settlePoints (old := s) (old' := s.receiver n) (fun _ => rfl) (fun _ => rfl) (fun _ => id) n).recoverFromLost
      (s.shares_judged sender x n) n
  · have stands : (s.begun (some x) n).applies = false := by simpa using applies
    rw [State.applyFrame_of_not sender stands, State.applyFrame_of_not sender ((s.begun_applies x n).symm.trans stands)]
    refine .of_pu (s.shares_begun x n) ?_
    rw [(s.begun_frame (some x) n).2.2.1, ((s.receiver n).begun_frame none n).2.2.1]
    rfl

theorem State.shares_settleQueue (old s : State) (sender : StationId) (own : Option Item) (n : Notice) :
    (State.settleQueue old s sender own n).Shares s := by
  refine .of_blocks (by simp) (by simp) (by simp) (by simp) (State.settleQueue_sameControl old s sender own n) ?_
  rw [State.settleQueue_ru]
  unfold State.moveCursor
  split <;> rfl

theorem State.twin_taken (s : State) (sender : StationId) (x : Item) (n : Notice) :
    State.Twin x.settles (s.taken sender (some x) n) ((s.receiver n).taken sender none n) := by
  rw [State.taken_eq, State.taken_eq]
  exact (s.twin_applyFrame sender x n).keep (State.shares_settleQueue _ _ sender _ n) (by simp)
    (State.shares_settleQueue _ _ sender _ n) (by simp)

/-- But at a LEAVE, own state changes alike. -/
theorem State.twin_moved {s : State} (window : s.ru.state ≠ .listening) (sender : StationId) (x : Item) {n : Notice}
    (stays : ∀ c, n ≠ .leave c) : State.Twin x.settles (s.moved sender (some x) n) ((s.receiver n).moved sender none n) := by
  have taken := s.twin_taken sender x n
  cases n with
  | presence p =>
    have ru : (s.receiver (.presence p)).ru = s.ru := State.receiver_ru_of_other fun _ => Notice.noConfusion
    exact State.settlePresence_pair (R := State.Twin x.settles) (old := s) (old' := s.receiver (.presence p)) rfl rfl ru.symm
      window sender p (taken.shares.presenceApplies p) taken taken.alignFlashers taken.alignFlashers.enterSyncing
      (taken.alignFlashers.complete p)
  | leave c => exact absurd rfl (stays c)
  | _ => exact taken

theorem State.shares_takeDuties (old s : State) : (State.takeDuties old s).Shares s :=
  .of_blocks (by simp) (by simp) (by simp) (by simp) (State.takeDuties_sameControl old s) (State.takeDuties_roster old s)

theorem State.twin_dutiful {s : State} (window : s.ru.state ≠ .listening) (sender : StationId) (x : Item) {n : Notice}
    (stays : ∀ c, n ≠ .leave c) :
    State.Twin x.settles (s.dutiful sender (some x) n) ((s.receiver n).dutiful sender none n) := by
  rw [State.dutiful_eq, State.dutiful_eq]
  exact (State.twin_moved window sender x stays).keep (State.shares_takeDuties _ _) (by simp) (State.shares_takeDuties _ _) (by simp)

/-! ## The reports (R15, R16, R20, R131, R157) -/

/-- Two runs have pushed the same records about table and roster. -/
def State.ReportsAlike (s r t v : State) : Prop :=
  ∃ rs rs', s.Pushed t rs ∧ r.Pushed v rs' ∧ rs.filter Record.isReport = rs'.filter Record.isReport

theorem State.ReportsAlike.trans {s r t v t' v' : State} (h : State.ReportsAlike s r t v) {rs rs' : List Record}
    (ht : t.Pushed t' rs) (hv : v.Pushed v' rs') (same : rs.filter Record.isReport = rs'.filter Record.isReport) :
    State.ReportsAlike s r t' v' := by
  obtain ⟨as, bs, left, right, alike⟩ := h
  exact ⟨as ++ rs, bs ++ rs', left.trans ht, right.trans hv, by rw [List.filter_append, List.filter_append, alike, same]⟩

theorem State.removalOutcomes_isReport (s : State) (k : ItemKind → Bool) :
    (s.removalOutcomes k).filter Record.isReport = [] := by
  refine List.filter_eq_nil_iff.2 fun r hr => ?_
  obtain ⟨y, -, pushed⟩ := List.mem_flatMap.1 hr
  split at pushed
  · exact nomatch pushed
  · unfold withdrawnRecord at pushed
    split at pushed <;> simp_all [Record.isReport]

theorem State.reports_taken (s : State) (sender : StationId) (x : Item) (n : Notice) :
    State.ReportsAlike s (s.receiver n) (s.taken sender (some x) n) ((s.receiver n).taken sender none n) := by
  by_cases applies : (s.begun (some x) n).applies = true
  · refine ⟨_, _, State.pushed_taken sender applies, State.pushed_taken sender ((s.begun_applies x n).symm.trans applies), ?_⟩
    rw [List.filter_append, List.filter_append, State.queueOutcomes_isReport, State.queueOutcomes_isReport,
      (s.shares_judged sender x n).kindRecords]
  · have stands : (s.begun (some x) n).applies = false := by simpa using applies
    have begun : ∀ (u : State) (own : Option Item), u.Pushed (u.begun own n) [] := fun u own =>
      .nothing (u.begun_frame own n).1 (u.begun_frame own n).2.2.2.2.2.1
    rw [State.taken_eq, State.taken_eq, State.applyFrame_of_not sender stands,
      State.applyFrame_of_not sender ((s.begun_applies x n).symm.trans stands)]
    refine ⟨_, _, (begun s _).trans (State.pushed_settleQueue s _ sender _ n),
      (begun (s.receiver n) _).trans (State.pushed_settleQueue (s.receiver n) _ sender _ n), ?_⟩
    rw [List.nil_append, List.nil_append, State.queueOutcomes_isReport, State.queueOutcomes_isReport]

theorem State.reports_moved {s : State} (window : s.ru.state ≠ .listening) (sender : StationId) (x : Item) (n : Notice) :
    State.ReportsAlike s (s.receiver n) (s.moved sender (some x) n) ((s.receiver n).moved sender none n) := by
  have taken := s.reports_taken sender x n
  have twin := s.twin_taken sender x n
  have align : ∀ u : State, u.Pushed u.alignFlashers [] := fun u => .nothing (by simp) (by simp)
  cases n with
  | presence p =>
    have ru : (s.receiver (.presence p)).ru = s.ru := State.receiver_ru_of_other fun _ => Notice.noConfusion
    have aligned := taken.trans (align _) (align _) rfl
    refine State.settlePresence_pair (R := State.ReportsAlike s (s.receiver (.presence p))) (old := s)
      (old' := s.receiver (.presence p)) rfl rfl ru.symm window sender p (twin.shares.presenceApplies p) taken aligned
      (aligned.trans (State.pushed_enterSyncing _) (State.pushed_enterSyncing _) ?_)
      (aligned.trans (State.pushed_complete _ p) (State.pushed_complete _ p) ?_)
    · rw [State.removalOutcomes_isReport, State.removalOutcomes_isReport]
    · rw [twin.alignFlashers.shares.et]
  | leave c =>
    refine taken.trans (State.pushed_enterOut _ .offline none) (.refl _) ?_
    rw [State.removalOutcomes_isReport]
    rfl
  | _ => exact taken

theorem State.reports_close {s r t v : State} (h : State.ReportsAlike s r t v) (old old' : State) :
    State.ReportsAlike s r (State.close old t) (State.close old' v) := by
  refine h.trans (State.pushed_close old t) (State.pushed_close old' v) ?_
  split <;> split <;> rfl

/-! ## The end of the attempt (R106, R148) -/

theorem State.takeDeferredExpiry_of_not {s : State} (answered : s.ru.deferredExpiry = false) : s.takeDeferredExpiry = s := by
  rw [State.takeDeferredExpiry, if_neg (by simp [answered])]

/-- An expiry that came during the attempt is answered by the next resync attempt, or there was none. -/
def State.DefersRetry (s : State) : Prop := s.ru.deferredExpiry = true → s.ru.state = .syncing ∧ s.ru.attempt < 3

theorem State.takeDeferredExpiry_retries {s : State} (retries : s.DefersRetry) (due : s.ru.deferredExpiry = true) :
    s.takeDeferredExpiry = (s.onRu fun r => { r with deferredExpiry := false }).startResyncAttempt (s.ru.attempt + 1) := by
  obtain ⟨syncing, few⟩ := retries due
  have state : (s.onRu fun r => { r with deferredExpiry := false }).ru.state = .syncing := syncing
  rw [State.takeDeferredExpiry, if_pos due, State.attemptFailed]
  simp only [state]
  exact if_pos few

theorem State.takeDeferredExpiry_kept {s : State} (retries : s.DefersRetry) : s.takeDeferredExpiry.Shares s ∧
    s.takeDeferredExpiry.pu = s.pu ∧ s.takeDeferredExpiry.lp = s.lp := by
  cases due : s.ru.deferredExpiry with
  | false =>
    rw [State.takeDeferredExpiry_of_not due]
    exact ⟨.of_unchanged rfl rfl rfl rfl rfl, rfl, rfl⟩
  | true =>
    rw [State.takeDeferredExpiry_retries retries due]
    have ru := State.startResyncAttempt_ru (s.onRu fun r => { r with deferredExpiry := false }) (s.ru.attempt + 1)
    refine ⟨⟨by simp, by simp, by simp, by simp, by rw [ru]; rfl, by rw [ru]; rfl, fun u => State.record_congr ?_ u⟩, by simp,
      by simp⟩
    rw [ru]
    rfl

theorem State.taken_attempt (s : State) (sender : StationId) (own : Option Item) (n : Notice) :
    (s.taken sender own n).ru.attempt = s.ru.attempt := by
  have service : ∀ {r r' : RosterUnit}, r.sameService r' → r'.attempt = r.attempt := by
    intro r r' h
    rw [h]
  have begun : (s.begun own n).ru.attempt = s.ru.attempt := by
    have ru : (s.takeFrame own).ru = s.ru := by simp
    unfold State.begun State.markOwnJoin
    rw [← ru]
    split
    · split <;> rfl
    · rfl
  rw [State.taken_eq, service (State.settleQueue_sameControl s _ sender own n).service, ← begun]
  cases applies : (s.begun own n).applies with
  | true =>
    rw [State.applyFrame_of_applies sender applies]
    have kind := service (State.applyKind_service (s.judged sender own n) sender ((s.begun own n).takesSegment sender) n).1
    simpa [State.applied, service (s.judged_control sender own n).service] using kind
  | false => rw [State.applyFrame_of_not sender applies]

/-- Own state and deferred expiry after the changes of own state, where an expiry that waits has a next resync attempt. -/
theorem State.dutiful_defersRetry {s : State} (sound : s.Sound) {f : InFlight} (flight : s.lc.inFlight = some f)
    (retries : s.DefersRetry) (sender : StationId) (n : Notice) : (s.dutiful sender (some f.item) n).DefersRetry := by
  have settled : s.Settled (some f.item) := by simpa [flight] using sound.settled
  obtain ⟨state, -, deferred⟩ := s.taken_standing sender (some f.item) n
  have attempt := s.taken_attempt sender (some f.item) n
  cases due : s.ru.deferredExpiry with
  | false =>
    intro yes
    rw [(settled.dutiful sender n (.inl rfl)).answered due] at yes
    exact nomatch yes
  | true =>
    have syncing := (retries due).1
    have applies : s.applies = true := (State.applies_iff s).2 (.inr (.inr (.inl syncing)))
    have taken : (s.taken sender (some f.item) n).DefersRetry := fun _ => by
      rw [state, attempt]
      exact retries due
    have moved : (s.moved sender (some f.item) n).DefersRetry := by
      cases n with
      | presence p =>
        refine State.settlePresence_cases (P := State.DefersRetry) (State.not_listening_of_applies applies) sender p
          taken ?_ (fun member => ?_) fun _ => ?_
        · unfold State.DefersRetry at taken ⊢
          rwa [(State.alignFlashers_frame _).2.2.1]
        · rw [syncing] at member
          exact nomatch member
        · intro yes
          rw [State.complete_ru] at yes
          exact nomatch yes
      | leave c =>
        intro yes
        change ((s.taken sender (some f.item) (.leave c)).enterOut .offline none).ru.deferredExpiry = true at yes
        rw [State.enterOut_ru] at yes
        exact nomatch yes
      | _ => exact taken
    have control := State.takeDuties_sameControl s (s.moved sender (some f.item) n)
    rw [State.dutiful_eq, State.DefersRetry, control]
    exact moved

/-! ## The two acceptances, ended -/

section
variable {s : State} (sound : s.Sound) {f : InFlight} (flight : s.lc.inFlight = some f)
include sound flight

theorem State.Sound.sends : s.ru.state.sends = true := sound.line.2.1 (by rw [flight]; rfl)

theorem State.Sound.window : s.ru.state ≠ .listening := by
  intro listening
  have sends := sound.sends flight
  rw [listening] at sends
  exact nomatch sends

variable (retries : s.DefersRetry) (sender : StationId)
include retries

/-- But at a LEAVE, the sender of a frame ends as a receiver of it does, the point of its item apart (R102, R103). -/
theorem State.twin_landed {n : Notice} (stays : ∀ c, n ≠ .leave c) :
    State.Twin f.item.settles (s.landed sender f.item n) ((s.receiver n).foreign sender n) := by
  have dutiful := State.twin_dutiful (sound.window flight) sender f.item stays
  obtain ⟨shares, pu, -⟩ := State.takeDeferredExpiry_kept (State.dutiful_defersRetry sound flight retries sender n)
  exact (dutiful.keep shares pu (.of_unchanged rfl rfl rfl rfl rfl) rfl).close s (s.receiver n)

theorem State.reports_landed (n : Notice) :
    State.ReportsAlike s (s.receiver n) (s.landed sender f.item n) ((s.receiver n).foreign sender n) := by
  have duties : ∀ u : State, u.Pushed (State.takeDuties s u) [] := fun u => .nothing (by simp) (by simp)
  have duties' : ∀ u : State, u.Pushed (State.takeDuties (s.receiver n) u) [] := fun u => .nothing (by simp) (by simp)
  obtain ⟨shares, -, lp⟩ := State.takeDeferredExpiry_kept (State.dutiful_defersRetry sound flight retries sender n)
  have moved := (State.reports_moved (sound.window flight) sender f.item n).trans (duties _) (duties' _) rfl
  exact State.reports_close (moved.trans (.nothing shares.cs lp) (.refl _) rfl) s (s.receiver n)

/-- At its own LEAVE the station ends as a receiver does, with the roster frozen (R125, R128). -/
theorem State.leave_landed (c : Byte) : let t := s.landed sender f.item (.leave c)
    let v := (s.receiver (.leave c)).foreign sender (.leave c)
    t.et = v.et ∧ t.lc.counters = v.lc.counters ∧ ∀ u, t.record u = { v.record u with silence := none } := by
  intro t v
  have taken := (s.twin_taken sender f.item (.leave c)).shares
  obtain ⟨shares, -⟩ := State.takeDeferredExpiry_kept (State.dutiful_defersRetry sound flight retries sender (.leave c))
  have out := ((State.shares_takeDuties s (s.moved sender (some f.item) (.leave c))).symm.trans shares.symm).symm
  have left : s.moved sender (some f.item) (.leave c) = (s.taken sender (some f.item) (.leave c)).enterOut .offline none := rfl
  have stays := State.shares_takeDuties (s.receiver (.leave c)) ((s.receiver (.leave c)).taken sender none (.leave c))
  obtain ⟨-, et, ru, -, -, lc, -⟩ := State.close_frame (s.dutiful sender (some f.item) (.leave c)).takeDeferredExpiry s
  obtain ⟨-, et', ru', -, -, lc', -⟩ :=
    State.close_frame ((s.receiver (.leave c)).dutiful sender none (.leave c)) (s.receiver (.leave c))
  rw [left] at out
  refine ⟨?_, ?_, fun u => ?_⟩
  · exact (et.trans (out.et.trans (State.enterOut_frame _ .offline none).2.1)).trans
      ((taken.et.trans stays.et.symm).trans et'.symm)
  · have lcOut : ((s.taken sender (some f.item) (.leave c)).enterOut .offline none).lc.counters =
        (s.taken sender (some f.item) (.leave c)).lc.counters := by rw [State.enterOut_lc]
    exact ((congrArg LineControl.counters lc).trans (out.counters.trans lcOut)).trans
      ((taken.counters.trans stays.counters.symm).trans (congrArg LineControl.counters lc').symm)
  · have silenced : ((s.taken sender (some f.item) (.leave c)).enterOut .offline none).record u =
        { (s.taken sender (some f.item) (.leave c)).record u with silence := none } := by
      simp [State.record, State.enterOut_ru]
    have recordT : t.record u = (s.dutiful sender (some f.item) (.leave c)).takeDeferredExpiry.record u :=
      State.record_congr (congrArg RosterUnit.roster ru) u
    have recordV : v.record u = ((s.receiver (.leave c)).dutiful sender none (.leave c)).record u :=
      State.record_congr (congrArg RosterUnit.roster ru') u
    rw [recordT, out.record, silenced, recordV, taken.record]
    exact congrArg (fun r : RosterRecord => { r with silence := none }) (stays.record u).symm

end

end Sys2Proof.Machine
end

section
/-! PROOF. Where the items of the list come from (R112, R113, R118 to R121), for O45. -/

namespace Sys2Proof.Machine

/-! ## Items only go, or come with a new age -/

theorem withdrawnRecord_congr {x y : Item} (kind : x.kind = y.kind) : withdrawnRecord x = withdrawnRecord y := by
  simp only [withdrawnRecord, kind]

/-- Every item is one there was, in another class perhaps, or has a new age and is neither a claim nor a purge. -/
def State.Grows (s t : State) : Prop :=
  s.sq.nextAge ≤ t.sq.nextAge ∧
    ∀ y ∈ t.sq.items, (∃ z ∈ s.sq.items, z.age = y.age ∧ z.kind = y.kind) ∨ (s.sq.nextAge ≤ y.age ∧ withdrawnRecord y = none)

theorem State.Grows.of_subset {s t : State} (nextAge : t.sq.nextAge = s.sq.nextAge) (items : t.sq.items ⊆ s.sq.items) :
    s.Grows t :=
  ⟨nextAge.ge, fun y listed => .inl ⟨y, items listed, rfl, rfl⟩⟩

theorem State.Grows.of_sq {s t : State} (sq : t.sq = s.sq) : s.Grows t :=
  .of_subset (by rw [sq]) (by rw [sq]; exact List.Subset.refl _)

theorem State.Grows.trans {s t u : State} (h : s.Grows t) (h' : t.Grows u) : s.Grows u := by
  refine ⟨Nat.le_trans h.1 h'.1, fun y listed => ?_⟩
  rcases h'.2 y listed with ⟨z, hz, age, kind⟩ | ⟨young, other⟩
  · rcases h.2 z hz with ⟨w, hw, age', kind'⟩ | ⟨young, other⟩
    · exact .inl ⟨w, hw, age'.trans age, kind'.trans kind⟩
    · exact .inr ⟨age ▸ young, (withdrawnRecord_congr kind).symm.trans other⟩
  · exact .inr ⟨Nat.le_trans h.1 young, other⟩

theorem State.Grows.foldl {α : Type} {step : State → α → State} (each : ∀ (u : State) a, u.Grows (step u a)) (l : List α)
    (s : State) : s.Grows (l.foldl step s) :=
  List.foldlRecOn (motive := fun u => s.Grows u) l step (.of_sq rfl) fun u hu a _ => hu.trans (each u a)

theorem State.grows_enqueue (s : State) {kind : ItemKind} (other : ∀ cls age, withdrawnRecord ⟨kind, cls, age⟩ = none)
    (cls : Fin 4) : s.Grows (s.enqueue kind cls) := by
  refine ⟨Nat.le_succ _, fun y listed => ?_⟩
  rcases State.mem_enqueue.1 listed with rfl | there
  · exact .inr ⟨Nat.le_refl _, other _ _⟩
  · exact .inl ⟨y, there, rfl, rfl⟩

theorem State.grows_filter (s : State) (keep : Item → Bool) :
    s.Grows (s.onSq fun q => { q with items := q.items.filter keep }) :=
  .of_subset rfl fun _ listed => (List.mem_filter.1 listed).1

theorem State.grows_reclassPoint (s : State) (p : PointId) : s.Grows (s.reclassPoint p) := by
  refine ⟨Nat.le_refl _, fun y listed => .inl ?_⟩
  rw [State.reclassPoint, State.reclassItems_sq] at listed
  rcases mem_replaced.1 listed with ⟨x, there, -, rfl⟩ | ⟨there, -⟩
  · exact ⟨x, there, rfl, rfl⟩
  · exact ⟨y, there, rfl, rfl⟩

theorem State.grows_requestPresence (s : State) : s.Grows s.requestPresence := by
  unfold State.requestPresence
  split
  · exact .of_sq rfl
  · exact s.grows_enqueue (fun _ _ => rfl) _

theorem State.grows_requestAllLost (s : State) : s.Grows s.requestAllLost := by
  refine State.Grows.foldl (fun u t => ?_) _ s
  split
  · unfold State.requestLost
    split
    · exact .of_sq rfl
    · exact u.grows_enqueue (fun _ _ => rfl) _
  · exact .of_sq rfl

theorem State.grows_startSweep (s : State) : s.Grows s.startSweep := by
  have cursor : s.Grows (s.onRu fun r => { r with cursor := 0 }) := .of_sq rfl
  refine cursor.trans ?_
  unfold State.startSweep State.requestSnapshot
  split
  · exact .of_sq rfl
  · exact State.grows_enqueue _ (fun _ _ => rfl) _

theorem State.grows_queuePoint (s : State) (p : PointId) : s.Grows (s.queuePoint p) :=
  (s.grows_enqueue (fun _ _ => rfl) _).trans (.of_sq rfl)

theorem State.grows_announceCheck (s : State) (p : PointId) (forced : Bool) : s.Grows (s.announceCheck p forced) := by
  unfold State.announceCheck
  split
  · exact s.grows_queuePoint p
  · exact .of_sq rfl

theorem State.grows_reannounceAll (s : State) : s.Grows s.reannounceAll := by
  refine State.Grows.foldl (fun u p => ?_) _ s
  split
  · exact u.grows_queuePoint p
  · exact .of_sq rfl

theorem State.grows_settlePurged (old s : State) (n : Notice) : s.Grows (State.settlePurged old s n) := by
  unfold State.settlePurged
  cases n with
  | purge o =>
    dsimp only
    split
    · have reset : s.Grows (s.onPoints fun _ r => { r with pendingReminders := 0 }) := .of_sq rfl
      exact reset.trans (State.Grows.foldl State.grows_reclassPoint _ _)
    · exact .of_sq rfl
  | _ => exact .of_sq rfl

theorem State.grows_checkChanged (old s : State) : s.Grows (State.checkChanged old s) := by
  refine State.Grows.foldl (fun u p => ?_) _ s
  split
  · exact .of_sq rfl
  · exact u.grows_announceCheck p false

theorem State.grows_recoverFromLost (judged s : State) (n : Notice) : s.Grows (State.recoverFromLost judged s n) := by
  unfold State.recoverFromLost
  cases n with
  | lost p =>
    dsimp only
    split
    · exact s.grows_requestPresence.trans (State.grows_reannounceAll _)
    · exact .of_sq rfl
  | _ => exact .of_sq rfl

/-- An item that has left does not come back. -/
theorem State.Grows.gone {s t : State} (h : s.Grows t) {age : Nat} (young : age < s.sq.nextAge)
    (gone : ∀ y ∈ s.sq.items, y.age ≠ age) : ∀ y ∈ t.sq.items, y.age ≠ age := by
  intro y listed same
  rcases h.2 y listed with ⟨z, there, age, -⟩ | ⟨new, -⟩
  · exact gone z there (age.trans same)
  · exact absurd (Nat.lt_of_lt_of_le young new) (by rw [same]; exact Nat.lt_irrefl _)

/-- The point of the own item: its item leaves, or is placed anew with another age (R37, R118). -/
theorem State.grows_settlePoint {s : State} {x : Item} (list : s.ListOk (some x) []) {p : PointId} (own : x.kind = .point p) :
    s.Grows (s.settlePoint x p) ∧ ∀ y ∈ (s.settlePoint x p).sq.items, y.age ≠ x.age := by
  have young : x.age < s.sq.nextAge := list.flightYoung x rfl
  have reminder : ∀ u : State, (u.startReminder p).sq = u.sq := fun u => by simp
  unfold State.settlePoint
  dsimp only
  simp only [State.Grows, reminder]
  split
  · rename_i none
    refine ⟨State.Grows.of_sq (s := s) rfl, fun y listed same => ?_⟩
    have := List.find?_eq_none.1 none y listed
    simp [same] at this
  · rename_i y found
    have listed := List.mem_of_find?_eq_some found
    have same : y.age = x.age := by simpa using List.find?_some found
    have dropped : s.Grows (s.dropItem y) := s.grows_filter _
    have gone : ∀ z ∈ (s.dropItem y).sq.items, z.age ≠ x.age := by
      intro z listed
      have := (List.mem_filter.1 listed).2
      rwa [bne_iff_ne, same] at this
    split
    · have unqueued : (s.dropItem y).Grows ((s.dropItem y).onPoint p fun r => { r with queued := false }) := .of_sq rfl
      have next := unqueued.trans (State.grows_announceCheck _ p false)
      exact ⟨dropped.trans next, next.gone young gone⟩
    · have kind : y.kind = .point p := (list.own_kind listed same (by rw [own]; rfl)).trans own
      have next : (s.dropItem y).Grows (s.requeue y) := State.grows_enqueue _ (fun _ _ => by rw [kind]; rfl) _
      exact ⟨dropped.trans next, next.gone young gone⟩

theorem State.grows_settleOwnPoint {s : State} {x : Item} (list : s.ListOk (some x) []) : s.Grows (s.settleOwnPoint (some x)) ∧
    (x.kind.isPoint = true → ∀ y ∈ (s.settleOwnPoint (some x)).sq.items, y.age ≠ x.age) := by
  cases kind : x.kind with
  | point p =>
    simp only [State.settleOwnPoint, kind]
    exact ⟨(State.grows_settlePoint list kind).1, fun _ => (State.grows_settlePoint list kind).2⟩
  | _ =>
    simp only [State.settleOwnPoint, kind]
    exact ⟨.of_sq rfl, fun no => nomatch no⟩

/-! ## The frame of the own item taken -/

section
variable {s : State} (sound : s.Sound) {f : InFlight} (flight : s.lc.inFlight = some f) (sender : StationId) (n : Notice)
include sound flight

theorem State.Sound.flying : s.Settled (some f.item) := by simpa [flight] using sound.settled

/-- The state in which the own item is settled. -/
theorem State.listOk_applyFrame :
    (State.applyFrame s (s.begun (some f.item) n) sender (some f.item) n).ListOk (some f.item) [] :=
  ((((sound.flying flight).takeFrame (.inl rfl)).markOwnJoin (some f.item) n).applyFrame (old := s) sender n).list

theorem State.young_of_flight : f.item.age < s.sq.nextAge := (sound.flying flight).list.flightYoung f.item rfl

/-- Up to there nothing but a point's item goes, and the own point's item is gone where the frame is applied. -/
theorem State.grows_applyFrame : s.Grows (State.applyFrame s (s.begun (some f.item) n) sender (some f.item) n) ∧
    ((s.begun (some f.item) n).applies = true → f.item.kind.isPoint = true →
      ∀ y ∈ (State.applyFrame s (s.begun (some f.item) n) sender (some f.item) n).sq.items, y.age ≠ f.item.age) := by
  have begun : (s.begun (some f.item) n).Settled (some f.item) :=
    ((sound.flying flight).takeFrame (.inl rfl)).markOwnJoin (some f.item) n
  cases applies : (s.begun (some f.item) n).applies with
  | false =>
    rw [State.applyFrame_of_not sender applies]
    exact ⟨.of_sq (s.begun_frame (some f.item) n).2.2.2.1, fun no => nomatch no⟩
  | true =>
    rw [State.applyFrame_of_applies sender applies, State.settlePoints]
    have applied : (s.applied sender (some f.item) n).ListOk (some f.item) [] := (begun.applyCore sender n).list
    have sq : s.Grows (s.applied sender (some f.item) n) := .of_sq (by
      simp [State.applied, (s.judged_frame sender (some f.item) n).2.2.1])
    have list := ((applied.settlePurged (old := s) n).stopSettledReminders).checkChanged (old := s)
    have stopped : ∀ u : State, u.Grows u.stopSettledReminders := fun u => .of_sq (by simp)
    have grows := ((sq.trans (State.grows_settlePurged s _ n)).trans (stopped _)).trans (State.grows_checkChanged s _)
    obtain ⟨own, gone⟩ := State.grows_settleOwnPoint list
    have last : ∀ u : State, u.Grows (State.recoverFromLost (s.judged sender (some f.item) n) u n) := fun u =>
      State.grows_recoverFromLost _ u n
    exact ⟨(grows.trans own).trans (last _), fun _ point => (last _).gone
      (Nat.lt_of_lt_of_le (State.young_of_flight sound flight) (grows.trans own).1) (gone point)⟩

end

end Sys2Proof.Machine
end

section
/-! PROOF. From the frame taken to the end of the acceptance: list, line and OUTCOME records (R57, R114, R118, R121, R148), for
O45. -/

namespace Sys2Proof.Machine

/-! ## Operations that report what they remove -/

/-- The item is a claim or a purge of the subject `σ`. -/
def Item.concerns (x : Item) (σ : OutcomeSubject) : Prop := withdrawnRecord x = some (.outcome σ (.void .withdrawn none))

/-- No item of the list is of the subject `σ`. -/
def State.Clear (s : State) (σ : OutcomeSubject) : Prop := ∀ x ∈ s.sq.items, ¬x.concerns σ

theorem Item.concerns_congr {x y : Item} (kind : x.kind = y.kind) {σ : OutcomeSubject} (h : x.concerns σ) : y.concerns σ :=
  (withdrawnRecord_congr kind).symm.trans h

theorem withdrawnRecord_silent {x : Item} {σ : OutcomeSubject} (other : ¬x.concerns σ) :
    (withdrawnRecord x).toList.filter (Record.isOutcomeOf σ) = [] := by
  cases kind : x.kind with
  | claim i n => simpa [Item.concerns, withdrawnRecord, kind, Record.isOutcomeOf] using other
  | purge o => simpa [Item.concerns, withdrawnRecord, kind, Record.isOutcomeOf] using other
  | _ => simp [withdrawnRecord, kind]

theorem State.Grows.clear {s t : State} (h : s.Grows t) {σ : OutcomeSubject} (clear : s.Clear σ) : t.Clear σ := by
  intro y listed concerns
  rcases h.2 y listed with ⟨z, there, -, kind⟩ | ⟨-, none⟩
  · exact clear z there (Item.concerns_congr kind.symm concerns)
  · exact nomatch none.symm.trans concerns

theorem State.removalOutcomes_silent {s : State} {σ : OutcomeSubject} (clear : s.Clear σ) (k : ItemKind → Bool) :
    (s.removalOutcomes k).filter (Record.isOutcomeOf σ) = [] := by
  rw [State.removalOutcomes, List.filter_flatMap, List.flatMap_eq_nil_iff]
  intro x listed
  split
  · rfl
  · exact withdrawnRecord_silent (clear x (List.mem_filter.1 listed).1)

/-- What the rest of an acceptance does to list, line and records: items go or come, of claims and purges only those that the
list held are reported, and the line stands. -/
structure State.Onward (s t : State) : Prop where
  grows : s.Grows t
  reports : ∃ rs, s.Pushed t rs ∧ ∀ σ, s.Clear σ → rs.filter (Record.isOutcomeOf σ) = []
  line : s.lc.vetoCount = 0 → t.lc = s.lc
  mark : s.sq.returnPending = false → t.sq.returnPending = false

theorem State.Onward.trans {s t u : State} (h : s.Onward t) (h' : t.Onward u) : s.Onward u where
  grows := h.grows.trans h'.grows
  reports := by
    obtain ⟨rs, pushed, silent⟩ := h.reports
    obtain ⟨rs', pushed', silent'⟩ := h'.reports
    refine ⟨rs ++ rs', pushed.trans pushed', fun σ clear => ?_⟩
    rw [List.filter_append, silent σ clear, silent' σ (h.grows.clear clear), List.nil_append]
  line := fun vetoes => (h'.line (by rw [h.line vetoes, vetoes])).trans (h.line vetoes)
  mark := fun none => h'.mark (h.mark none)

/-- An operation that pushes no records and leaves the line. -/
theorem State.Onward.of_grows {s t : State} (grows : s.Grows t) (cs : t.cs = s.cs) (lp : t.lp = s.lp) (lc : t.lc = s.lc)
    (mark : t.sq.returnPending = s.sq.returnPending) : s.Onward t where
  grows := grows
  reports := ⟨[], .nothing cs lp, fun _ _ => rfl⟩
  line := fun _ => lc
  mark := fun none => mark.trans none

theorem State.Onward.refl (s : State) : s.Onward s := .of_grows (.of_sq rfl) rfl rfl rfl rfl

theorem State.Onward.onRu {s t : State} (h : s.Onward t) (g : RosterUnit → RosterUnit) : s.Onward (t.onRu g) :=
  h.trans (.of_grows (.of_sq rfl) rfl rfl rfl rfl)

theorem State.Onward.onEt {s t : State} (h : s.Onward t) (g : EventTable → EventTable) : s.Onward (t.onEt g) :=
  h.trans (.of_grows (.of_sq rfl) rfl rfl rfl rfl)

theorem State.Onward.onOu {s t : State} (h : s.Onward t) (g : OutputUnit → OutputUnit) : s.Onward (t.onOu g) :=
  h.trans (.of_grows (.of_sq rfl) rfl rfl rfl rfl)

theorem State.Onward.onPoints {s t : State} (h : s.Onward t) (g : PointId → PointRecord → PointRecord) :
    s.Onward (t.onPoints g) :=
  h.trans (.of_grows (.of_sq (by simp)) (by simp) (by simp) (by simp) (by simp))

theorem State.Onward.stopRuTimers {s t : State} (h : s.Onward t) : s.Onward t.stopRuTimers := h.onRu _

theorem State.Onward.stopSilence {s t : State} (h : s.Onward t) : s.Onward t.stopSilence := h.onRu _

theorem State.Onward.stopReminders {s t : State} (h : s.Onward t) : s.Onward t.stopReminders := h.onPoints _

theorem State.Onward.startPresenceTimer {s t : State} (h : s.Onward t) : s.Onward t.startPresenceTimer := h.onRu _

theorem State.Onward.enter {s t : State} (h : s.Onward t) (st : StationState) : s.Onward (t.enter st) :=
  h.trans ⟨.of_subset rfl (List.Subset.refl _), ⟨[], .nothing rfl rfl, fun _ _ => rfl⟩, fun _ => rfl, fun none => by
    simp [State.enter, none]⟩

theorem State.Onward.clearVetoes {s t : State} (h : s.Onward t) : s.Onward t.clearVetoes :=
  h.trans ⟨.of_sq rfl, ⟨[], .nothing rfl rfl, fun _ _ => rfl⟩, fun vetoes => by simp [State.clearVetoes, ← vetoes], id⟩

theorem State.Onward.removeItems {s t : State} (h : s.Onward t) (k : ItemKind → Bool) : s.Onward (t.removeItems k) :=
  h.trans ⟨.of_subset (by simp) (by simp), ⟨_, t.pushed_removeItems k, fun _ clear => State.removalOutcomes_silent clear k⟩,
    fun _ => by simp, fun none => by simpa using none⟩

/-- An operation on the list alone. -/
theorem State.Onward.relist {s t u : State} (h : s.Onward t) (grows : t.Grows u) (cs : u.cs = t.cs) (lp : u.lp = t.lp)
    (lc : u.lc = t.lc) (mark : u.sq.returnPending = t.sq.returnPending) : s.Onward u :=
  h.trans (.of_grows grows cs lp lc mark)

/-! ## The changes of own state (R121, R125, R136, R142, R146, R148, R156) -/

theorem State.Onward.startAttempt {s t : State} (h : s.Onward t) (m : JoinMode) (n : Nat) : s.Onward (t.startAttempt m n) := by
  have grows : ∀ u : State, u.Grows (u.replaceJoin m) := fun u =>
    (u.grows_filter fun x => !x.kind.isJoin).trans (State.grows_enqueue _ (fun _ _ => rfl) _)
  unfold State.startAttempt
  exact (h.onRu _).relist (grows _) rfl rfl rfl (State.replaceJoin_mark _ m)

theorem State.Onward.startJoinAttempt {s t : State} (h : s.Onward t) (n : Nat) : s.Onward (t.startJoinAttempt n) := by
  have cleared : s.Onward t.clearTable.clearRoster := (h.onEt _).onRu _
  exact cleared.startAttempt .join n

theorem State.Onward.enterOut {s t : State} (h : s.Onward t) (st : StationState) (reason : Option RefusalReason) :
    s.Onward (t.enterOut st reason) := by
  unfold State.enterOut
  exact ((((((h.enter st).removeItems _).stopRuTimers).stopSilence).stopReminders).clearVetoes).onRu _

theorem State.Onward.enterSyncing {s t : State} (h : s.Onward t) : s.Onward t.enterSyncing := by
  unfold State.enterSyncing
  exact (((((h.enter .syncing).removeItems _).stopRuTimers).stopReminders).onRu _).startPresenceTimer.startAttempt .resync 1

theorem State.Onward.fallToListening {s t : State} (h : s.Onward t) : s.Onward t.fallToListening := by
  unfold State.fallToListening
  exact (((((h.enter .listening).removeItems _).stopRuTimers).stopSilence).stopReminders).onRu _

theorem State.Onward.adoptOccurrences {s t : State} (h : s.Onward t) : s.Onward t.adoptOccurrences := by
  have adopted : t.Grows t.adoptOccurrences := by
    unfold State.adoptOccurrences
    exact State.Grows.trans (.of_sq (by simp)) (State.Grows.foldl State.grows_reclassPoint _ _)
  exact h.relist adopted (by simp) (by simp) (by simp) t.adoptOccurrences_mark

theorem State.Onward.complete {s t : State} (h : s.Onward t) (p : PresencePayload) : s.Onward (t.complete p) := by
  have adopted : s.Onward (t.adoptRoster p).adoptOccurrences := (h.onRu _).adoptOccurrences
  have cleared : ∀ {u : State}, s.Onward u → s.Onward u.clearJoinState := fun h => h.onRu _
  have withdrawn : ∀ {u : State} k, s.Onward u → s.Onward (u.withdraw k) := fun k h =>
    h.relist (State.grows_filter _ _) rfl rfl rfl rfl
  have presence : ∀ {u : State}, s.Onward u → s.Onward u.requestPresence := fun {u} h =>
    h.relist u.grows_requestPresence (by simp) (by simp) (by simp) (by unfold State.requestPresence; split <;> rfl)
  have announced : ∀ {u : State}, s.Onward u → s.Onward u.reannounceAll := fun {u} h =>
    h.relist u.grows_reannounceAll (by simp) (by simp) (by simp) u.reannounceAll_mark
  have reminded : ∀ {u : State}, s.Onward u → s.Onward u.startReminders := fun h => h.onPoints _
  have loaded : ∀ {u : State} (c : Word32), s.Onward u → s.Onward (u.push (.tableLoaded c)) := fun c h =>
    h.trans ⟨.of_sq rfl, ⟨_, State.pushed_push _ _, fun _ _ => rfl⟩, fun _ => rfl, id⟩
  unfold State.complete
  exact loaded _ (reminded (announced (presence (withdrawn _ (cleared
    (((adopted.onOu _).enter .member).stopRuTimers)))).startPresenceTimer))

theorem State.onward_settlePresence {old s : State} (elsewhere : old.inState .listening = false) (sender : StationId)
    (p : PresencePayload) : s.Onward (State.settlePresence old s sender p) := by
  have aligned : s.Onward s.alignFlashers := (State.Onward.refl s).onOu _
  exact State.settlePresence_cases elsewhere sender p (.refl s) aligned (fun _ => aligned.enterSyncing) fun _ => aligned.complete p

/-! ## The duties and the end of the attempt (R106, R138, R139, R148, R150) -/

theorem State.grows_takeDuties (old s : State) : s.Grows (State.takeDuties old s) := by
  unfold State.takeDuties
  extract_lets s1 s2
  have first : s.Grows s1 := by
    simp only [s1]
    split
    · exact s.grows_filter _
    · exact .of_sq rfl
  have second : s.Grows s2 := by
    simp only [s2]
    split
    · exact first.trans s1.grows_requestAllLost
    · exact first
  split
  · exact second.trans s2.grows_startSweep
  · exact second

theorem State.onward_takeDuties (old s : State) : s.Onward (State.takeDuties old s) :=
  .of_grows (State.grows_takeDuties old s) (by simp) (by simp) (by simp) (State.takeDuties_mark old s)

theorem State.onward_attemptFailed (s : State) : s.Onward s.attemptFailed := by
  unfold State.attemptFailed
  split
  · split
    · exact (State.Onward.refl s).startJoinAttempt _
    · exact (State.Onward.refl s).enterOut _ _
  · split
    · exact (State.Onward.refl s).startAttempt .resync _
    · exact (State.Onward.refl s).fallToListening
  all_goals exact .refl s

theorem State.onward_takeDeferredExpiry (s : State) : s.Onward s.takeDeferredExpiry := by
  unfold State.takeDeferredExpiry
  split
  · exact ((State.Onward.refl s).onRu _).trans (State.onward_attemptFailed _)
  · exact .refl s

theorem State.onward_close (old s : State) : s.Onward (State.close old s) where
  grows := .of_sq (by simp)
  reports := by
    refine ⟨_, State.pushed_close old s, fun σ _ => ?_⟩
    split <;> rfl
  line := fun _ => by simp
  mark := fun none => by simpa using none

/-- From the frame taken to the end of the acceptance of the own frame. -/
theorem State.onward_landed {s : State} (window : s.ru.state ≠ .listening) (sender : StationId) (x : Item) (n : Notice) :
    (s.taken sender (some x) n).Onward (s.landed sender x n) := by
  have elsewhere : s.inState .listening = false := by simpa [Bool.eq_false_iff, State.inState_iff] using window
  have moved : (s.taken sender (some x) n).Onward (s.moved sender (some x) n) := by
    cases n with
    | presence p => exact State.onward_settlePresence elsewhere sender p
    | leave c => exact (State.Onward.refl _).enterOut .offline none
    | _ => exact .refl _
  exact ((moved.trans (State.onward_takeDuties s _)).trans (State.onward_takeDeferredExpiry _)).trans (State.onward_close s _)

end Sys2Proof.Machine
end

section
/-! PROOF. The settling of the list at the own frame (R53 to R55, R118, R119, R152), for O45. -/

namespace Sys2Proof.Machine

/-! ## Which items leave -/

/-- Does the item leave the list when it is settled beside the own item `x`? -/
def State.drops (old s : State) (x y : Item) : Bool :=
  if x.age = y.age then
    match y.kind with
    | .point _ => false
    | .snapshot => !s.someRebuilding
    | .claim _ _ | .lost _ | .presence _ | .join _ | .leave _ | .purge _ => true
  else !(old.overtakenOutcome s y).isEmpty

theorem State.drops_congr {old s t : State} (cs : t.cs = s.cs) (et : t.et = s.et) (ru : t.ru = s.ru) (x y : Item) :
    old.drops t x y = old.drops s x y := by
  have record := State.record_congr (congrArg RosterUnit.roster ru)
  simp only [State.drops, State.someRebuilding, record, State.overtakenOutcome_congr cs (congrArg EventTable.table et)]

theorem State.settleOwn_items (old s : State) (y : Item) : (State.settleOwn old s y).sq.items =
    if (match y.kind with
      | .point _ => false
      | .snapshot => !s.someRebuilding
      | .claim _ _ | .lost _ | .presence _ | .join _ | .leave _ | .purge _ => true) = true
    then s.sq.items.filter fun z => z.age != y.age else s.sq.items := by
  unfold State.settleOwn
  cases y.kind with
  | snapshot =>
    cases s.someRebuilding <;> simp
  | _ => simp

theorem State.checkClaim_items_eq (old s : State) (y : Item) : (State.checkClaim old s y).sq.items =
    if (!(old.overtakenOutcome s y).isEmpty) = true then s.sq.items.filter fun z => z.age != y.age else s.sq.items := by
  unfold State.checkClaim State.overtakenOutcome
  cases y.kind with
  | claim i n =>
    dsimp only
    split
    · rfl
    · cases s.claimDecision i (s.entry i) n <;> simp
  | _ => rfl

theorem State.settleItem_items (old s : State) (x y : Item) : (State.settleItem old (some x) s y).sq.items =
    if old.drops s x y = true then s.sq.items.filter fun z => z.age != y.age else s.sq.items := by
  unfold State.settleItem State.drops
  dsimp only
  split
  · exact State.settleOwn_items old s y
  · exact State.checkClaim_items_eq old s y

theorem State.mem_settleItems {old s : State} {x z : Item} (l : List Item) : ∀
    {v : State}, v.cs = s.cs → v.et = s.et → v.ru = s.ru →
    (z ∈ (l.foldl (State.settleItem old (some x)) v).sq.items ↔
      z ∈ v.sq.items ∧ ∀ y ∈ l, old.drops s x y = true → z.age ≠ y.age) := by
  induction l with
  | nil => simp
  | cons y rest ih =>
    intro v cs et ru
    rw [List.foldl_cons, ih (by simpa using cs) (by simpa using et) (by simpa using ru), State.settleItem_items,
      State.drops_congr cs et ru]
    split
    · simp_all [and_assoc]
    · simp_all

/-- Of a list without two items of one age, the settling takes the items that it drops, no more. -/
theorem State.ListOk.mem_settleItems_own {flying : Option Item} {stale : List PointId} {s : State} (h : s.ListOk flying stale)
    (old : State) (x z : Item) : z ∈ (s.sq.items.foldl (State.settleItem old (some x)) s).sq.items ↔
      z ∈ s.sq.items ∧ old.drops s x z = false := by
  rw [State.mem_settleItems s.sq.items rfl rfl rfl]
  refine and_congr_right fun listed => ⟨fun kept => ?_, fun stays y there drops same => ?_⟩
  · by_contra dropped
    exact kept z listed (by simpa using dropped) rfl
  · rw [h.eq_of_age listed there same, drops] at stays
    exact nomatch stays

theorem State.settleRemoved_moveCursor_frame (old s : State) (own : Option Item) (n : Notice) :
    ((State.settleRemoved old s own).moveCursor own n).lc = s.lc ∧
      ((State.settleRemoved old s own).moveCursor own n).sq = s.sq ∧
      ((State.settleRemoved old s own).moveCursor own n).ru.roster = s.ru.roster := by
  have moved : ∀ u : State, (u.moveCursor own n).lc = u.lc ∧ (u.moveCursor own n).sq = u.sq ∧
      (u.moveCursor own n).ru.roster = u.ru.roster := by
    intro u
    unfold State.moveCursor
    split <;> exact ⟨rfl, rfl, rfl⟩
  obtain ⟨lc, sq, ru⟩ := moved (State.settleRemoved old s own)
  rw [lc, sq, ru]
  simp

/-- The items of the list after its settling at the own frame. -/
theorem State.ListOk.mem_settleQueue {s : State} {x : Item} {stale : List PointId} (h : s.ListOk (some x) stale)
    (quiet : s.lc.inFlight = none) (old : State) (sender : StationId) (n : Notice) (z : Item) :
    z ∈ (State.settleQueue old s sender (some x) n).sq.items ↔
      z ∈ s.sq.items ∧ old.drops s x z = false ∧ s.overtakes sender z.kind = false := by
  obtain ⟨lc, sq, roster⟩ := State.settleRemoved_moveCursor_frame old
    (s.sq.items.foldl (State.settleItem old (some x)) s) (some x) n
  have items := h.mem_settleItems_own old x z
  have folded := State.settleItems_ru old s (some x) s.sq.items
  have line := (State.settleItems_kept old s (some x) s.sq.items).1
  rw [State.settleQueue, State.mem_withdrawOvertaken (by rw [lc, line, quiet]),
    State.overtakes_congr (roster.trans (congrArg RosterUnit.roster folded)), sq, items, and_assoc]

theorem State.settleQueue_nextAge (old s : State) (sender : StationId) (own : Option Item) (n : Notice) :
    (State.settleQueue old s sender own n).sq.nextAge = s.sq.nextAge := by
  rw [State.settleQueue, State.withdrawOvertaken_nextAge,
    (State.settleRemoved_moveCursor_frame old _ own n).2.1, (State.settleItems_kept old s own s.sq.items).2]

theorem State.ListOk.grows_settleQueue {s : State} {x : Item} {stale : List PointId} (h : s.ListOk (some x) stale)
    (quiet : s.lc.inFlight = none) (old : State) (sender : StationId) (n : Notice) :
    s.Grows (State.settleQueue old s sender (some x) n) :=
  .of_subset (State.settleQueue_nextAge old s sender (some x) n) fun z listed =>
    ((h.mem_settleQueue quiet old sender n z).1 listed).1

/-- A PRESENCE item that is settled clears the mark, and nothing sets it again (R114). -/
theorem State.settleQueue_clearsMark {old s : State} {x y : Item} (listed : y ∈ s.sq.items) (same : y.age = x.age)
    (presence : y.kind.isPresence = true) (sender : StationId) (n : Notice) :
    (State.settleQueue old s sender (some x) n).sq.returnPending = false := by
  have item : ∀ (u : State) z, u.sq.returnPending = false → (State.settleItem old (some x) u z).sq.returnPending = false := by
    intro u z none
    unfold State.settleItem State.settleOwn State.checkClaim
    (repeat' split) <;> simp [none]
  have cleared : ∀ u : State, (State.settleItem old (some x) u y).sq.returnPending = false := by
    intro u
    cases kind : y.kind with
    | presence t => simp [State.settleItem, same, State.settleOwn, kind]
    | _ => simp [kind, ItemKind.isPresence] at presence
  have withdrawn : ∀ u : State, (u.withdrawOvertaken sender).sq.returnPending = u.sq.returnPending := by
    intro u
    unfold State.withdrawOvertaken
    dsimp only
    split <;> rfl
  obtain ⟨before, rest, split⟩ := List.append_of_mem listed
  rw [State.settleQueue, withdrawn, (State.settleRemoved_moveCursor_frame old _ (some x) n).2.1, split, List.foldl_append,
    List.foldl_cons]
  exact List.foldlRecOn (motive := fun u : State => u.sq.returnPending = false) rest _ (cleared _) fun u none z _ => item u z none

end Sys2Proof.Machine
end

section
/-! PROOF. The acceptance of the own frame, part by part: line, list, cursor and marks (R104, R107, R114, R118, R125, R147, R152),
for O45. -/

namespace Sys2Proof.Machine

/-! ## The frame applied -/

theorem State.begun_applies_of {s : State} (applies : s.applies = true) (x : Item) (n : Notice) :
    (s.begun (some x) n).applies = true := by
  obtain ⟨state, entryState, -⟩ := s.begun_standing (some x) n
  have joined : s.ru.ownJoin = true → (s.begun (some x) n).ru.ownJoin = true := fun yes => by
    rw [State.begun_ownJoin, yes, Bool.true_or]
  rw [State.applies_iff] at applies ⊢
  rw [state, entryState]
  exact applies.imp_right (Or.imp_right (Or.imp_right (Or.imp (And.imp_right joined)
    (And.imp_right (Or.imp_right (Or.imp_right (And.imp_right joined)))))))

/-- The frame of an item that is no point's leaves every older item that is no point's. -/
theorem State.keepsOlder_applyFrame_own (s : State) (sender : StationId) {x : Item} (n : Notice) (plain : x.kind.isPoint = false) :
    s.KeepsOlder (State.applyFrame s (s.begun (some x) n) sender (some x) n) := by
  have nothing : ∀ u : State, u.settleOwnPoint (some x) = u := by
    intro u
    unfold State.settleOwnPoint
    cases kind : x.kind with
    | point p => rw [kind] at plain; exact nomatch plain
    | _ => simp only [kind]
  cases applies : (s.begun (some x) n).applies with
  | true =>
    rw [State.applyFrame_of_applies sender applies, State.settlePoints, nothing]
    have applied : s.KeepsOlder (s.applied sender (some x) n) :=
      .of_sq (by simp [State.applied, (s.judged_frame sender (some x) n).2.2.1])
    exact (applied.trans (State.keepsOlder_settlePoints s _ n)).trans (State.keepsOlder_recoverFromLost _ _ n)
  | false =>
    rw [State.applyFrame_of_not sender applies]
    exact .of_sq (s.begun_frame (some x) n).2.2.2.1

/-! ## The line (R104, R107) -/

theorem State.taken_lc_own (s : State) (sender : StationId) (x : Item) (n : Notice) :
    ∃ c, (s.taken sender (some x) n).lc = { (s.takeFrame (some x)).lc with counters := c } ∧
      c.framesAccepted = bump s.lc.counters.framesAccepted := by
  have base : (s.takeFrame (some x)).lc.counters.framesAccepted = bump s.lc.counters.framesAccepted := by
    rw [State.takeFrame_lc]
  cases applies : (s.begun (some x) n).applies with
  | true =>
    have judged := (s.judged_frame sender (some x) n).2.2.2.2.2.1
    refine ⟨(s.applied sender (some x) n).lc.counters, ?_, ?_⟩
    · rw [(State.taken_frame sender applies).2.2.2.1, State.applied, State.applyKind_lc, judged]
    · rw [State.applied, State.applyKind_accepted, judged, base]
  | false => exact ⟨(s.takeFrame (some x)).lc.counters, (State.taken_frame_of_not sender applies).2.2.2.2.1, base⟩

theorem State.landed_line {s : State} (window : s.ru.state ≠ .listening) (sender : StationId) (x : Item) (n : Notice) :
    (s.landed sender x n).lc.inFlight = none ∧ (s.landed sender x n).lc.ltx = .released ∧ (s.landed sender x n).lc.vetoCount = 0 ∧
      (s.landed sender x n).lc.counters.framesAccepted = bump s.lc.counters.framesAccepted := by
  obtain ⟨c, taken, counted⟩ := s.taken_lc_own sender x n
  rw [State.takeFrame_lc] at taken
  rw [(State.onward_landed window sender x n).line (by rw [taken]; rfl), taken]
  exact ⟨rfl, rfl, rfl, counted⟩

/-! ## The list (R118, R152) -/

theorem State.quiet_applyFrame (s : State) (sender : StationId) (x : Item) (n : Notice) :
    (State.applyFrame s (s.begun (some x) n) sender (some x) n).lc.inFlight = none := by
  refine State.applyFrame_quiet ?_ sender (some x) n
  rw [(s.begun_frame (some x) n).2.2.2.2.2.2.1]
  exact State.takeFrame_quiet (.inl rfl)

theorem State.taken_someRebuilding (s : State) (sender : StationId) (x : Item) (n : Notice) :
    (s.taken sender (some x) n).someRebuilding =
      (State.applyFrame s (s.begun (some x) n) sender (some x) n).someRebuilding := by
  have moved : ∀ u : State, (u.moveCursor (some x) n).ru.roster = u.ru.roster := by
    intro u
    unfold State.moveCursor
    split <;> rfl
  have record := State.record_congr ((congrArg RosterUnit.roster (State.settleQueue_ru s
    (State.applyFrame s (s.begun (some x) n) sender (some x) n) sender (some x) n)).trans (moved _))
  simp only [State.taken_eq, State.someRebuilding, record]

section
variable {s : State} (sound : s.Sound) {f : InFlight} (flight : s.lc.inFlight = some f) (sender : StationId) (n : Notice)
include sound flight

theorem State.mem_taken_own (z : Item) : z ∈ (s.taken sender (some f.item) n).sq.items ↔
    z ∈ (State.applyFrame s (s.begun (some f.item) n) sender (some f.item) n).sq.items ∧
      s.drops (State.applyFrame s (s.begun (some f.item) n) sender (some f.item) n) f.item z = false ∧
      (State.applyFrame s (s.begun (some f.item) n) sender (some f.item) n).overtakes sender z.kind = false := by
  rw [State.taken_eq]
  exact (State.listOk_applyFrame sound flight sender n).mem_settleQueue (s.quiet_applyFrame sender f.item n) s sender n z

theorem State.grows_taken_own : s.Grows (s.taken sender (some f.item) n) := by
  rw [State.taken_eq]
  exact (State.grows_applyFrame sound flight sender n).1.trans ((State.listOk_applyFrame sound flight sender n).grows_settleQueue
    (s.quiet_applyFrame sender f.item n) s sender n)

/-- Of the own item the settling leaves a SNAPSHOT alone, while somebody rebuilds. -/
theorem State.own_taken (judges : s.applies = true ∨ f.item.kind.isPresence = true ∨ f.item.kind.isJoin = true) {y : Item}
    (listed : y ∈ (s.taken sender (some f.item) n).sq.items) (same : y.age = f.item.age) :
    f.item.kind = .snapshot ∧ (s.taken sender (some f.item) n).someRebuilding = true := by
  obtain ⟨there, stays, -⟩ := (State.mem_taken_own sound flight sender n y).1 listed
  have list := State.listOk_applyFrame sound flight sender n
  rw [State.taken_someRebuilding]
  rw [State.drops, if_pos same.symm] at stays
  rcases list.flight f.item rfl y there same with kind | ⟨presence, -⟩
  · rw [kind] at stays
    cases own : f.item.kind with
    | snapshot =>
      rw [own] at stays
      exact ⟨rfl, by simpa using stays⟩
    | point p =>
      have applies : s.applies = true := by simpa [own, ItemKind.isPresence, ItemKind.isJoin] using judges
      exact absurd same ((State.grows_applyFrame sound flight sender n).2 (State.begun_applies_of applies _ _)
        (by rw [own]; rfl) y there)
    | _ => simp [own] at stays
  · cases kind : y.kind with
    | presence t => simp [kind] at stays
    | _ => simp [kind, ItemKind.isPresence] at presence

theorem State.own_landed (judges : s.applies = true ∨ f.item.kind.isPresence = true ∨ f.item.kind.isJoin = true) {y : Item}
    (listed : y ∈ (s.landed sender f.item n).sq.items) (same : y.age = f.item.age) :
    f.item.kind = .snapshot ∧ (s.taken sender (some f.item) n).someRebuilding = true := by
  have young := Nat.lt_of_lt_of_le (State.young_of_flight sound flight) (State.grows_taken_own sound flight sender n).1
  rcases (State.onward_landed (sound.window flight) sender f.item n).grows.2 y listed with ⟨z, there, age, -⟩ | ⟨new, -⟩
  · exact State.own_taken sound flight sender n judges there (age.trans same)
  · exact absurd (same ▸ young) (Nat.not_lt.2 new)

/-! ## The end of the attempt without an expiry that waits -/

omit flight in
theorem State.answered_of_member (member : s.ru.state = .member) : s.ru.deferredExpiry = false := by
  obtain ⟨-, -, -, -, -, attempts, -⟩ := sound.settled.timers
  rw [member] at attempts
  exact (Bool.or_eq_false_iff.1 attempts).2

theorem State.landed_of_answered (answered : s.ru.deferredExpiry = false) :
    s.landed sender f.item n = State.close s (s.dutiful sender (some f.item) n) := by
  have still := ((sound.flying flight).dutiful sender n (.inl rfl)).answered answered
  rw [State.landed, State.takeDeferredExpiry_of_not still]

/-- At a MEMBER the changes of own state leave the state of every record. -/
theorem State.landed_record_state (member : s.ru.state = .member) (u : StationId) :
    ((s.landed sender f.item n).record u).state = ((s.taken sender (some f.item) n).record u).state := by
  rw [State.landed_of_answered sound flight sender n (State.answered_of_member sound member),
    State.record_congr (congrArg RosterUnit.roster (State.close_frame _ s).2.2.1), State.dutiful_eq,
    State.record_congr (State.takeDuties_roster s _)]
  have elsewhere : s.inState .listening = false := by simp [State.inState, member]
  cases n with
  | presence p =>
    refine State.settlePresence_cases (P := fun t : State =>
      (t.record u).state = ((s.taken sender (some f.item) (.presence p)).record u).state) elsewhere sender p rfl ?_ (fun _ => ?_)
      fun completes => ?_
    · exact congrArg RosterRecord.state (State.record_congr (by simp) u)
    · exact congrArg RosterRecord.state (State.record_congr (by simp [State.enterSyncing_ru]) u)
    · have attempts := State.attempts_of_appliesSegments (Bool.and_eq_true_iff.1 completes).1
      rw [member] at attempts
      exact nomatch attempts
  | leave c =>
    change (((s.taken sender (some f.item) (.leave c)).enterOut .offline none).record u).state = _
    simp [State.record, State.enterOut_ru]
  | _ => rfl

theorem State.landed_someRebuilding (member : s.ru.state = .member) :
    (s.landed sender f.item n).someRebuilding = (s.taken sender (some f.item) n).someRebuilding := by
  simp only [State.someRebuilding, State.landed_record_state sound flight sender n member]

end

end Sys2Proof.Machine
end

section
/-! PROOF. The own frame kind by kind: LEAVE, JOIN, PRESENCE and SNAPSHOT (R114, R125, R147, R150, R152), for O45. -/

namespace Sys2Proof.Machine

/-! ## Own state through the frame (R118) -/

theorem State.taken_control_own (s : State) (sender : StationId) (x : Item) {n : Notice} (other : ∀ p, n ≠ .snapshot p) :
    (s.begun (some x) n).ru.sameControl (s.taken sender (some x) n).ru := by
  cases applies : (s.begun (some x) n).applies with
  | true =>
    rw [(State.taken_frame sender applies).2.2.1]
    exact ((s.judged_control sender (some x) n).trans
      (State.applyKind_sameControl _ sender _ n fun p snapshot => absurd snapshot (other p))).trans
      (State.moveCursor_sameControl _ (some x) n)
  | false =>
    rw [(State.taken_frame_of_not sender applies).2.2.1]
    exact State.moveCursor_sameControl _ (some x) n

section
variable {s : State} (sound : s.Sound) {f : InFlight} (flight : s.lc.inFlight = some f) (sender : StationId)
include sound flight

theorem State.landed_sound (n : Notice) : (s.landed sender f.item n).Sound := sound.acceptFrame_own flight sender n

/-- The own LEAVE takes the station OFFLINE, and the list is empty there (R121, R125). -/
theorem State.landed_leave (c : Byte) : (s.landed sender f.item (.leave c)).ru.state = .offline ∧
    (s.landed sender f.item (.leave c)).sq.items = [] := by
  have dutiful : s.dutiful sender (some f.item) (.leave c) =
      State.takeDuties s ((s.taken sender (some f.item) (.leave c)).enterOut .offline none) := rfl
  have answered : (s.dutiful sender (some f.item) (.leave c)).ru.deferredExpiry = false := by
    rw [dutiful, State.takeDuties_deferred, State.enterOut_ru]
  have state : (s.landed sender f.item (.leave c)).ru.state = .offline := by
    rw [State.landed, State.takeDeferredExpiry_of_not answered, (State.close_frame _ s).2.2.1, dutiful,
      (State.takeDuties_sameControl s _).state, State.enterOut_ru]
  exact ⟨state, (State.landed_sound sound flight sender (.leave c)).settled.list.empty (by rw [state]; rfl)⟩

/-- The own JOIN sets its mark, and the attempt timer starts anew (R147). -/
theorem State.landed_join (p : JoinPayload) (rebuilds : s.ru.state = .joining ∨ s.ru.state = .syncing)
    (answered : s.ru.deferredExpiry = false) : (s.landed sender f.item (.join p)).ru.ownJoin = true ∧
      (s.landed sender f.item (.join p)).ru.attemptTimer = some (8 * s.presenceMs) := by
  have begun : (s.begun (some f.item) (.join p)).ru.ownJoin = true ∧
      (s.begun (some f.item) (.join p)).ru.attemptTimer = some (8 * s.presenceMs) := by
    have frame : (s.takeFrame (some f.item)).ru = s.ru ∧ (s.takeFrame (some f.item)).cs = s.cs := by simp
    have period : (s.takeFrame (some f.item)).presenceMs = s.presenceMs := by simp only [State.presenceMs, frame.2]
    unfold State.begun State.markOwnJoin
    rw [frame.1, period]
    rcases rebuilds with state | state <;> rw [state] <;> exact ⟨rfl, rfl⟩
  have control := (s.taken_control_own sender f.item (n := .join p) fun _ => Notice.noConfusion).trans
    (State.takeDuties_sameControl s (s.taken sender (some f.item) (.join p)))
  have dutiful : s.dutiful sender (some f.item) (.join p) = State.takeDuties s (s.taken sender (some f.item) (.join p)) := rfl
  rw [State.landed_of_answered sound flight sender (.join p) answered, (State.close_frame _ s).2.2.1, dutiful, control]
  exact begun

/-- The own PRESENCE clears the return presence mark (R114). -/
theorem State.landed_presence (n : Notice) (presence : f.item.kind.isPresence = true) {y : Item} (listed : y ∈ s.sq.items)
    (same : y.age = f.item.age) : (s.landed sender f.item n).sq.returnPending = false := by
  have plain : ∀ k : ItemKind, k.isPresence = true → k.isPoint = false := fun k yes => by
    cases k <;> simp_all [ItemKind.isPresence, ItemKind.isPoint]
  have kind : y.kind.isPresence = true := by
    rcases (sound.flying flight).list.flight f.item rfl y listed same with kind | ⟨kind, -⟩
    · rw [kind, presence]
    · exact kind
  have there := ((s.keepsOlder_applyFrame_own sender n (plain _ presence)).2 y ((sound.flying flight).list.young y listed)
    (plain _ kind)).2 listed
  refine (State.onward_landed (sound.window flight) sender f.item n).mark ?_
  rw [State.taken_eq]
  exact State.settleQueue_clearsMark there same kind sender n

end

/-! ## SNAPSHOT (R150, R152) -/

theorem State.isOwnReference_iff (s : State) : s.isOwnReference = true ↔
    s.ru.state = .member ∧ ∀ u < s.own, s.qualifies u = false := by
  rw [State.isOwnReference, beq_iff_eq, State.reference]
  constructor
  · intro named
    split at named
    · obtain ⟨own, below⟩ := find?_finRange_eq_some.1 named
      rw [State.qualifies, if_pos rfl] at own
      exact ⟨State.inState_iff.1 own, below⟩
    · exact nomatch named
  · rintro ⟨member, below⟩
    rw [if_pos (by rw [member]; rfl), find?_finRange_eq_some]
    exact ⟨by rw [State.qualifies, if_pos rfl]; exact State.inState_iff.2 member, below⟩

/-- The own SNAPSHOT leaves the records but for the news of its sender. -/
theorem State.taken_record_snapshot (s : State) (sender : StationId) (x : Item) (p : SnapshotPayload) (u : StationId) :
    ((s.taken sender (some x) (.snapshot p)).record u).state = (s.record u).state ∧
      (u ≠ sender → (s.taken sender (some x) (.snapshot p)).record u = s.record u) ∧
      ((s.record u).suspect = false → ((s.taken sender (some x) (.snapshot p)).record u).suspect = false) := by
  have moved : ∀ t : State, (t.moveCursor (some x) (.snapshot p)).ru.roster = t.ru.roster := fun _ => rfl
  cases applies : (s.begun (some x) (.snapshot p)).applies with
  | true =>
    have roster : (s.taken sender (some x) (.snapshot p)).ru.roster = (s.judged sender (some x) (.snapshot p)).ru.roster := by
      rw [(State.taken_frame sender applies).2.2.1, moved, State.applied, State.roster_applyKind]
      rfl
    rw [State.record_congr roster]
    refine ⟨s.judged_state sender (some x) (.snapshot p) u, fun other => ?_, fun trusted => ?_⟩
    · rw [State.judged_record, if_neg other]
    · rw [State.judged_record]
      split
      · rfl
      · exact trusted
  | false =>
    have roster : (s.taken sender (some x) (.snapshot p)).ru.roster = s.ru.roster := by
      rw [(State.taken_frame_of_not sender applies).2.2.1, moved, s.begun_roster]
    rw [State.record_congr roster]
    exact ⟨rfl, fun _ => rfl, id⟩

theorem State.taken_stationNumber (s : State) (sender : StationId) (x : Item) (n : Notice) :
    (s.taken sender (some x) n).own = s.own := by
  cases applies : (s.begun (some x) n).applies with
  | true => exact congrArg ConfigStore.stationNumber (State.taken_frame sender applies).1
  | false => exact congrArg ConfigStore.stationNumber (State.taken_frame_of_not sender applies).1

theorem State.qualifies_taken_snapshot (s : State) (sender : StationId) (x : Item) (p : SnapshotPayload) {u : StationId}
    (other : u ≠ s.own) : (s.qualifies u = true → (s.taken sender (some x) (.snapshot p)).qualifies u = true) ∧
      (u ≠ sender → (s.taken sender (some x) (.snapshot p)).qualifies u = s.qualifies u) := by
  obtain ⟨state, same, trusted⟩ := s.taken_record_snapshot sender x p u
  simp only [State.qualifies, s.taken_stationNumber sender x, if_neg other, Bool.and_eq_true, Bool.not_eq_true']
  refine ⟨fun ⟨present, clear⟩ => ⟨by rw [state]; exact present, trusted clear⟩, fun apart => by rw [same apart]⟩

/-- The own SNAPSHOT starts no sweep. -/
theorem State.sweeps_of_taken_snapshot {s : State} {sender : StationId} {x : Item} {p : SnapshotPayload}
    (sweeps : (s.taken sender (some x) (.snapshot p)).sweeps = true) : s.sweeps = true := by
  have state := (s.taken_standing sender (some x) (.snapshot p)).1
  have rebuilding : (s.taken sender (some x) (.snapshot p)).someRebuilding = s.someRebuilding := by
    simp only [State.someRebuilding, (s.taken_record_snapshot sender x p _).1]
  simp only [State.sweeps, Bool.and_eq_true, State.inState_iff, State.isOwnReference_iff, s.taken_stationNumber sender x,
    rebuilding, state] at sweeps ⊢
  obtain ⟨⟨member, -, below⟩, rebuilds⟩ := sweeps
  refine ⟨⟨member, member, fun u lower => ?_⟩, rebuilds⟩
  by_contra qualifies
  have := (s.qualifies_taken_snapshot sender x p (Fin.ne_of_lt lower)).1 (by simpa using qualifies)
  rw [below u lower] at this
  exact nomatch this

theorem State.taken_cursor (s : State) (sender : StationId) (x : Item) (p : SnapshotPayload) :
    (s.taken sender (some x) (.snapshot p)).ru.cursor = byteIndex (p.last + 1) := by
  rw [State.taken_eq, State.settleQueue_ru]
  rfl

theorem State.attemptFailed_cursor (s : State) : s.attemptFailed.ru.cursor = s.ru.cursor := by
  unfold State.attemptFailed
  split
  · split
    · rw [State.startJoinAttempt_ru]
    · rw [State.enterOut_ru]
  · split
    · rw [State.startResyncAttempt_ru]
    · rw [State.fallToListening_ru]
  all_goals rfl

theorem byteIndex_next (b : Byte) : (byteIndex (b + 1)).1 = (b.toNat + 1) % 256 := by
  simp [byteIndex, BitVec.toNat_add]

theorem State.landed_cursor (s : State) (sender : StationId) (x : Item) (p : SnapshotPayload) :
    (s.landed sender x (.snapshot p)).ru.cursor.1 = (p.last.toNat + 1) % 256 := by
  have dutiful : s.dutiful sender (some x) (.snapshot p) = State.takeDuties s (s.taken sender (some x) (.snapshot p)) := rfl
  have quiet : (!s.sweeps && (s.taken sender (some x) (.snapshot p)).sweeps) = false := by
    cases after : (s.taken sender (some x) (.snapshot p)).sweeps with
    | false => exact Bool.and_false _
    | true => rw [State.sweeps_of_taken_snapshot after]; rfl
  have cursor : (s.dutiful sender (some x) (.snapshot p)).ru.cursor = byteIndex (p.last + 1) := by
    rw [dutiful, State.takeDuties_ru, quiet, if_neg Bool.false_ne_true, State.taken_cursor]
  have ended : ∀ t : State, t.takeDeferredExpiry.ru.cursor = t.ru.cursor := by
    intro t
    unfold State.takeDeferredExpiry
    split
    · rw [State.attemptFailed_cursor]
      rfl
    · rfl
  rw [State.landed, (State.close_frame _ s).2.2.1, ended, cursor, byteIndex_next]

section
variable {s : State} (sound : s.Sound) {f : InFlight} (flight : s.lc.inFlight = some f)
include sound flight

/-- The own SNAPSHOT of a MEMBER stays while somebody rebuilds (R118, R152). -/
theorem State.landed_snapshot_stays (p : SnapshotPayload) (own : f.item.kind = .snapshot) (member : s.ru.state = .member)
    (rebuilds : (s.landed s.own f.item (.snapshot p)).someRebuilding = true) {y : Item} (listed : y ∈ s.sq.items)
    (same : y.age = f.item.age) : y ∈ (s.landed s.own f.item (.snapshot p)).sq.items := by
  have list := (sound.flying flight).list
  have kind : y.kind = .snapshot := (list.own_kind listed same (by rw [own]; rfl)).trans own
  have plain : y.kind.isPoint = false := by rw [kind]; rfl
  have older := s.keepsOlder_applyFrame_own s.own (.snapshot p) (x := f.item) (by rw [own]; rfl)
  have rebuilding := (State.landed_someRebuilding sound flight s.own (.snapshot p) member).symm.trans rebuilds
  have frame := rebuilding
  rw [State.taken_someRebuilding] at frame
  have taken : y ∈ (s.taken s.own (some f.item) (.snapshot p)).sq.items := by
    refine (State.mem_taken_own sound flight s.own (.snapshot p) y).2 ⟨(older.2 y (list.young y listed) plain).2 listed, ?_, ?_⟩
    · simp [State.drops, same, kind, frame]
    · simp [State.overtakes, kind, frame]
  have reference : s.isOwnReference = true → (s.taken s.own (some f.item) (.snapshot p)).isOwnReference = true := by
    simp only [State.isOwnReference_iff, s.taken_stationNumber, (s.taken_standing s.own (some f.item) (.snapshot p)).1]
    rintro ⟨member, below⟩
    refine ⟨member, fun u lower => ?_⟩
    rw [(s.qualifies_taken_snapshot s.own f.item p (Fin.ne_of_lt lower)).2 (Fin.ne_of_lt lower), below u lower]
  have keeps : s.ceases (s.taken s.own (some f.item) (.snapshot p)) = false := by
    cases before : s.isOwnReference with
    | false => simp [State.ceases, before]
    | true => simp [State.ceases, reference before]
  have young : y.age < (s.taken s.own (some f.item) (.snapshot p)).sq.nextAge :=
    Nat.lt_of_lt_of_le (list.young y listed) (State.grows_taken_own sound flight s.own (.snapshot p)).1
  have dutiful : s.dutiful s.own (some f.item) (.snapshot p) =
      State.takeDuties s (s.taken s.own (some f.item) (.snapshot p)) := rfl
  rw [State.landed_of_answered sound flight s.own (.snapshot p) (State.answered_of_member sound member),
    (State.close_frame _ s).2.2.2.2.1, dutiful,
    State.mem_takeDuties (State.taken_quiet s.own (.snapshot p) (.inl rfl)) young plain]
  exact ⟨taken, fun ceased => by rw [keeps] at ceased; exact nomatch ceased.1⟩

end

end Sys2Proof.Machine
end

section
/-! PROOF. The OUTCOME of the own claim or purge (R18, R20, R49, R53, R54, R57, R120), for O45. -/

namespace Sys2Proof.Machine

/-! ## The result -/

theorem State.claimOutcome_won_iff (s : State) (i : EntryIndex) (e : Entry) (n : Byte) :
    s.claimOutcome i e n = .won s.cs.stationNumber ↔
      e.occurrence = n ∧ s.entryAckNone e = false ∧ e.acknowledger = none ∧ (e.phase = .raised ∨ e.phase = .lapsed) := by
  rw [← s.claimDecision_wins_iff i e n, State.claimOutcome]
  cases s.claimDecision i e n with
  | wins => simp [State.own]
  | void r => simp

/-- A claim gets the first case of R49 that its entry matches, with the winner (R53). -/
theorem State.claimOutcome_isResult (s : State) (i : EntryIndex) (e : Entry) (n : Byte) :
    s.isClaimResult e n (s.claimOutcome i e n) := by
  refine ⟨fun other => ?_, fun same none => ?_, fun same some a acked => ?_, fun same some unacked =>
    ⟨fun quiet => ?_, fun pending => ?_, fun held won => ?_⟩⟩
  · simp [State.claimOutcome, State.claimDecision, other, voidWinner]
  · simp [State.claimOutcome, State.claimDecision, same, none, voidWinner]
  · simp [State.claimOutcome, State.claimDecision, same, some, acked, voidWinner]
  · simp [State.claimOutcome, State.claimDecision, same, some, unacked, quiet, voidWinner]
  · exact (s.claimOutcome_won_iff i e n).2 ⟨same, some, unacked, pending⟩
  · obtain ⟨-, -, -, pending⟩ := (s.claimOutcome_won_iff i e n).1 won
    rw [held] at pending
    exact pending.elim (fun no => nomatch no) fun no => nomatch no

theorem State.purgeOutcome_eq (s : State) (o : StationId) : s.purgeOutcome o =
    if (s.record o).state = .lost ∨ (s.record o).state = .left ∨ (s.record o).state = .absent then .done
    else .void .originPresent none := by
  simp only [State.purgeOutcome, RosterState.gone_iff]

/-! ## The records of the list -/

theorem State.ownOutcome_congr (old : State) {x y : Item} (kind : x.kind = y.kind) : old.ownOutcome x = old.ownOutcome y := by
  simp only [State.ownOutcome, kind]

theorem State.ownOutcome_of_concerns (old : State) {x : Item} {σ : OutcomeSubject} (concerns : x.concerns σ) :
    (old.ownOutcome x).filter (Record.isOutcomeOf σ) = old.ownOutcome x := by
  unfold Item.concerns withdrawnRecord at concerns
  unfold State.ownOutcome
  cases kind : x.kind <;> simp_all [Record.isOutcomeOf]

/-- An item of another subject pushes no OUTCOME of this one. -/
theorem State.itemOutcome_silent (old s : State) (own : Option Item) {y : Item} {σ : OutcomeSubject} (other : ¬y.concerns σ) :
    (old.itemOutcome s own y).filter (Record.isOutcomeOf σ) = [] := by
  have settled : (old.ownOutcome y).filter (Record.isOutcomeOf σ) = [] := by
    cases kind : y.kind with
    | claim i n => simpa [State.ownOutcome, kind, Item.concerns, withdrawnRecord, Record.isOutcomeOf] using other
    | purge o => simpa [State.ownOutcome, kind, Item.concerns, withdrawnRecord, Record.isOutcomeOf] using other
    | _ => simp [State.ownOutcome, kind]
  have overtaken : (old.overtakenOutcome s y).filter (Record.isOutcomeOf σ) = [] := by
    cases kind : y.kind with
    | claim i n =>
      have apart : OutcomeSubject.claim i ≠ σ := by simpa [kind, Item.concerns, withdrawnRecord] using other
      simp only [State.overtakenOutcome, kind]
      split
      · rfl
      · split <;> simp [Record.isOutcomeOf, apart]
    | _ => simp [State.overtakenOutcome, kind]
  unfold State.itemOutcome
  split
  · split
    · exact settled
    · exact overtaken
  · exact overtaken

theorem State.itemOutcome_of_own (old s : State) {x y : Item} (same : y.age = x.age) (kind : y.kind = x.kind) :
    old.itemOutcome s (some x) y = old.ownOutcome x := by
  simp only [State.itemOutcome, if_pos same.symm, old.ownOutcome_congr kind]

/-- Where one element alone yields anything, a `flatMap` yields what it does. -/
theorem flatMap_of_unique {α β : Type} {g : α → List β} {a : α} {l : List α} (nodup : l.Nodup) (listed : a ∈ l)
    (others : ∀ b ∈ l, b ≠ a → g b = []) : l.flatMap g = g a := by
  obtain ⟨before, rest, rfl⟩ := List.append_of_mem listed
  obtain ⟨-, apart, disjoint⟩ := List.nodup_append.1 nodup
  have before_nil : before.flatMap g = [] := List.flatMap_eq_nil_iff.2 fun b there =>
    others b (List.mem_append_left _ there) (disjoint b there a List.mem_cons_self)
  have rest_nil : rest.flatMap g = [] := List.flatMap_eq_nil_iff.2 fun b there =>
    others b (List.mem_append_right _ (List.mem_cons_of_mem a there)) fun same => (List.nodup_cons.1 apart).1 (same ▸ there)
  simp [before_nil, rest_nil]

section
variable {s : State} (sound : s.Sound) {f : InFlight} (flight : s.lc.inFlight = some f) (sender : StationId) (n : Notice)
  {σ : OutcomeSubject} (concerns : f.item.concerns σ)
include sound flight concerns

/-- An own claim or purge that the list held is in it when the list is settled. -/
theorem State.own_stays {y : Item} (listed : y ∈ s.sq.items) (same : y.age = f.item.age) : y.kind = f.item.kind ∧
    y ∈ (State.applyFrame s (s.begun (some f.item) n) sender (some f.item) n).sq.items := by
  have plain : f.item.kind.isPoint = false ∧ f.item.kind.isPresence = false := by
    unfold Item.concerns withdrawnRecord at concerns
    cases kind : f.item.kind <;> simp_all [ItemKind.isPoint, ItemKind.isPresence]
  have list := (sound.flying flight).list
  have kind := list.own_kind listed same plain.2
  exact ⟨kind, ((s.keepsOlder_applyFrame_own sender n plain.1).2 y (list.young y listed) (by rw [kind]; exact plain.1)).2 listed⟩

theorem State.ownOutcome_pushed : s.ownOutcome f.item ⊆
    s.queueOutcomes (State.applyFrame s (s.begun (some f.item) n) sender (some f.item) n) (some f.item) := by
  intro r pushed
  by_cases held : s.sq.items.any (fun y => y.age == f.item.age) = true
  · obtain ⟨y, listed, same⟩ := List.any_eq_true.1 held
    have same : y.age = f.item.age := by simpa using same
    obtain ⟨kind, there⟩ := State.own_stays sound flight sender n concerns listed same
    refine List.mem_append_left _ (List.mem_flatMap.2 ⟨y, there, ?_⟩)
    rwa [State.itemOutcome_of_own s _ same kind]
  · refine List.mem_append_right _ ?_
    simpa only [if_neg held] using pushed

omit sound flight concerns in
/-- An item of the subject is the own one, where the list held no other. -/
theorem State.own_unique (only : ∀ y ∈ s.sq.items, y.concerns σ → y.age = f.item.age) {t : State} (grows : s.Grows t) {y : Item}
    (listed : y ∈ t.sq.items) (about : y.concerns σ) : y.age = f.item.age ∧ ∃ z ∈ s.sq.items, z.age = f.item.age := by
  rcases grows.2 y listed with ⟨z, there, age, kind⟩ | ⟨-, none⟩
  · have same := only z there (Item.concerns_congr kind.symm about)
    exact ⟨age.symm.trans same, z, there, same⟩
  · exact nomatch none.symm.trans about

theorem State.queueOutcomes_of_own (only : ∀ y ∈ s.sq.items, y.concerns σ → y.age = f.item.age) :
    (s.queueOutcomes (State.applyFrame s (s.begun (some f.item) n) sender (some f.item) n) (some f.item)).filter
      (Record.isOutcomeOf σ) = s.ownOutcome f.item := by
  have grows := (State.grows_applyFrame sound flight sender n).1
  have list := State.listOk_applyFrame sound flight sender n
  rw [State.queueOutcomes, List.filter_append, List.filter_flatMap]
  by_cases held : s.sq.items.any (fun y => y.age == f.item.age) = true
  · obtain ⟨y, listed, same⟩ := List.any_eq_true.1 held
    have same : y.age = f.item.age := by simpa using same
    obtain ⟨kind, there⟩ := State.own_stays sound flight sender n concerns listed same
    have others : ∀ z ∈ (State.applyFrame s (s.begun (some f.item) n) sender (some f.item) n).sq.items, z ≠ y →
        (s.itemOutcome (State.applyFrame s (s.begun (some f.item) n) sender (some f.item) n) (some f.item) z).filter
          (Record.isOutcomeOf σ) = [] := fun z here other =>
      State.itemOutcome_silent s _ _ fun about => other (list.eq_of_age here there
        ((State.own_unique only grows here about).1.trans same.symm))
    rw [flatMap_of_unique list.nodup there others, State.itemOutcome_of_own s _ same kind, s.ownOutcome_of_concerns concerns]
    simp only [if_pos held, List.filter_nil, List.append_nil]
  · have nothing : ∀ z ∈ (State.applyFrame s (s.begun (some f.item) n) sender (some f.item) n).sq.items,
        (s.itemOutcome (State.applyFrame s (s.begun (some f.item) n) sender (some f.item) n) (some f.item) z).filter
          (Record.isOutcomeOf σ) = [] := fun z here =>
      State.itemOutcome_silent s _ _ fun about => held (by
        obtain ⟨w, there, same⟩ := (State.own_unique only grows here about).2
        exact List.any_eq_true.2 ⟨w, there, by simpa using same⟩)
    rw [List.flatMap_eq_nil_iff.2 nothing]
    simp only [if_neg held, List.nil_append]
    exact s.ownOutcome_of_concerns concerns

/-! ## The records of the acceptance -/

omit sound flight concerns in
theorem State.pushed_taken_own (s : State) (sender : StationId) (x : Item) (n : Notice) : ∃ rs, rs.filter Record.isReport = rs ∧
    s.Pushed (s.taken sender (some x) n)
      (rs ++ s.queueOutcomes (State.applyFrame s (s.begun (some x) n) sender (some x) n) (some x)) := by
  cases applies : (s.begun (some x) n).applies with
  | true => exact ⟨_, State.kindRecords_isReport _ sender n, State.pushed_taken sender applies⟩
  | false =>
    have begun : s.Pushed (s.begun (some x) n) [] :=
      .nothing (s.begun_frame (some x) n).1 (s.begun_frame (some x) n).2.2.2.2.2.1
    refine ⟨[], rfl, ?_⟩
    rw [State.taken_eq, State.applyFrame_of_not sender applies]
    exact begun.trans (State.pushed_settleQueue s _ sender _ n)

omit sound flight concerns in
theorem Record.isOutcomeOf_of_reports {rs : List Record} (reports : rs.filter Record.isReport = rs) (σ : OutcomeSubject) :
    rs.filter (Record.isOutcomeOf σ) = [] := by
  refine List.filter_eq_nil_iff.2 fun r listed outcome => ?_
  have report := List.filter_eq_self.1 reports r listed
  cases r <;> simp [Record.isReport, Record.isOutcomeOf] at report outcome

omit concerns in
/-- The records of the own acceptance hold the OUTCOME of the own item, and no other of its subject where the list holds none. -/
theorem State.landed_outcome (judges : s.applies = true ∨ f.item.kind.isPresence = true ∨ f.item.kind.isJoin = true) :
    ∃ rs, s.Pushed (s.landed sender f.item n) rs ∧ ∀ σ, f.item.concerns σ → s.ownOutcome f.item ⊆ rs ∧
      ((∀ y ∈ s.sq.items, y.concerns σ → y.age = f.item.age) → rs.filter (Record.isOutcomeOf σ) = s.ownOutcome f.item) := by
  obtain ⟨reports, kinds, taken⟩ := s.pushed_taken_own sender f.item n
  obtain ⟨rest, onward, silent⟩ := (State.onward_landed (sound.window flight) sender f.item n).reports
  refine ⟨_, taken.trans onward, fun σ concerns => ⟨fun r own => List.mem_append_left _ (List.mem_append_right _
    (State.ownOutcome_pushed sound flight sender n concerns own)), fun only => ?_⟩⟩
  have clear : (s.taken sender (some f.item) n).Clear σ := by
    intro y listed about
    obtain ⟨same, -⟩ := State.own_unique only (State.grows_taken_own sound flight sender n) listed about
    have snapshot := (State.own_taken sound flight sender n judges listed same).1
    rw [Item.concerns, withdrawnRecord, snapshot] at concerns
    exact nomatch concerns
  rw [List.filter_append, List.filter_append, Record.isOutcomeOf_of_reports kinds, silent σ clear,
    State.queueOutcomes_of_own sound flight sender n concerns only, List.nil_append, List.append_nil]

end

end Sys2Proof.Machine
end

section
/-! PROOF. The own frame settles its item, put together from the parts of its acceptance: O45. -/

namespace Sys2Proof.Machine

section
variable {s : State} (sound : s.Sound) {f : InFlight} (flight : s.lc.inFlight = some f) (sender : StationId)
include sound flight

/-- The sender applies its own frame as a receiver in the same state does (R102, R103). -/
theorem State.landed_asReceiver (on : s.lc.receiverOn = true) (n : Notice)
    (retries : s.ru.deferredExpiry = false ∨ (s.ru.state = .syncing ∧ s.ru.attempt < 3)) :
    ∃ v, exec (acceptanceOf sender n) (s.receiver n) = .next v ∧ (s.landed sender f.item n).et = v.et ∧
      (s.landed sender f.item n).lc.counters = v.lc.counters ∧
      ((∀ c, n ≠ .leave c) → (s.landed sender f.item n).ou = v.ou ∧
        (∀ u : StationId, (s.landed sender f.item n).record u = v.record u) ∧
        ∀ q : PointId, f.item.kind ≠ .point q → (s.landed sender f.item n).point q = v.point q) ∧
      (∀ c, n = .leave c → ∀ u : StationId, (s.landed sender f.item n).record u = { v.record u with silence := none }) ∧
      ((s.landed sender f.item n).lp.marker = none → v.lp.marker = none →
        (s.landed sender f.item n).lp.records.filter Record.isReport = v.lp.records.filter Record.isReport) := by
  have defers : s.DefersRetry := fun due => retries.resolve_left (by simp [due])
  have shared : (s.landed sender f.item n).et = ((s.receiver n).foreign sender n).et ∧
      (s.landed sender f.item n).lc.counters = ((s.receiver n).foreign sender n).lc.counters := by
    by_cases leaves : ∃ c, n = .leave c
    · obtain ⟨c, rfl⟩ := leaves
      obtain ⟨et, counters, -⟩ := State.leave_landed sound flight defers sender c
      exact ⟨et, counters⟩
    · have twin := State.twin_landed sound flight defers sender fun c same => leaves ⟨c, same⟩
      exact ⟨twin.shares.et, twin.shares.counters⟩
  refine ⟨_, State.receives_run (State.receiver_receives on n) sender n, shared.1, shared.2, fun stays => ?_, ?_,
    fun room room' => ?_⟩
  · have twin := State.twin_landed sound flight defers sender stays
    exact ⟨twin.shares.ou, twin.shares.record, twin.point⟩
  · rintro c rfl
    exact (State.leave_landed sound flight defers sender c).2.2
  · obtain ⟨rs, rs', pushed, pushed', alike⟩ := State.reports_landed sound flight defers sender n
    rw [pushed.records room, pushed'.records room', List.filter_append, List.filter_append, alike]
    rfl

end

/-- The OUTCOME of an own claim or purge, of its kind (R18, R20, R49, R53, R54). -/
theorem State.landed_results {s : State} (sound : s.Sound) {f : InFlight} (flight : s.lc.inFlight = some f) (sender : StationId)
    (n : Notice) (judges : s.applies = true ∨ f.item.kind.isPresence = true ∨ f.item.kind.isJoin = true) :
    ∃ rs, s.Pushed (s.landed sender f.item n) rs ∧
      (∀ i occ, f.item.kind = .claim i occ → .outcome (.claim i) (s.claimOutcome i (s.entry i) occ) ∈ rs ∧
        ((∀ y ∈ s.sq.items, y.kind.isClaimOf i = true → y.age = f.item.age) →
          rs.filter (Record.isOutcomeOf (.claim i)) = [.outcome (.claim i) (s.claimOutcome i (s.entry i) occ)])) ∧
      (∀ o, f.item.kind = .purge o → .outcome (.purge o) (s.purgeOutcome o) ∈ rs ∧
        ((∀ y ∈ s.sq.items, y.kind.isPurge = true → y.age = f.item.age) →
          rs.filter (Record.isOutcomeOf (.purge o)) = [.outcome (.purge o) (s.purgeOutcome o)])) := by
  obtain ⟨rs, pushed, outcome⟩ := State.landed_outcome sound flight sender n judges
  refine ⟨rs, pushed, fun i occ kind => ?_, fun o kind => ?_⟩
  · have own : s.ownOutcome f.item = [.outcome (.claim i) (s.claimOutcome i (s.entry i) occ)] := by rw [State.ownOutcome, kind]
    obtain ⟨held, unique⟩ := outcome (.claim i) (by rw [Item.concerns, withdrawnRecord, kind])
    rw [own] at held unique
    refine ⟨held List.mem_cons_self, fun only => unique fun y listed about => only y listed ?_⟩
    unfold Item.concerns withdrawnRecord at about
    cases other : y.kind <;> simp_all [ItemKind.isClaimOf]
  · have own : s.ownOutcome f.item = [.outcome (.purge o) (s.purgeOutcome o)] := by rw [State.ownOutcome, kind]
    obtain ⟨held, unique⟩ := outcome (.purge o) (by rw [Item.concerns, withdrawnRecord, kind])
    rw [own] at held unique
    refine ⟨held List.mem_cons_self, fun only => unique fun y listed about => only y listed ?_⟩
    unfold Item.concerns withdrawnRecord at about
    cases other : y.kind <;> simp_all [ItemKind.isPurge]

/-- Settles O45: `State.landed`, the state that the own acceptance ends in, clause by clause. -/
theorem ownFrameSettlesItsItem : Obligations.OwnFrameSettlesItsItem := by
  intro s f n sound on flight kind judges
  obtain ⟨quiet, released, vetoes, counted⟩ := State.landed_line (sound.window flight) f.frame.sender f.item f.frame.notice
  refine ⟨_, State.landed_run on flight kind, quiet, released, vetoes, counted, fun y listed same => ?_,
    fun own snapshot station member rebuilds y listed same => ?_, fun retries => ?_, fun c leave => ?_,
    fun p join rebuilds answered => ?_, fun p snapshot => ?_, fun presence held => ?_, fun room => ?_⟩
  · obtain ⟨snapshot, rebuilds⟩ := State.own_landed sound flight f.frame.sender f.frame.notice judges listed same
    refine ⟨snapshot, fun member => (State.someoneRebuilds_iff _).2 ?_⟩
    rwa [State.landed_someRebuilding sound flight f.frame.sender f.frame.notice member]
  · obtain ⟨p, snapshot⟩ := snapshot
    rw [State.someoneRebuilds_iff] at rebuilds
    rw [snapshot, station] at rebuilds ⊢
    exact State.landed_snapshot_stays sound flight p own member rebuilds listed same
  · intro joins receiver
    have same : receiver = s.receiver f.frame.notice := by
      have marked : joins = s.joins f.frame.notice := by
        simp only [joins]
        cases f.frame.notice <;> rfl
      simp only [receiver, marked, State.receiver]
    rw [same]
    exact State.landed_asReceiver sound flight f.frame.sender on f.frame.notice retries
  · rw [leave]
    exact State.landed_leave sound flight f.frame.sender c
  · rw [join]
    exact State.landed_join sound flight f.frame.sender p rebuilds answered
  · rw [snapshot]
    exact State.landed_cursor s f.frame.sender f.item p
  · obtain ⟨y, listed, same⟩ := held
    exact State.landed_presence sound flight f.frame.sender f.frame.notice presence listed same
  · obtain ⟨rs, pushed, claim, purge⟩ := State.landed_results sound flight f.frame.sender f.frame.notice judges
    refine ⟨rs, pushed.records room, fun i occ own => ⟨_, (claim i occ own).1, s.claimOutcome_won_iff i (s.entry i) occ⟩,
      fun i occ own only => ⟨_, (claim i occ own).2 only, s.claimOutcome_isResult i (s.entry i) occ⟩, fun o own => ?_,
      fun o own only => ?_⟩
    · refine ⟨_, (purge o own).1, ?_⟩
      rw [State.purgeOutcome_eq]
      split <;> simp_all
    · rw [(purge o own).2 only, State.purgeOutcome_eq]

end Sys2Proof.Machine
end

section
/-! PROOF. The millisecond that passes on an empty queue, and the points between frames: the input sample, qualification, the
soft points, the reminder expiry (R28, R30 to R35, R41, R42), for O2, O13, O19, O20 and O21. -/

namespace Sys2Proof.Machine

/-! ## One millisecond -/

/-- Settles O2: `step` on an empty queue is `State.tick`, block by block. -/
theorem emptyQueueLetsOneMillisecondPass : Obligations.EmptyQueueLetsOneMillisecondPass := by
  intro s empty
  refine ⟨s.tick, by simp only [step, empty], by simp [empty], by simp, by simp, by simp, ?_, fun u => ?_, fun p => ?_, ?_, ?_,
    fun o => ?_, s.tick_lp⟩
  · rw [State.tick_ru]
    rfl
  · simp [State.record, State.tick_ru, countDown]
  · rw [State.tick_point]
    cases (s.point p).reminder <;> rfl
  · rw [State.tick_sq]
    refine congrArg (fun l => ({ s.sq with items := l } : SendQueue)) (List.map_congr_left fun x _ => ?_)
    obtain ⟨kind, cls, age⟩ := x
    cases kind <;> rfl
  · rw [State.tick_ou]
  · simp [State.tick_ou, countDown]

/-! ## The input sample (R30 to R32) -/

theorem State.samplePoint_input {s : State} {u : Setup} {p : PointId} {k : Fin 16} (held : s.cs.setup = some u)
    (source : u.points[p].source = .input k) (levels : BitVec 16) (r : PointRecord) :
    s.samplePoint levels p r = r.sample u.points[p] (levels.getLsbD k.1) := by
  simp only [State.samplePoint, State.pointSetup, held, Option.map_some, source]

theorem countSample_eq (time : Byte) (t : Option Nat) :
    countSample time t = some (match t with | none => time.toNat | some n => n - 1) := by
  cases t <;> rfl

/-- A sample takes the raw level, and moves the timer that leads out of the qualified state where the level differs from it. -/
theorem PointRecord.sample_eq (r : PointRecord) (u : PointSetup) (high : Bool) {raw : Condition}
    (level : raw = Condition.ofBool (xor high u.activeLow)) :
    r.sample u high =
      if raw = r.qualified then { r with raw := raw, qualify := none, release := none }
      else if raw = .active then { r with raw := raw, qualify := countSample u.qualifyTime r.qualify }
      else { r with raw := raw, release := countSample u.releaseTime r.release } := by
  rw [PointRecord.sample, ← level]
  cases qualified : r.qualified <;> cases raw <;> simp

theorem State.samplePoint_other {s : State} {p : PointId}
    (other : ∀ (u : Setup) (k : Fin 16), s.cs.setup = some u → u.points[p].source ≠ .input k) (levels : BitVec 16)
    (r : PointRecord) : s.samplePoint levels p r = r := by
  unfold State.samplePoint
  split
  · rfl
  · rename_i u held
    obtain ⟨w, setup, rfl⟩ := Option.map_eq_some_iff.1 held
    split
    · rename_i k source
      exact absurd source (other w k setup)
    · rfl
    · rfl

/-- Settles O19: each record by its source, and one sourced from an input line by its qualified state and the level sampled. -/
theorem inputSampleMovesRawLevelsAndTimers : Obligations.InputSampleMovesRawLevelsAndTimers := by
  intro levels s
  refine ⟨s.onPoints (s.samplePoint levels), rfl, rfl, fun p => ⟨fun u k held source => ?_, fun other => ?_⟩⟩
  · refine ⟨Condition.ofBool (xor (levels.getLsbD k.1) u.points[p].activeLow), ?_, ?_⟩
    · rw [(Condition.ofBool_eq_iff _).1]
      simp
    · rw [State.point_onPoints, State.samplePoint_input held source, PointRecord.sample_eq _ _ _ rfl]
      rw [countSample_eq, countSample_eq] <;> rfl
  · rw [State.point_onPoints, State.samplePoint_other other]

/-! ## The announce check (R35) -/

/-- The pairs rest on the configuration, the table and the point's level, occurrence and pending count. -/
theorem State.pairsEqual_congr {s t : State} {p : PointId} (cs : t.cs = s.cs) (et : t.et = s.et)
    (qualified : (t.point p).qualified = (s.point p).qualified) (occurrence : (t.point p).occurrence = (s.point p).occurrence)
    (pending : (t.point p).pendingReminders = (s.point p).pendingReminders) : t.pairsEqual p = s.pairsEqual p := by
  simp only [State.pairsEqual, State.ownEntry, State.own, State.entry, cs, et, qualified, occurrence, pending]

theorem State.pointUsed_congr {s t : State} (cs : t.cs = s.cs) (p : PointId) : t.pointUsed p = s.pointUsed p := by
  simp only [State.pointUsed, State.pointSource, State.pointSetup, cs]

/-- The announce check writes a queued flag alone, so it leaves the pairs as they are. -/
theorem State.pairsEqual_announceCheck (s : State) (p q : PointId) (forced : Bool) :
    (s.announceCheck p forced).pairsEqual q = s.pairsEqual q := by
  apply State.pairsEqual_congr (by simp) (by simp) <;> rw [State.point_announceCheck] <;> split <;> rfl

theorem State.announceCheck_queued (s : State) (p : PointId) (forced : Bool) :
    ((s.announceCheck p forced).point p).queued = true ↔ (s.point p).queued = true ∨
      (s.ru.state = .member ∧ s.pointUsed p = true ∧ (s.pairsEqual p = false ∨ forced = true)) := by
  have due : s.announcesPoint p forced = true ↔ (s.point p).queued = false ∧ s.ru.state = .member ∧ s.pointUsed p = true ∧
      (s.pairsEqual p = false ∨ forced = true) := by
    simp [State.announcesPoint, State.inState]
    tauto
  rw [State.point_announceCheck]
  split
  · rename_i yes
    exact iff_of_true rfl (.inr (due.1 yes.2).2)
  · rename_i no
    refine ⟨.inl, fun either => either.elim id fun rest => ?_⟩
    by_contra unqueued
    exact no ⟨rfl, due.2 ⟨by simpa using unqueued, rest⟩⟩

/-- A change of one point, then the recomputation of its class and the announce check (R33, R35, R41, R42). -/
def State.changePoint (s : State) (p : PointId) (g : PointRecord → PointRecord) (forced : Bool) : State :=
  ((s.onPoint p g).reclassPoint p).announceCheck p forced

section
variable (s : State) (p : PointId) (g : PointRecord → PointRecord) (forced : Bool)

theorem State.changePoint_frame : (s.changePoint p g forced).cs = s.cs ∧ (s.changePoint p g forced).et = s.et ∧
    (s.changePoint p g forced).ru = s.ru ∧ (s.changePoint p g forced).lc = s.lc ∧ (s.changePoint p g forced).ou = s.ou ∧
    (s.changePoint p g forced).lp = s.lp ∧ (s.changePoint p g forced).pending = s.pending ∧
    (s.changePoint p g forced).freeCount = s.freeCount := by
  simp [State.changePoint]

theorem State.point_changePoint_other {q : PointId} (other : q ≠ p) : (s.changePoint p g forced).point q = s.point q := by
  rw [State.changePoint, State.point_announceCheck, if_neg fun both => other both.1,
    State.point_congr (State.reclassPoint_frame _ p).2.2.2.1, State.point_onPoint_other s p q g other]

/-- The point is the one written, its queued flag apart. -/
theorem State.point_changePoint : (s.changePoint p g forced).point p =
    { g (s.point p) with queued := ((s.changePoint p g forced).point p).queued } := by
  rw [State.changePoint, State.point_announceCheck, State.point_congr (State.reclassPoint_frame _ p).2.2.2.1,
    State.point_onPoint_self]
  split <;> rfl

/-- The point is queued where it was, and where a MEMBER's pairs then differ or the check is forced. -/
theorem State.changePoint_queued : ((s.changePoint p g forced).point p).queued = true ↔ (g (s.point p)).queued = true ∨
    (s.ru.state = .member ∧ s.pointUsed p = true ∧ ((s.changePoint p g forced).pairsEqual p = false ∨ forced = true)) := by
  have used : ((s.onPoint p g).reclassPoint p).pointUsed p = s.pointUsed p := State.pointUsed_congr (by simp) p
  rw [State.changePoint, State.announceCheck_queued, State.pairsEqual_announceCheck, used,
    State.point_congr (State.reclassPoint_frame _ p).2.2.2.1, State.point_onPoint_self]
  simp

end

/-! ## Qualification (R31 to R33, R35) -/

/-- A point record with a new qualified state: a rise counts an occurrence and clears the pending reminder count (R33). -/
def PointRecord.qualifiedAs (r : PointRecord) (c : Condition) : PointRecord :=
  match c with
  | .active =>
    { r with qualified := .active, qualify := none, release := none, occurrence := r.occurrence + 1, pendingReminders := 0 }
  | .inactive => { r with qualified := .inactive, qualify := none, release := none }

theorem State.qualifyTo_eq (s : State) (p : PointId) (c : Condition) :
    s.qualifyTo p c = s.changePoint p (·.qualifiedAs c) false := rfl

theorem PointRecord.qualifiedAs_kept (r : PointRecord) (c : Condition) : (r.qualifiedAs c).qualified = c ∧
    (r.qualifiedAs c).qualify = none ∧ (r.qualifiedAs c).release = none ∧ (r.qualifiedAs c).reminder = r.reminder ∧
    (r.qualifiedAs c).raw = r.raw ∧ (r.qualifiedAs c).queued = r.queued := by
  cases c <;> exact ⟨rfl, rfl, rfl, rfl, rfl, rfl⟩

/-- The close leaves the points, and what the pairs rest on. -/
theorem State.point_close (old s : State) (p : PointId) : (State.close old s).point p = s.point p :=
  State.point_congr (by simp) p

theorem State.pairsEqual_close (old s : State) (p : PointId) : (State.close old s).pairsEqual p = s.pairsEqual p :=
  State.pairsEqual_congr (by simp) (by simp) (by rw [State.point_close]) (by rw [State.point_close])
    (by rw [State.point_close])

/-- What the end of a qualification timer leaves, whichever level it leads to. -/
theorem State.close_qualifyTo (s : State) (p : PointId) (c : Condition) :
    let t := State.close s (s.qualifyTo p c)
    t.point p = { (s.point p).qualifiedAs c with queued := (t.point p).queued } ∧
      (s.ru.state = .member → s.pointUsed p = true → t.pairsEqual p = false → (t.point p).queued = true) ∧
      (∀ q : PointId, q ≠ p → t.point q = s.point q) ∧
      t.cs = s.cs ∧ t.et = s.et ∧ t.ru = s.ru ∧ t.lc = s.lc ∧ t.pending = s.pending := by
  intro t
  have point : ∀ q, t.point q = (s.changePoint p (·.qualifiedAs c) false).point q := fun q => State.point_close s _ q
  have pairs : t.pairsEqual p = (s.changePoint p (·.qualifiedAs c) false).pairsEqual p := State.pairsEqual_close s _ p
  refine ⟨?_, fun member used differ => ?_, fun q other => ?_, by simp [t], by simp [t], by simp [t], by simp [t], by simp [t]⟩
  · rw [point]
    exact State.point_changePoint s p _ false
  · rw [point, State.changePoint_queued, ← pairs]
    exact .inr ⟨member, used, .inl differ⟩
  · rw [point, State.point_changePoint_other _ _ _ _ other]

/-- Settles O20: a timer at 0 takes the point to the level it leads to, any other is no event. -/
theorem qualificationEndsAsTheTimerSays : Obligations.QualificationEndsAsTheTimerSays := by
  intro p s
  refine ⟨fun inactive due => ⟨State.close s (s.qualifyTo p .active), ?_, ?_⟩,
    fun active due => ⟨State.close s (s.qualifyTo p .inactive), ?_, ?_⟩, fun running => ?_, fun running => ?_⟩
  · exact congrArg Host.Outcome.next (if_pos ⟨inactive, due⟩)
  · obtain ⟨point, rest⟩ := s.close_qualifyTo p .active
    rw [point]
    exact ⟨rfl, rfl, rfl, rfl, rfl, rfl, rest⟩
  · exact congrArg Host.Outcome.next (if_pos ⟨active, due⟩)
  · obtain ⟨point, rest⟩ := s.close_qualifyTo p .inactive
    rw [point]
    exact ⟨rfl, rfl, rfl, rfl, rfl, rfl, rest⟩
  · exact congrArg Host.Outcome.next (if_neg fun both => running both.2)
  · exact congrArg Host.Outcome.next (if_neg fun both => running both.2)

/-! ## SOFT POINT (R34, R167) -/

theorem levelOf_eq_none {level : Byte} (big : 2 ≤ level.toNat) : levelOf level = none := by
  have zero : level ≠ 0 := by rintro rfl; exact absurd big (by decide)
  have one : level ≠ 1 := by rintro rfl; exact absurd big (by decide)
  rw [levelOf, if_neg zero, if_neg one]

theorem byteTo16_of_toNat {b : Byte} {p : Fin 16} (same : b.toNat = p.1) : byteTo16 b = some p := by
  simp [byteTo16, same]

theorem execSoftPoint_badArgument {point level : Byte} {s : State} (held : s.cs.setup ≠ none)
    (bad : byteTo16 point = none ∨ levelOf level = none ∨ ∃ p, byteTo16 point = some p ∧ s.pointSource p ≠ .soft) :
    exec (.softPoint point level) s = .next (s.answer .badArgument []) := by
  have setup : ¬s.cs.setup.isNone = true := fun none => held (Option.isNone_iff_eq_none.1 none)
  change execSoftPoint point level s = _
  rw [execSoftPoint, if_neg setup]
  refine congrArg Host.Outcome.next ?_
  split
  · rename_i p c named read
    rcases bad with none | none | ⟨q, same, other⟩
    · exact nomatch named.symm.trans none
    · exact nomatch read.symm.trans none
    · rw [if_neg]
      exact Option.some.inj (same.symm.trans named) ▸ other
  · rfl

theorem execSoftPoint_ok {point level : Byte} {s : State} {p : PointId} {c : Condition} (held : s.cs.setup ≠ none)
    (named : byteTo16 point = some p) (read : levelOf level = some c) (soft : s.pointSource p = .soft) :
    exec (.softPoint point level) s = .next (State.close s ((s.setSoft p c).answer .ok [])) := by
  have setup : ¬s.cs.setup.isNone = true := fun none => held (Option.isNone_iff_eq_none.1 none)
  change execSoftPoint point level s = _
  rw [execSoftPoint, if_neg setup, named, read]
  exact congrArg Host.Outcome.next (if_pos soft)

/-- A soft point that takes a level: the raw level alone where the qualified state is that level, else the qualified state too. -/
theorem State.setSoft_eq (s : State) (p : PointId) (c : Condition) : s.setSoft p c =
    if (s.point p).qualified = c then s.onPoint p fun r => { r with raw := c }
    else (s.onPoint p fun r => { r with raw := c }).qualifyTo p c := by
  rw [State.setSoft, State.point_onPoint_self]

theorem State.onPoint_of_same {s : State} {p : PointId} {g : PointRecord → PointRecord} (same : g (s.point p) = s.point p) :
    s.onPoint p g = s := by
  have pu : vset s.pu p (g (s.point p)) = s.pu := by
    rw [same]
    refine Vector.ext fun k below => ?_
    rw [vset_get]
    split
    · rename_i here
      simp only [State.point, Fin.getElem_fin, here]
    · rfl
  exact congrArg (fun v => ({ s with pu := v } : State)) pu

/-- What a SOFT POINT leaves of the points and of the blocks it does not touch (R34). -/
theorem State.point_setSoft (s : State) (p : PointId) (c : Condition) (used : s.pointUsed p = true) :
    let t := s.setSoft p c
    t.point p = { (if (s.point p).qualified = c then { s.point p with raw := c }
        else ({ s.point p with raw := c } : PointRecord).qualifiedAs c) with queued := (t.point p).queued } ∧
      ((t.point p).queued = true ↔ (s.point p).queued = true ∨
        ((s.point p).qualified ≠ c ∧ s.ru.state = .member ∧ t.pairsEqual p = false)) ∧
      ∀ q : PointId, q ≠ p → t.point q = s.point q := by
  intro t
  by_cases held : (s.point p).qualified = c
  · have run : t = s.onPoint p fun r => { r with raw := c } := by simp only [t, State.setSoft_eq, if_pos held]
    rw [run, State.point_onPoint_self, if_pos held]
    exact ⟨rfl, by simp [held], fun q other => State.point_onPoint_other s p q _ other⟩
  · have run : t = (s.onPoint p fun r => { r with raw := c }).changePoint p (·.qualifiedAs c) false := by
      simp only [t, State.setSoft_eq, if_neg held, State.qualifyTo_eq]
    have used' : (s.onPoint p fun r => { r with raw := c }).pointUsed p = true := used
    refine ⟨?_, ?_, fun q other => ?_⟩
    · rw [if_neg held, run]
      conv_lhs => rw [State.point_changePoint, State.point_onPoint_self]
    · rw [run, State.changePoint_queued, State.point_onPoint_self, (PointRecord.qualifiedAs_kept _ c).2.2.2.2.2, used']
      simp [held]
    · rw [run, State.point_changePoint_other _ _ _ _ other, State.point_onPoint_other s p q _ other]

/-- Settles O13: the tests of R167 in order, then the level taken. -/
theorem softPointTakesTheLevel : Obligations.SoftPointTakesTheLevel := by
  intro point level s
  refine ⟨fun none => ?_, fun held big => ?_, fun u p held same other => ?_, fun u p c held same soft read => ?_⟩
  · exact congrArg Host.Outcome.next (if_pos (by simp [none]))
  · exact execSoftPoint_badArgument held (big.imp byteTo16_eq_none fun big => .inl (levelOf_eq_none big))
  · refine execSoftPoint_badArgument (by simp [held]) (.inr (.inr ⟨p, byteTo16_of_toNat same, ?_⟩))
    simpa only [State.pointSource, State.pointSetup, held, Option.map_some] using other
  · have source : s.pointSource p = .soft := by simpa only [State.pointSource, State.pointSetup, held, Option.map_some] using soft
    have read : levelOf level = some c := by rcases read with ⟨rfl, rfl⟩ | ⟨rfl, rfl⟩ <;> rfl
    have run := execSoftPoint_ok (s := s) (by simp [held]) (byteTo16_of_toNat same) read source
    have used : s.pointUsed p = true := by simp [State.pointUsed, source]
    refine ⟨fun qualified raw ok => ?_, _, run, by rw [State.close_reply]; rfl, by simp, by simp, by simp, by simp, by simp, ?_⟩
    · have stands : s.setSoft p c = s := by
        rw [State.setSoft_eq, if_pos qualified]
        exact State.onPoint_of_same (by rw [← raw])
      rw [run, stands, State.close_idle (s := s.answer .ok []) ok rfl rfl rfl rfl rfl rfl]
      rfl
    · obtain ⟨record, queued, others⟩ := s.point_setSoft p c used
      have kept : ∀ q, (State.close s ((s.setSoft p c).answer .ok [])).point q = (s.setSoft p c).point q :=
        fun q => State.point_close s _ q
      have pairs : (State.close s ((s.setSoft p c).answer .ok [])).pairsEqual p = (s.setSoft p c).pairsEqual p :=
        State.pairsEqual_close s _ p
      simp only [kept, pairs]
      refine ⟨?_, ?_, ?_, queued, others⟩
      all_goals
        rw [record]
        cases before : (s.point p).qualified <;> cases c <;> simp [PointRecord.qualifiedAs, before]

/-! ## The reminder expiry (R41, R42) -/

theorem nextReminder_toNat (n : BitVec 4) : (nextReminder n).toNat = min 15 (n.toNat + 1) := by
  revert n; decide

/-- The class of a point item, by its category's record (R42). -/
theorem State.pointClass_eq {s : State} {u : Setup} {f : Profile} (setup : s.cs.setup = some u) (profile : s.cs.profile = some f)
    (p : PointId) :
    let k : Category := f.categories[u.points[p].category]
    (s.pointClass p).1 =
      if k.trip then 0
      else if k.reminderLimit.toNat ≤ (s.point p).pendingReminders.toNat then k.level.1 - 1
      else k.level.1 := by
  intro k
  have category : s.pointCategory p = some k := by
    simp only [State.pointCategory, State.pointSetup, State.category, setup, profile, Option.map_some, Option.bind_some, k]
  have level := k.level.2
  simp only [State.pointClass, category, Category.usedLevel, BitVec.le_def]
  (repeat' split) <;> simp only [Fin.ofNat] <;> omega

/-- The point's items stand in the class that its record then gives. -/
theorem State.changePoint_class {s : State} {p : PointId} {g : PointRecord → PointRecord} {forced : Bool} {x : Item}
    (listed : x ∈ (s.changePoint p g forced).sq.items) (kind : x.kind = .point p) :
    x.cls = (s.changePoint p g forced).pointClass p := by
  have cls : (s.changePoint p g forced).pointClass p = (s.onPoint p g).pointClass p := by
    refine State.pointClass_congr (s.changePoint_frame p g forced).1 ?_
    rw [State.point_changePoint, State.point_onPoint_self]
  have reclassed : ∀ y ∈ ((s.onPoint p g).reclassPoint p).sq.items, y.kind = .point p →
      y.cls = (s.onPoint p g).pointClass p := by
    intro y listed kind
    rw [State.reclassPoint, State.reclassItems_sq] at listed
    rcases mem_replaced.1 listed with ⟨z, -, -, rfl⟩ | ⟨-, other⟩
    · rfl
    · simp [kind, ItemKind.isPointOf] at other
  rw [cls]
  rw [State.changePoint, State.announceCheck_eq] at listed
  split at listed
  · rcases State.mem_enqueue.1 listed with rfl | listed
    · exact State.pointClass_congr (State.reclassPoint_frame _ p).1
        (by rw [State.point_congr (State.reclassPoint_frame _ p).2.2.2.1])
    · exact reclassed x listed kind
  · exact reclassed x listed kind

theorem State.remind_eq (s : State) (p : PointId) : s.remind p = s.changePoint p
    (fun r => { r with reminder := .stopped, pendingReminders := nextReminder r.pendingReminders }) true := rfl

/-- Settles O21: the timer stops, the count rises, and the forced announce check queues the point in its class. -/
theorem reminderExpiryQueuesThePoint : Obligations.ReminderExpiryQueuesThePoint := by
  intro p s
  refine ⟨fun n running => ⟨s.remind p, ?_, ?_⟩, fun other => ?_⟩
  · exact congrArg Host.Outcome.next (if_pos (by simp [running, ReminderTimer.isRunning]))
  · rw [State.remind_eq]
    have record := s.point_changePoint p
      (fun r => { r with reminder := .stopped, pendingReminders := nextReminder r.pendingReminders }) true
    obtain ⟨cs, et, ru, lc, ou, lp, pending, free⟩ := s.changePoint_frame p
      (fun r => { r with reminder := .stopped, pendingReminders := nextReminder r.pendingReminders }) true
    refine ⟨by rw [record], by rw [record]; exact nextReminder_toNat _, by rw [record], by rw [record], fun member used => ?_,
      fun q other => State.point_changePoint_other _ _ _ _ other, ?_, fun u f x setup profile listed kind => ?_⟩
    · exact (State.changePoint_queued _ _ _ _).2 (.inr ⟨member, used, .inr rfl⟩)
    · rw [← cs, ← et, ← ru, ← lc, ← ou, ← lp, ← pending, ← free]
    · intro k
      rw [State.changePoint_class listed kind]
      exact State.pointClass_eq (by rw [cs, setup]) (by rw [cs, profile]) p
  · refine congrArg Host.Outcome.next (if_neg ?_)
    cases timer : (s.point p).reminder with
    | running n => exact absurd timer (other n)
    | stopped | held n => simp [ReminderTimer.isRunning]

end Sys2Proof.Machine
end

section
/-! PROOF. What PROFILE LOAD and SETUP LOAD test and what they leave (R29, R91, R168, R174, R177 to R180, R187), for O15 and O16. -/

namespace Sys2Proof.Machine

/-! ## The first failing item (R177, R179) -/

theorem firstFailing_eq_some {tests : List (Nat × Bool)} {n : Nat} (numbered : tests.map Prod.fst = List.range n) {d : Nat}
    (fails : (d, true) ∈ tests) (first : ∀ k, k < d → (k, true) ∉ tests) : firstFailing tests = some d := by
  have ascends : tests.Pairwise fun a b => a.1 < b.1 := by
    rw [← List.pairwise_map, numbered]
    exact List.pairwise_lt_range
  have least : tests.find? (·.2) = some (d, true) := by
    rw [List.find?_eq_some_iff_append]
    obtain ⟨before, after, rfl⟩ := List.append_of_mem fails
    refine ⟨rfl, before, after, rfl, fun x listed => ?_⟩
    obtain ⟨-, -, cross⟩ := List.pairwise_append.1 ascends
    by_contra fails'
    have passed : x.2 = true := by simpa using fails'
    exact first x.1 (cross x listed _ List.mem_cons_self) (List.mem_append_left _ (passed ▸ listed))
  rw [firstFailing, least]
  rfl

theorem firstFailing_eq_none {tests : List (Nat × Bool)} (pass : ∀ d, (d, true) ∉ tests) : firstFailing tests = none := by
  rw [firstFailing, List.find?_eq_none.2, Option.map_none]
  rintro ⟨d, failed⟩ listed yes
  obtain rfl : failed = true := yes
  exact pass d listed

/-! ## The profile image (R177, R178, R187) -/

section
variable (img : Vector Byte 26) (c : CategoryId)

theorem categoryImage_zero : categoryImage img c 0 = img[2 + 3 * c.1] := rfl

theorem categoryImage_one : categoryImage img c 1 = img[3 + 3 * c.1] := by
  have index : 2 + 3 * c.1 + 1 = 3 + 3 * c.1 := by omega
  simp only [categoryImage, Fin.val_one, index]

theorem categoryImage_two : categoryImage img c 2 = img[4 + 3 * c.1] := by
  have index : 2 + 3 * c.1 + 2 = 4 + 3 * c.1 := by omega
  simp only [categoryImage, Fin.val_two, index]

end

theorem profileTests_numbered (img : Vector Byte 26) : (profileTests img).map Prod.fst = List.range 26 := rfl

theorem two_lt_code_iff (b : Byte) (start : Nat) : 2 < (b.extractLsb' start 2).toNat ↔ (b.extractLsb' start 2).toNat = 3 := by
  have := (b.extractLsb' start 2).isLt
  omega

theorem mem_profileTests {img : Vector Byte 26} {d : Nat} : (d, true) ∈ profileTests img ↔ profileItemFails img d := by
  simp only [profileTests, profileItemFails, List.mem_append, List.mem_cons, List.mem_flatMap, List.mem_finRange, Prod.mk.injEq,
    List.not_mem_nil, or_false, true_and, categoryImage_zero, categoryImage_two, two_lt_code_iff,
    Bool.or_eq_true, decide_eq_true_eq, eq_comm (a := true), or_assoc]

/-- The fields of a profile image that passes its tests, each in its code. -/
theorem categoryOfImage_fields {img : Vector Byte 26} (pass : ∀ d, ¬profileItemFails img d) (c : CategoryId) :
    let k := categoryOfImage img c
    k.level.1 = (img[2 + 3 * c.1].extractLsb' 0 2).toNat ∧ k.ackMode.code = img[2 + 3 * c.1].extractLsb' 2 2 ∧
      k.trip = img[2 + 3 * c.1].getLsbD 4 ∧ k.reminderInterval = img[3 + 3 * c.1] ∧
      k.reminderLimit.toNat = img[4 + 3 * c.1].toNat := by
  intro k
  have level : (img[2 + 3 * c.1].extractLsb' 0 2).toNat < 3 := by
    have := (img[2 + 3 * c.1].extractLsb' 0 2).isLt
    have : (img[2 + 3 * c.1].extractLsb' 0 2).toNat ≠ 3 := fun bad => pass _ (.inr (.inr ⟨c, .inl ⟨rfl, bad⟩⟩))
    omega
  have mode : (img[2 + 3 * c.1].extractLsb' 2 2).toNat ≠ 3 := fun bad => pass _ (.inr (.inr ⟨c, .inr (.inl ⟨rfl, bad⟩)⟩))
  have limit : img[4 + 3 * c.1].toNat ≤ 15 := by
    by_contra bad
    exact pass _ (.inr (.inr ⟨c, .inr (.inr ⟨rfl, .inr (by omega)⟩)⟩))
  have codes : ∀ b : BitVec 2, b.toNat ≠ 3 → (AckMode.ofCode b).code = b := by decide
  refine ⟨?_, codes _ mode, rfl, categoryImage_one img c, ?_⟩
  · exact congrArg Fin.val (dif_pos level)
  · simp only [k, categoryOfImage, categoryImage_two, BitVec.toNat_setWidth]
    omega

/-- The first byte of a category, spare bits 0 (R178). -/
theorem maskedByte_eq : ∀ b : Byte, 0#3 ++ BitVec.ofBool (b.getLsbD 4) ++ b.extractLsb' 2 2 ++
    BitVec.ofNat 2 (b.extractLsb' 0 2).toNat = b &&& 0x1F#8 := by decide +kernel

theorem categoryOfImage_image {img : Vector Byte 26} (pass : ∀ d, ¬profileItemFails img d) (c : CategoryId) :
    (categoryOfImage img c).image = [img[2 + 3 * c.1] &&& 0x1F#8, img[3 + 3 * c.1], img[4 + 3 * c.1]] := by
  obtain ⟨level, mode, trip, interval, limit⟩ := categoryOfImage_fields pass c
  have narrow : (categoryOfImage img c).reminderLimit.setWidth 8 = img[4 + 3 * c.1] := by
    refine BitVec.eq_of_toNat_eq ?_
    rw [BitVec.toNat_setWidth, limit]
    exact Nat.mod_eq_of_lt img[4 + 3 * c.1].isLt
  rw [Category.image, level, mode, trip, interval, narrow, maskedByte_eq]

theorem profileOfImage_rate {img : Vector Byte 26} (pass : ∀ d, ¬profileItemFails img d) :
    (profileOfImage img).rate.1 = img[0].toNat := by
  have small : img[0].toNat < 4 := by
    by_contra bad
    exact pass 0 (.inl ⟨rfl, by omega⟩)
  simp only [profileOfImage]
  rw [dif_pos small]

/-- A profile's canonical bytes are those of its image with every spare bit 0 (R178). -/
theorem profileOfImage_image {img : Vector Byte 26} (pass : ∀ d, ¬profileItemFails img d) :
    (profileOfImage img).image = (List.finRange 26).map fun k =>
      if 2 ≤ k.1 ∧ (k.1 - 2) % 3 = 0 then img[k] &&& 0x1F#8 else img[k] := by
  have first : finByte (profileOfImage img).rate = img[0] := by
    rw [finByte, profileOfImage_rate pass, BitVec.ofNat_toNat, BitVec.setWidth_eq]
  have categories : (profileOfImage img).categories.toList.flatMap Category.image =
      (List.finRange 8).flatMap fun c => [img[2 + 3 * c.1] &&& 0x1F#8, img[3 + 3 * c.1], img[4 + 3 * c.1]] := by
    simp only [profileOfImage, Vector.toList_ofFn, List.ofFn_eq_map, List.flatMap_map, categoryOfImage_image pass]
  rw [Profile.image, first, categories]
  rfl

/-! ## PROFILE LOAD (R29, R91, R168, R174, R177) -/

theorem LocalPort.holdsItem_iff (l : LocalPort) : l.holdsItem = true ↔ l.records ≠ [] ∨ l.marker ≠ none := by
  simp [LocalPort.holdsItem, Option.isSome_iff_ne_none]

/-- While no setup is held a push keeps the prompt timer stopped and ATTN with the queue (R173, R174). -/
theorem LocalPort.push_unprompted {l : LocalPort} (timer : l.promptTimer = none) (release : l.releaseTimer = none)
    (attn : l.attn = l.holdsItem) (r : Record) :
    (l.push none r).promptTimer = none ∧ (l.push none r).attn = (l.push none r).holdsItem := by
  refine ⟨by rw [LocalPort.push_promptTimer, timer, ite_self], ?_⟩
  rw [LocalPort.push_attn, LocalPort.push_holdsItem, attn]
  cases held : l.holdsItem <;> simp [release]

/-- The close pushes one record or none. -/
theorem State.close_lp_cases {P : LocalPort → Prop} (old s : State) (stands : P s.lp)
    (pushed : ∀ r, P (s.lp.push s.promptPeriod r)) : P (State.close old s).lp := by
  rw [State.close_lp]
  split
  · exact pushed _
  · exact stands

theorem State.close_pulses {s : State} (stopped : ∀ o : OutputId, s.ou.pulses[o] = none) (old : State) (o : OutputId) :
    (State.close old s).ou.pulses[o] = none := by
  rw [State.close_ou]
  dsimp only
  split
  · exact stopped o
  · simp

theorem State.point_answer (s : State) (r : ResultCode) (bytes : List Byte) (q : PointId) :
    (s.answer r bytes).point q = s.point q := rfl

theorem State.point_takeProfile (s : State) (p : Profile) (q : PointId) :
    (s.takeProfile p).point q = { PointRecord.unloaded with occurrence := (s.point q).occurrence } := by
  have pu : (s.takeProfile p).pu = s.unloadPoints.pu := by simp [State.takeProfile, State.unloadPoints]
  exact (State.point_congr pu q).trans (State.point_onPoints s q _)

theorem execProfileLoad_out {img : Vector Byte 26} {s : State} (out : s.ru.state.outOfService = true) :
    exec (.profileLoad img) s = .next
      (match firstFailing (profileTests img) with
      | some detail => s.answer .badArgument [BitVec.ofNat 8 detail]
      | none => State.close s ((s.takeProfile (profileOfImage img)).answer .ok [])) :=
  congrArg Host.Outcome.next (if_neg (by simp [out]))

/-- Settles O15: the tests in the order of R177, then each block as the load leaves it. -/
theorem profileLoadTakesTheWholeProfile : Obligations.ProfileLoadTakesTheWholeProfile := by
  intro img s
  refine ⟨fun h1 h2 h3 => congrArg Host.Outcome.next (if_pos ?_), fun out => ⟨fun d fails first => ?_, fun pass => ?_⟩⟩
  · have service := mt (StationState.outOfService_iff s.ru.state).1 (by simp [h1, h2, h3])
    simpa using service
  · rw [execProfileLoad_out ((StationState.outOfService_iff _).2 out), firstFailing_eq_some (profileTests_numbered img)
      (mem_profileTests.2 fails) fun k less => mt mem_profileTests.1 (first k less)]
    rfl
  · have run := execProfileLoad_out (img := img) ((StationState.outOfService_iff _).2 out)
    rw [firstFailing_eq_none fun d => mt mem_profileTests.1 (pass d)] at run
    have unprompted : let l := (State.close s ((s.takeProfile (profileOfImage img)).answer .ok [])).lp
        (l.promptTimer = none ∧ l.attn = l.holdsItem) ∧ l.releaseTimer = none :=
      State.close_lp_cases (P := fun l => (l.promptTimer = none ∧ l.attn = l.holdsItem) ∧ l.releaseTimer = none) s _
        ⟨⟨rfl, rfl⟩, rfl⟩ fun r => ⟨LocalPort.push_unprompted rfl rfl rfl r, LocalPort.push_releaseTimer _ _ r⟩
    obtain ⟨⟨timer, attn⟩, release⟩ := unprompted
    have pins : ∀ o : OutputId, (State.close s ((s.takeProfile (profileOfImage img)).answer .ok [])).ou.pins[o] = .undriven := by
      intro o
      rw [(State.close_outputsOk s ((s.takeProfile (profileOfImage img)).answer .ok [])).2.1]
      simp [State.outputPins, State.outputPin, State.rule, State.takeProfile, ConfigStore.takeProfile]
    refine ⟨_, profileOfImage img, run, by rw [State.close_reply]; rfl, by simp; rfl, profileOfImage_image pass,
      profileOfImage_rate pass, rfl, fun c => ?_, fun q => ?_, fun o => ⟨State.close_pulses (fun o => ?_) s o, pins o⟩,
      State.close_silenceMark s _, by rw [State.close_ou]; rfl, by rw [State.close_ou]; rfl, timer, release, ?_, by simp; rfl,
      by simp, by simp, by simp, by simp⟩
    · simpa only [profileOfImage, Fin.getElem_fin, Vector.getElem_ofFn] using categoryOfImage_fields pass c
    · rw [State.point_close, State.point_answer, State.point_takeProfile]
    · simp [State.takeProfile, State.stopPulses]
    · rw [attn, LocalPort.holdsItem_iff]

/-! ## The setup image (R179, R187) -/

section
variable (img : Vector Byte 130)

theorem setupTests_numbered : (setupTests img).map Prod.fst = List.range 48 := rfl

theorem pointImage_zero (p : PointId) : pointImage img p 0 = img[5 * p.1] := rfl

theorem outputImage_zero (o : OutputId) : outputImage img o 0 = img[80 + 6 * o.1] := rfl

theorem outputImage_add (o : OutputId) (k : Fin 6) :
    outputImage img o k = img[80 + k.1 + 6 * o.1] := by
  have index : 80 + 6 * o.1 + k.1 = 80 + k.1 + 6 * o.1 := by omega
  simp only [outputImage, index]

theorem outputImage_five (o : OutputId) : outputImage img o 5 = img[85 + 6 * o.1] := outputImage_add img o 5

end

/-- The sources a byte can name (R187). -/
theorem PointSource.ofByte_isNone_iff (b : Byte) :
    (PointSource.ofByte b).isNone = true ↔ 15 < b.toNat ∧ b ≠ 0x40#8 ∧ b ≠ 0x80#8 := by
  revert b; decide +kernel

/-- The byte that names a source (R187). -/
def PointSource.byte : PointSource → Byte
  | .input k => BitVec.ofNat 8 k.1
  | .soft => 0x40#8
  | .unused => 0x80#8

theorem PointSource.byte_ofByte : ∀ b : Byte, (PointSource.ofByte b).isNone = false →
    b = ((PointSource.ofByte b).getD .unused).byte := by decide +kernel

/-- The modes a byte can name (R182). -/
theorem OutputMode.ofByte_isNone_iff (b : Byte) : (OutputMode.ofByte b).isNone = true ↔ 4 < b.toNat := by
  revert b; decide +kernel

/-- The byte that names a mode (R182). -/
def OutputMode.byte : OutputMode → Byte
  | .off => 0#8
  | .level => 1#8
  | .annunciate => 2#8
  | .audible => 3#8
  | .pulse => 4#8

theorem OutputMode.byte_ofByte : ∀ b : Byte, (OutputMode.ofByte b).isNone = false →
    b = ((OutputMode.ofByte b).getD .off).byte := by decide +kernel

theorem byte_toNat_eq_zero (b : Byte) : b.toNat = 0 ↔ b = 0#8 := by
  revert b; decide

theorem mem_setupTests {img : Vector Byte 130} {d : Nat} : (d, true) ∈ setupTests img ↔ setupItemFails img d := by
  simp only [setupTests, setupItemFails, List.mem_append, List.mem_cons, List.mem_flatMap, List.mem_finRange, Prod.mk.injEq,
    List.not_mem_nil, or_false, true_and, pointImage_zero, outputImage_zero, outputImage_five, PointSource.ofByte_isNone_iff,
    OutputMode.ofByte_isNone_iff, decide_eq_true_eq, eq_comm (a := true), byte_toNat_eq_zero]
  rfl

/-- The fields of a point in a setup image that passes its tests. -/
theorem pointSetupOfImage_fields {img : Vector Byte 130} (pass : ∀ d, ¬setupItemFails img d) (p : PointId) :
    let u := pointSetupOfImage img p
    (match u.source with
      | .input k => img[5 * p.1].toNat = k.1
      | .soft => img[5 * p.1] = 0x40#8
      | .unused => img[5 * p.1] = 0x80#8) ∧
      u.category.1 = img[5 * p.1 + 1].toNat ∧ u.activeLow = img[5 * p.1 + 2].getLsbD 0 ∧
      u.qualifyTime = img[5 * p.1 + 3] ∧ u.releaseTime = img[5 * p.1 + 4] := by
  intro u
  have source : (PointSource.ofByte img[5 * p.1]).isNone = false := by
    by_contra bad
    exact pass _ (.inl ⟨p, .inl ⟨rfl, (PointSource.ofByte_isNone_iff _).1 (by simpa using bad)⟩⟩)
  have category : img[5 * p.1 + 1].toNat ≤ 7 := by
    by_contra bad
    exact pass _ (.inl ⟨p, .inr ⟨rfl, by omega⟩⟩)
  have low : ∀ b : Byte, b.toNat ≤ 7 → (lowThree b).1 = b.toNat := by decide +kernel
  have named : img[5 * p.1] = u.source.byte := PointSource.byte_ofByte _ source
  refine ⟨?_, low _ category, rfl, rfl, rfl⟩
  cases kind : u.source with
  | input k =>
    rw [named, kind, PointSource.byte, BitVec.toNat_ofNat]
    omega
  | soft => rw [named, kind, PointSource.byte]
  | unused => rw [named, kind, PointSource.byte]

/-- The fields of a rule in a setup image that passes its tests. -/
theorem outputRuleOfImage_fields {img : Vector Byte 130} (pass : ∀ d, ¬setupItemFails img d) (o : OutputId) :
    let r := outputRuleOfImage img o
    (match r.mode with
      | .off => img[80 + 6 * o.1] = 0#8
      | .level => img[80 + 6 * o.1] = 1#8
      | .annunciate => img[80 + 6 * o.1] = 2#8
      | .audible => img[80 + 6 * o.1] = 3#8
      | .pulse => img[80 + 6 * o.1] = 4#8) ∧
      (∀ k : StationId, r.origins.getLsbD k.1 =
        if k.1 < 8 then img[81 + 6 * o.1].getLsbD k.1 else img[82 + 6 * o.1].getLsbD (k.1 - 8)) ∧
      r.categories = img[83 + 6 * o.1] ∧ (r.basis = .phase ↔ img[84 + 6 * o.1].getLsbD 0 = true) ∧
      r.includeOrphaned = img[84 + 6 * o.1].getLsbD 1 ∧ r.activeLow = img[84 + 6 * o.1].getLsbD 2 ∧
      r.tripForcing = img[84 + 6 * o.1].getLsbD 3 ∧ r.safeOn = img[84 + 6 * o.1].getLsbD 4 ∧
      r.pulseTens = img[85 + 6 * o.1] := by
  intro r
  have mode : (OutputMode.ofByte img[80 + 6 * o.1]).isNone = false := by
    by_contra bad
    exact pass _ (.inr ⟨o, .inl ⟨rfl, (OutputMode.ofByte_isNone_iff _).1 (by simpa using bad)⟩⟩)
  have flags : outputImage img o 4 = img[84 + 6 * o.1] := outputImage_add img o 4
  have named : img[80 + 6 * o.1] = r.mode.byte := OutputMode.byte_ofByte _ mode
  refine ⟨?_, fun k => ?_, outputImage_add img o 3, ?_, ?_, ?_, ?_, ?_, outputImage_add img o 5⟩
  · cases kind : r.mode <;> rw [named, kind, OutputMode.byte]
  · have origins : r.origins = img[82 + 6 * o.1] ++ img[81 + 6 * o.1] :=
      congrArg₂ (· ++ ·) (outputImage_add img o 2) (outputImage_add img o 1)
    rw [origins, BitVec.getLsbD_append]
  · simp only [r, outputRuleOfImage, flags]
    split <;> simp_all
  all_goals simp only [r, outputRuleOfImage, flags]

/-! ## SETUP LOAD (R29, R168, R174, R179, R180) -/

theorem State.point_takeSetup (s : State) (u : Setup) (q : PointId) : (s.takeSetup u).point q =
    { PointRecord.unloaded with occurrence := (s.point q).occurrence, queued := (s.point q).queued } := by
  have pu : (s.takeSetup u).pu = s.resetPoints.pu := by simp [State.takeSetup, State.resetPoints]
  exact (State.point_congr pu q).trans (State.point_onPoints s q _)

theorem execSetupLoad_out {img : Vector Byte 130} {s : State} (out : s.ru.state.outOfService = true)
    (profile : s.cs.profile ≠ none) :
    exec (.setupLoad img) s = .next
      (match firstFailing (setupTests img) with
      | some detail => s.answer .badArgument [BitVec.ofNat 8 detail]
      | none => State.close s ((s.takeSetup (setupOfImage img)).answer .ok [])) :=
  congrArg Host.Outcome.next (if_neg (by simp [out, profile]))

/-- Settles O16: the tests in the order of R179, then each block as the load leaves it. -/
theorem setupLoadTakesTheWholeSetup : Obligations.SetupLoadTakesTheWholeSetup := by
  intro img s
  refine ⟨fun closed => congrArg Host.Outcome.next (if_pos ?_), fun out profile => ⟨fun d fails first => ?_, fun pass => ?_⟩⟩
  · rcases closed with ⟨h1, h2, h3⟩ | none
    · have service := mt (StationState.outOfService_iff s.ru.state).1 (by simp [h1, h2, h3])
      simp [service]
    · simp [none]
  · rw [execSetupLoad_out ((StationState.outOfService_iff _).2 out) profile, firstFailing_eq_some (setupTests_numbered img)
      (mem_setupTests.2 fails) fun k less => mt mem_setupTests.1 (first k less)]
    rfl
  · have run := execSetupLoad_out (img := img) ((StationState.outOfService_iff _).2 out) profile
    rw [firstFailing_eq_none fun d => mt mem_setupTests.1 (pass d)] at run
    have release : (State.close s ((s.takeSetup (setupOfImage img)).answer .ok [])).lp.releaseTimer = s.lp.releaseTimer :=
      State.close_lp_cases (P := fun l => l.releaseTimer = s.lp.releaseTimer) s _ rfl fun r =>
        LocalPort.push_releaseTimer _ _ r
    refine ⟨_, setupOfImage img, run, by rw [State.close_reply]; rfl, by simp; rfl, fun p => ?_, fun o => ?_, rfl, rfl,
      fun q => ?_, State.close_pulses (fun o => ?_) s, fun held => ?_, release, by simp, by simp, by simp, by simp, by simp⟩
    · have loaded : (setupOfImage img).points[p] = pointSetupOfImage img p := by simp [setupOfImage]
      rw [loaded]
      exact pointSetupOfImage_fields pass p
    · have loaded : (setupOfImage img).rules[o] = outputRuleOfImage img o := by simp [setupOfImage]
      rw [loaded]
      exact outputRuleOfImage_fields pass o
    · rw [State.point_close, State.point_answer, State.point_takeSetup]
    · simp [State.takeSetup, State.stopPulses]
    · have held := (LocalPort.holdsItem_iff s.lp).2 held
      have timer : ((s.takeSetup (setupOfImage img)).answer .ok []).lp.promptTimer =
          (s.takeSetup (setupOfImage img)).promptPeriod := if_pos held
      refine State.close_lp_cases (P := fun l => l.promptTimer = _ ∧ l.attn = s.lp.attn) s _ ⟨timer, rfl⟩ fun r => ?_
      have still : ((s.takeSetup (setupOfImage img)).answer .ok []).lp.holdsItem = true := held
      rw [LocalPort.push_promptTimer, LocalPort.push_attn, still]
      exact ⟨timer, rfl⟩

end Sys2Proof.Machine
end

section
/-! PROOF. The eighth failed attempt in succession mutes the station, or ends its LEAVING (R107, R108, R126), for O27. -/

namespace Sys2Proof.Machine

/-! ## The OUTCOMEs of removed items (R57, R120, R121) -/

theorem withdrawnRecord_isOutcome {x : Item} {r : Record} (h : r ∈ withdrawnRecord x) : r.isOutcome = true := by
  unfold withdrawnRecord at h
  cases kind : x.kind <;> simp only [kind, Option.mem_def, Option.some.injEq, reduceCtorEq] at h <;> subst h <;> rfl

theorem filter_isOutcome_withdrawn (items : List Item) :
    (items.filterMap withdrawnRecord).filter Record.isOutcome = items.filterMap withdrawnRecord := by
  rw [List.filter_eq_self]
  intro r listed
  obtain ⟨x, -, given⟩ := List.mem_filterMap.1 listed
  exact withdrawnRecord_isOutcome given

theorem State.failureOutcome_eq {s : State} (f : InFlight) : s.failureOutcome f.item = s.removedOutcome f := by
  simp [State.failureOutcome, State.removedOutcome]

theorem State.filter_isOutcome_removedOutcome (s : State) (f : InFlight) :
    (s.removedOutcome f).filter Record.isOutcome = s.removedOutcome f := by
  rw [List.filter_eq_self]
  intro r listed
  unfold State.removedOutcome at listed
  split at listed
  · exact nomatch listed
  · exact withdrawnRecord_isOutcome (Option.mem_toList.1 listed)

/-- With nothing in flight each claim and purge removed is reported. -/
theorem State.removalOutcomes_of_quiet {s : State} (quiet : s.lc.inFlight = none) {k : ItemKind → Bool}
    (reported : ∀ x : Item, k x.kind = false → withdrawnRecord x = none) :
    s.removalOutcomes k = s.sq.items.filterMap withdrawnRecord := by
  have still : ∀ x, s.flies x = false := fun x => by simp only [State.flies, quiet]
  rw [State.removalOutcomes]
  induction s.sq.items with
  | nil => rfl
  | cons x rest ih =>
    rw [List.filterMap_cons]
    by_cases gone : k x.kind = true
    · rw [List.filter_cons_of_pos (p := fun y : Item => k y.kind) gone, List.flatMap_cons, ih, still x, if_neg Bool.false_ne_true]
      cases withdrawnRecord x <;> rfl
    · rw [List.filter_cons_of_neg (p := fun y : Item => k y.kind) gone, ih, reported x (by simpa using gone)]

/-- The close of an event pushes no OUTCOME. -/
theorem State.Pushed.close_outcomes {s t : State} {rs : List Record} (h : s.Pushed t rs) (old : State) :
    s.pushes (State.close old t) Record.isOutcome (rs.filter Record.isOutcome) := by
  refine (h.trans (State.pushed_close old t)).pushes ?_
  rw [List.filter_append]
  split <;> simp [Record.isOutcome]

/-! ## Exhaustion (R108, R126) -/

theorem EntryState.toState_inj {e e' : EntryState} (same : e.toState = e'.toState) : e = e' := by
  cases e <;> cases e' <;> simp [EntryState.toState] at same ⊢

theorem State.exhausted_of_entry {s : State} {e : EntryState} (from_ : s.ru.state = e.toState) :
    s.exhausted = s.enterMuted e := by
  unfold State.exhausted
  cases e <;> rw [from_] <;> rfl

theorem State.exhausted_of_leaving {s : State} (leaving : s.ru.state = .leaving) : s.exhausted = s.enterOut .offline none := by
  rw [State.exhausted, leaving]

/-- A station that sends is in a state that exhaustion remembers, or in LEAVING (R108, R126). -/
theorem StationState.sends_cases {st : StationState} (sends : st.sends = true) :
    (∃ e : EntryState, st = e.toState) ∨ st = .leaving := by
  cases st with
  | member => exact .inl ⟨.member, rfl⟩
  | joining => exact .inl ⟨.joining, rfl⟩
  | syncing => exact .inl ⟨.syncing, rfl⟩
  | leaving => exact .inr rfl
  | _ => exact nomatch sends

theorem State.exhausted_deferred {s : State} (sends : s.ru.state.sends = true) : s.exhausted.ru.deferredExpiry = false := by
  rcases StationState.sends_cases sends with ⟨e, from_⟩ | leaving
  · rw [State.exhausted_of_entry from_, State.enterMuted_ru]
  · rw [State.exhausted_of_leaving leaving, State.enterOut_ru]

/-- The state in which exhaustion finds the station at the eighth failure: the attempt's OUTCOME pushed, the count at 0. -/
def State.spent (z : State) (f : InFlight) : State := (z.reportFailed f.item).clearVetoes

theorem State.spent_frame (z : State) (f : InFlight) :
    (z.spent f).cs = z.cs ∧ (z.spent f).et = z.et ∧ (z.spent f).ru = z.ru ∧ (z.spent f).pu = z.pu ∧ (z.spent f).sq = z.sq ∧
      (z.spent f).lc = { z.lc with vetoCount := 0 } := by
  simp [State.spent]

theorem State.failAttempt_eighth {z : State} {f : InFlight} (count : z.lc.vetoCount = 7) (sends : z.ru.state.sends = true) :
    z.failAttempt f = (z.spent f).exhausted := by
  have eighth : (z.reportFailed f.item).countFailure = (z.spent f).exhausted := by
    rw [State.countFailure, if_neg (by simp [count]), State.spent]
  have lapsed : (z.spent f).exhausted.ru.deferredExpiry = false :=
    State.exhausted_deferred (by rw [(z.spent_frame f).2.2.1]; exact sends)
  rw [State.failAttempt, eighth, State.takeDeferredExpiry_of_not lapsed]

/-- What the eighth failure leaves, as O27 says it: `z` is the state in which the attempt has left the line (R107, R108, R126). -/
theorem State.eighthFailure {s z : State} {f : InFlight} (sound : s.Sound) (flight : s.lc.inFlight = some f)
    (eighth : z.lc.vetoCount = 7) (quiet : z.lc.inFlight = none) (cs : z.cs = s.cs) (et : z.et = s.et) (ru : z.ru = s.ru)
    (pu : z.pu = s.pu) (sq : z.sq = s.sq) (lp : z.lp = s.lp) :
    let t := State.close s (z.failAttempt f)
    t.lc = { z.lc with vetoCount := 0 } ∧ t.et = s.et ∧ t.cs = s.cs ∧
      s.pushes t Record.isOutcome
        (s.removedOutcome f ++ if s.ru.state = .leaving then s.sq.items.filterMap withdrawnRecord else []) ∧
      (∀ e : EntryState, s.ru.state = e.toState →
        t.ru.state = .muted ∧ t.ru.entryState = some e ∧ t.ru.doubtful = false ∧
          t.ru.muteTimer = some (16 * s.presenceMs) ∧ t.ru.presenceTimer = none ∧ t.ru.attemptTimer = none ∧
          t.ru.roster = s.ru.roster ∧ t.sq.items = s.sq.items ∧
          ∀ q : PointId, t.point q = { s.point q with reminder := (s.point q).reminder.hold }) ∧
      (s.ru.state = .leaving → t.ru.state = .offline ∧ t.sq.items = [] ∧ s.rosterFrozen t ∧
        ∀ q : PointId, (t.point q).reminder = .stopped ∧ (t.point q).queued = false) := by
  intro t
  have sends : s.ru.state.sends = true := sound.sends flight
  obtain ⟨scs, set, sru, spu, ssq, slc⟩ := z.spent_frame f
  have state : (z.spent f).ru.state = s.ru.state := by rw [sru, ru]
  have point : ∀ q, (z.spent f).point q = s.point q := State.point_congr (spu.trans pu)
  have ended : t = State.close s (z.spent f).exhausted :=
    congrArg (State.close s) (State.failAttempt_eighth eighth (by rw [ru]; exact sends))
  have failed : s.Pushed (z.spent f) (s.removedOutcome f) := by
    have reported : s.Pushed z [] := .nothing cs lp
    have outcome : z.failureOutcome f.item = s.removedOutcome f := by
      rw [State.failureOutcome_eq, State.removedOutcome, sq]
      rfl
    have cleared : (z.reportFailed f.item).Pushed (z.spent f) [] := .nothing rfl rfl
    simpa [outcome] using (reported.trans (z.pushed_reportFailed f.item)).trans cleared
  rw [ended]
  rcases StationState.sends_cases sends with ⟨e, from_⟩ | leaving
  · have muted := State.exhausted_of_entry (state.trans from_)
    have stays : s.ru.state ≠ .leaving := by
      rw [from_]
      cases e <;> exact nofun
    refine ⟨by simp [muted, slc], by simp [set, et], by simp [scs, cs], ?_, fun e' from' => ?_, fun leaving => absurd leaving stays⟩
    · rw [if_neg stays, List.append_nil, ← s.filter_isOutcome_removedOutcome f, muted]
      have entered : (z.spent f).Pushed ((z.spent f).enterMuted e) [] := .nothing (by simp) (by simp)
      simpa using (failed.trans entered).close_outcomes s
    · obtain rfl := EntryState.toState_inj (from'.symm.trans from_)
      refine ⟨?_, ?_, ?_, ?_, ?_, ?_, ?_, ?_, fun q => ?_⟩
      all_goals
        simp only [State.close_frame, muted, State.enterMuted_ru, State.enterMuted_sq, State.point_close,
          State.point_enterMuted, point, sru, ru, ssq, sq]
      rw [State.presenceMs_congr (scs.trans cs)]
  · have out := State.exhausted_of_leaving (state.trans leaving)
    have points : ∀ p : PointId, (z.spent f).countItems (ItemKind.isPointOf p) =
        if ((z.spent f).point p).queued then 1 else 0 := fun p => by
      rw [point, State.countItems, ssq, sq]
      exact sound.settled.list.points p
    refine ⟨by simp [out, State.enterOut_lc, slc], by simp [set, et], by simp [scs, cs], ?_, fun e from_ => ?_, fun _ => ?_⟩
    · have removed : ((z.spent f).removalOutcomes fun _ => true) = s.sq.items.filterMap withdrawnRecord := by
        rw [State.removalOutcomes_of_quiet (by rw [slc]; exact quiet) fun _ no => Bool.noConfusion no, ssq, sq]
      rw [if_pos leaving, ← s.filter_isOutcome_removedOutcome f, ← filter_isOutcome_withdrawn, ← List.filter_append, out,
        ← removed]
      exact (failed.trans (State.pushed_enterOut _ _ _)).close_outcomes s
    · rw [leaving] at from_
      cases e <;> exact nomatch from_
    · refine ⟨by simp [out, State.enterOut_ru], by simp [out, State.enterOut_sq], fun u => ?_, fun q => ?_⟩
      · simp [State.record, out, State.enterOut_ru, sru, ru]
      · rw [State.point_close, out, State.point_enterOut points]
        exact ⟨rfl, rfl⟩

/-- Settles O27: a sender fault and a vetoed own frame end the attempt alike, but for the line and the counters. -/
theorem eighthFailureMutesTheStation : Obligations.EighthFailureMutesTheStation := by
  intro s f c sound flight seven cause
  obtain ⟨receiver, -, -⟩ := sound.settled.sending flight
  have entryOf : ∀ e : EntryState, (s.ru.state = .member ∧ e = .member ∨ s.ru.state = .joining ∧ e = .joining ∨
      s.ru.state = .syncing ∧ e = .syncing) → s.ru.state = e.toState := by
    rintro e (⟨from_, rfl⟩ | ⟨from_, rfl⟩ | ⟨from_, rfl⟩) <;> exact from_
  rcases cause with ⟨n, rfl⟩ | ⟨rx, rfl⟩
  · have run : exec (.senderFault n) s = .next (State.close s (s.faultAsSender f n)) :=
      congrArg Host.Outcome.next (by rw [flight])
    obtain ⟨lc, et, cs, outcomes, muted, offline⟩ := State.eighthFailure (z := ((s.onCounters fun c =>
      { c with ownAbandoned := bump c.ownAbandoned }).endFlight).onLc fun l =>
        { l with ltx := if n < 11 then .faultSlot else .released }) sound flight seven rfl rfl rfl rfl rfl rfl rfl
    refine ⟨_, run, congrArg LineControl.vetoCount lc, congrArg LineControl.inFlight lc, et, cs, ⟨fun n' same => ?_, nofun⟩,
      outcomes, fun e from_ => muted e (entryOf e from_), offline⟩
    obtain rfl := Instr.senderFault.inj same
    exact lc
  · have run : exec (.frameVetoed rx) s = .next (State.close s (s.ownFrameVetoed f)) :=
      congrArg Host.Outcome.next (by rw [if_pos receiver, flight])
    obtain ⟨lc, et, cs, outcomes, muted, offline⟩ := State.eighthFailure (z := (s.onCounters fun c =>
      { c with framesVetoed := bump c.framesVetoed, ownVetoed := bump c.ownVetoed }).endFlight.endFrame)
        sound flight seven rfl rfl rfl rfl rfl rfl rfl
    exact ⟨_, run, congrArg LineControl.vetoCount lc, congrArg LineControl.inFlight lc, et, cs, ⟨nofun, fun _ _ => lc⟩,
      outcomes, fun e from_ => muted e (entryOf e from_), offline⟩

end Sys2Proof.Machine
end

section
/-! PROOF. The items that requests add to the list, and none that they take (R44, R112, R138, R139, R150), for O50 and O43. -/

namespace Sys2Proof.Machine

/-! ## Operations that only add items of some kinds -/

/-- Every item stays, and those that come are of the kinds `k`. -/
def State.Adds (k : ItemKind → Bool) (s t : State) : Prop :=
  s.sq.items ⊆ t.sq.items ∧ ∀ x ∈ t.sq.items, x ∈ s.sq.items ∨ k x.kind = true

section
variable {k : ItemKind → Bool}

theorem State.Adds.of_items {s t : State} (items : t.sq.items = s.sq.items) : State.Adds k s t := by
  rw [State.Adds, items]
  exact ⟨List.Subset.refl _, fun _ => .inl⟩

theorem State.Adds.trans {s t u : State} (h : State.Adds k s t) (h' : State.Adds k t u) : State.Adds k s u :=
  ⟨fun _ listed => h'.1 (h.1 listed), fun x listed => (h'.2 x listed).elim (h.2 x) .inr⟩

theorem State.Adds.mono {k' : ItemKind → Bool} {s t : State} (h : State.Adds k s t)
    (more : ∀ i, k i = true → k' i = true) : State.Adds k' s t :=
  ⟨h.1, fun x listed => (h.2 x listed).imp_right (more x.kind)⟩

theorem State.Adds.foldl {α : Type} {step : State → α → State} (each : ∀ (u : State) a, State.Adds k u (step u a))
    (l : List α) (s : State) : State.Adds k s (l.foldl step s) :=
  List.foldlRecOn (motive := State.Adds k s) l step (.of_items rfl) fun u hu a _ => hu.trans (each u a)

theorem State.adds_enqueue (s : State) {kind : ItemKind} (yes : k kind = true) (cls : Fin 4) :
    State.Adds k s (s.enqueue kind cls) := by
  refine ⟨fun _ listed => State.mem_enqueue.2 (.inr listed), fun x listed => ?_⟩
  rcases State.mem_enqueue.1 listed with rfl | there
  · exact .inr yes
  · exact .inl there

theorem State.Adds.hasItem {s t : State} (h : State.Adds k s t) {j : ItemKind → Bool} (held : s.hasItem j = true) :
    t.hasItem j = true := by
  obtain ⟨x, listed, yes⟩ := List.any_eq_true.1 held
  exact List.any_eq_true.2 ⟨x, h.1 listed, yes⟩

end

theorem State.adds_requestPresence (s : State) : State.Adds ItemKind.isPresence s s.requestPresence := by
  unfold State.requestPresence
  split
  · exact .of_items rfl
  · exact s.adds_enqueue rfl 3

theorem State.adds_queuePoint (s : State) (p : PointId) : State.Adds ItemKind.isPoint s (s.queuePoint p) :=
  (s.adds_enqueue rfl _).trans (.of_items rfl)

theorem State.adds_reannounceAll (s : State) : State.Adds ItemKind.isPoint s s.reannounceAll := by
  refine State.Adds.foldl (fun u p => ?_) _ s
  split
  · exact u.adds_queuePoint p
  · exact .of_items rfl

theorem State.adds_requestAllLost (s : State) : State.Adds ItemKind.isLost s s.requestAllLost := by
  refine State.Adds.foldl (fun u v => ?_) _ s
  split
  · unfold State.requestLost
    split
    · exact .of_items rfl
    · exact u.adds_enqueue rfl 1
  · exact .of_items rfl

theorem State.adds_startSweep (s : State) : State.Adds (· == .snapshot) s s.startSweep := by
  unfold State.startSweep State.requestSnapshot
  split
  · exact .of_items rfl
  · exact (State.Adds.of_items (s := s) rfl).trans (State.adds_enqueue (k := (· == .snapshot)) _ (by simp) 3)

/-- A station that was not its own reference takes up the duties it now has, and loses no item (R138, R139, R150). -/
theorem State.adds_takeDuties {old s : State} (before : old.isOwnReference = false) :
    State.Adds (fun i => (s.isOwnReference && i.isLost) || (s.sweeps && i == .snapshot)) s (State.takeDuties old s) := by
  unfold State.takeDuties
  simp only [before, Bool.false_and, Bool.false_eq_true, if_false, Bool.not_false, Bool.true_and]
  cases own : s.isOwnReference with
  | false =>
    have idle : s.sweeps = false := by simp [State.sweeps, own]
    simp only [Bool.false_eq_true, if_false, idle, Bool.and_false]
    exact .of_items rfl
  | true =>
    have asked := s.adds_requestAllLost
    simp only [if_true, State.sweeps_congr (s := s) (t := s.requestAllLost) (by simp) (by simp)]
    split
    · rename_i sweeps
      obtain ⟨-, starts⟩ := Bool.and_eq_true_iff.1 sweeps
      rw [starts]
      exact (asked.mono fun i lost => by simp [lost]).trans (s.requestAllLost.adds_startSweep.mono fun i sweep => by simp [sweep])
    · exact asked.mono fun i lost => by simp [lost]

end Sys2Proof.Machine
end

section
/-! PROOF. The clean exit from MUTED (R39, R44, R114, R127, R139, R152), for O50. -/

namespace Sys2Proof.Machine

/-! ## Reminder timers (R39) -/

theorem State.reminderMs_congr {s t : State} (cs : t.cs = s.cs) (p : PointId) : t.reminderMs p = s.reminderMs p := by
  simp only [State.reminderMs, State.pointCategory, State.pointSetup, State.category, cs]

theorem State.mayRemind_congr {s t : State} (cs : t.cs = s.cs) (et : t.et = s.et) (state : t.ru.state = s.ru.state)
    (p : PointId) : t.mayRemind p = s.mayRemind p := by
  simp only [State.mayRemind, State.pointUsed_congr cs, State.reminderMs_congr cs, State.ownEntry, State.entry, State.own, cs,
    et, State.inState, state]

theorem State.resumeReminders_held {s : State} {p : PointId} {n : Nat} (held : (s.point p).reminder = .held n) :
    (s.resumeReminders.point p).reminder = .running n := by
  rw [State.resumeReminders, State.point_onPoints, held]

theorem State.resumeReminders_stopped {s : State} {p : PointId} (stopped : (s.point p).reminder = .stopped) :
    (s.resumeReminders.point p).reminder = if s.mayRemind p = true then .running (s.reminderMs p) else .stopped := by
  rw [State.resumeReminders, State.point_onPoints, stopped]
  dsimp only
  split
  · rfl
  · exact stopped

/-! ## The items that a clean exit sheds (R139, R152) -/

theorem State.mem_shedDuties {s : State} (quiet : s.lc.inFlight = none) {x : Item} : x ∈ s.shedDuties.sq.items ↔
    x ∈ s.sq.items ∧ (x.kind.isLost = true → s.isOwnReference = true) ∧ (x.kind = .snapshot → s.sweeps = true) := by
  unfold State.shedDuties
  extract_lets u
  have first : x ∈ u.sq.items ↔ x ∈ s.sq.items ∧ (x.kind.isLost = true → s.isOwnReference = true) := by
    simp only [u]
    split
    · rename_i own
      simp [own]
    · rename_i other
      rw [State.mem_withdraw quiet]
      simp [other]
  have same : u.sweeps = s.sweeps ∧ u.lc = s.lc := by
    simp only [u]
    split <;> exact ⟨rfl, rfl⟩
  rw [same.1]
  split
  · rename_i sweeps
    simp [first, sweeps]
  · rename_i idle
    rw [State.mem_withdraw (by rw [same.2, quiet]), first]
    simp [idle, and_assoc]

/-- The clean exit before the items that it sheds. -/
def State.resumed (s : State) : State :=
  s.returning.requestPresence.startPresenceTimer.resumeReminders.reannounceAll

theorem State.returned_eq (s : State) : s.returned = s.resumed.shedDuties := rfl

theorem State.resumed_frame (s : State) : s.resumed.cs = s.cs ∧ s.resumed.et = s.et ∧ s.resumed.lc = s.lc := by
  simp [State.resumed, State.returning]

theorem State.resumed_adds (s : State) : State.Adds (fun i => i.isPresence || i.isPoint) s s.resumed := by
  have presence := s.returning.adds_requestPresence
  have points := s.returning.requestPresence.startPresenceTimer.resumeReminders.adds_reannounceAll
  have start : State.Adds (fun i => i.isPresence || i.isPoint) s s.returning := .of_items rfl
  refine (start.trans (presence.mono fun i yes => by simp [yes])).trans (.trans (.of_items ?_) (points.mono fun i yes => by simp [yes]))
  simp

theorem State.resumed_hasPresence (s : State) : s.resumed.hasItem ItemKind.isPresence = true := by
  refine (State.adds_reannounceAll _).hasItem ?_
  have asked := s.returning.requestPresence_hasItem
  simpa [State.hasItem] using asked

theorem State.resumed_mark (s : State) : s.resumed.sq.returnPending = true := by
  simp [State.resumed, State.returning, State.reannounceAll_mark, State.requestPresence_mark]

theorem State.shedDuties_mark (s : State) : s.shedDuties.sq.returnPending = s.sq.returnPending := by
  simp only [State.shedDuties]
  (repeat' split) <;> rfl

/-! ## The clean exit as a whole -/

theorem State.point_cleanExit (s : State) (q : PointId) : s.cleanExit.point q = s.resumed.point q :=
  State.point_congr (by rw [State.cleanExit_eq, (State.takeDuties_frame s.returned s).2.2.1, State.returned_eq,
    (State.shedDuties_frame _).2.2.2.1]) q

theorem State.cleanExit_queued {s : State} {q : PointId} (used : s.pointUsed q = true) : (s.cleanExit.point q).queued = true := by
  rw [State.point_cleanExit]
  refine State.reannounceAll_queued _ ?_
  rw [State.pointUsed_congr (s := s) (by simp [State.returning])]
  exact used

/-- A held reminder timer runs on, and a stopped one starts where it may (R39). -/
theorem State.cleanExit_reminder (s : State) (q : PointId) :
    (∀ n, (s.point q).reminder = .held n → (s.cleanExit.point q).reminder = .running n) ∧
      ((s.point q).reminder = .stopped → s.cleanExit.ru.state = .member → (s.cleanExit.point q).reminder =
        if s.cleanExit.mayRemind q = true then .running (s.cleanExit.reminderMs q) else .stopped) := by
  have start : s.returning.requestPresence.startPresenceTimer.point q = s.point q :=
    State.point_congr (by simp [State.returning]) q
  rw [State.point_cleanExit, State.resumed, State.point_reannounceAll_reminder]
  refine ⟨fun n held => State.resumeReminders_held (by rw [start, held]), fun stopped member => ?_⟩
  rw [State.resumeReminders_stopped (by rw [start, stopped]), State.mayRemind_congr (s := s.cleanExit) (by simp [State.returning])
    (by simp [State.returning]) (by simp [State.returning, member]), State.reminderMs_congr (s := s.cleanExit)
    (by simp [State.returning])]

theorem State.returned_duties (s : State) :
    s.returned.isOwnReference = s.resumed.isOwnReference ∧ s.returned.sweeps = s.resumed.sweeps := by
  obtain ⟨cs, -, ru, -⟩ := State.shedDuties_frame s.resumed
  exact ⟨State.isOwnReference_congr cs (congrArg RosterUnit.state ru) (congrArg RosterUnit.roster ru), State.sweeps_congr cs ru⟩

section
variable {s : State} (muted : s.ru.state = .muted)
include muted

theorem State.isOwnReference_of_muted : s.isOwnReference = false := by
  by_contra own
  have member := State.member_of_isOwnReference (by simpa using own)
  rw [muted] at member
  exact nomatch member

theorem State.sweeps_of_muted : s.sweeps = false := by
  simp [State.sweeps, State.isOwnReference_of_muted muted]

theorem State.cleanExit_ru : s.cleanExit.ru =
    { s.returned.ru with cursor := if s.returned.sweeps then 0 else s.returned.ru.cursor } := by
  rw [State.cleanExit_eq, State.takeDuties_ru, State.sweeps_of_muted muted]
  generalize s.returned = r
  cases r.sweeps <;> rfl

/-- The duties of the reference are those of the state that the exit leads to (R138, R150). -/
theorem State.cleanExit_duties : s.cleanExit.isOwnReference = s.resumed.isOwnReference ∧ s.cleanExit.sweeps = s.resumed.sweeps := by
  have cs : s.cleanExit.cs = s.resumed.cs := by rw [s.resumed_frame.1]; simp
  have ru := State.cleanExit_ru muted
  have shed : s.returned.ru = s.resumed.ru := (State.shedDuties_frame s.resumed).2.2.1
  have state : s.cleanExit.ru.state = s.resumed.ru.state := by rw [ru, shed]
  have roster : s.cleanExit.ru.roster = s.resumed.ru.roster := by rw [ru, shed]
  have own := State.isOwnReference_congr cs state roster
  refine ⟨own, ?_⟩
  simp only [State.sweeps, own, State.inState, state, State.someRebuilding, State.record_congr roster]

/-- The items after the clean exit: those there were and the PRESENCE and points asked for, but for duties that the station does
not have; and the items of the duties that it has (R44, R139, R152). -/
theorem State.cleanExit_items (quiet : s.lc.inFlight = none) :
    (∀ x ∈ s.resumed.sq.items, (x.kind.isLost = true → s.cleanExit.isOwnReference = true) →
      (x.kind = .snapshot → s.cleanExit.sweeps = true) → x ∈ s.cleanExit.sq.items) ∧
    ∀ x ∈ s.cleanExit.sq.items, (x ∈ s.resumed.sq.items ∨ x.kind.isLost = true ∨ x.kind = .snapshot) ∧
      (x.kind.isLost = true → s.cleanExit.isOwnReference = true) ∧ (x.kind = .snapshot → s.cleanExit.sweeps = true) := by
  obtain ⟨own, sweeps⟩ := State.cleanExit_duties muted
  have still : s.resumed.lc.inFlight = none := by rw [s.resumed_frame.2.2, quiet]
  have adds := State.adds_takeDuties (s := s.returned) (State.isOwnReference_of_muted muted)
  rw [← State.cleanExit_eq, s.returned_duties.1, s.returned_duties.2, s.returned_eq] at adds
  rw [own, sweeps]
  refine ⟨fun x listed lost sweep => adds.1 ((State.mem_shedDuties still).2 ⟨listed, lost, sweep⟩), fun x listed => ?_⟩
  rcases adds.2 x listed with there | new
  · obtain ⟨listed, duties⟩ := (State.mem_shedDuties still).1 there
    exact ⟨.inl listed, duties⟩
  · simp only [Bool.or_eq_true, Bool.and_eq_true, beq_iff_eq] at new
    rcases new with ⟨own, lost⟩ | ⟨sweeps, sweep⟩
    · refine ⟨.inr (.inl lost), fun _ => own, fun sweep => ?_⟩
      rw [sweep] at lost
      exact nomatch lost
    · refine ⟨.inr (.inr sweep), fun lost => ?_, fun _ => sweeps⟩
      rw [sweep] at lost
      exact nomatch lost

theorem State.cleanExit_hasLost (own : s.cleanExit.isOwnReference = true) {v : StationId} (peer : v ≠ s.own)
    (suspect : (s.cleanExit.record v).suspect = true) : s.cleanExit.hasItem (· == .lost v) = true := by
  have returned : s.returned.isOwnReference = true := by
    rw [s.returned_duties.1, ← (State.cleanExit_duties muted).1, own]
  have record : s.cleanExit.record v = s.returned.record v := State.record_congr (by rw [State.cleanExit_ru muted]) v
  rw [State.cleanExit_eq]
  refine State.takeDuties_hasLost (State.isOwnReference_of_muted muted) returned ?_ (record ▸ suspect)
  rw [State.own, s.returned_frame.1]
  exact peer

theorem State.cleanExit_startsSweep (sweeps : s.cleanExit.sweeps = true) :
    s.cleanExit.ru.cursor = 0 ∧ s.cleanExit.hasItem (· == .snapshot) = true := by
  have returned : s.returned.sweeps = true := by rw [s.returned_duties.2, ← (State.cleanExit_duties muted).2, sweeps]
  rw [State.cleanExit_eq]
  exact State.takeDuties_startsSweep (State.sweeps_of_muted muted) returned

end

/-- The clean exit through the close of its event, as O50 says it. -/
theorem State.cleanExit_closed {s : State} (muted : s.ru.state = .muted) (quiet : s.lc.inFlight = none) :
    let t := State.close s s.cleanExit
    t.ru.presenceTimer = some s.presenceMs ∧ t.ru.muteTimer = none ∧
      t.ru.state = .member ∧ t.sq.returnPending = true ∧ t.hasItem ItemKind.isPresence = true ∧
      (∀ q : PointId, s.pointUsed q = true → (t.point q).queued = true) ∧ t.et = s.et ∧
      t.ru.roster = s.ru.roster ∧
      (∀ q : PointId,
        (∀ n, (s.point q).reminder = .held n → (t.point q).reminder = .running n) ∧
        ((s.point q).reminder = .stopped →
          (t.point q).reminder = if t.mayRemind q = true then .running (t.reminderMs q) else .stopped)) ∧
      (t.namesItself →
        ∀ v : StationId, v ≠ s.cs.stationNumber → (t.record v).suspect = true → t.hasItem (· == .lost v) = true) ∧
      (¬t.namesItself → t.countItems ItemKind.isLost = 0) ∧
      (t.sweepCondition → t.ru.cursor = 0 ∧ t.hasItem (· == .snapshot) = true) ∧
      (¬t.sweepCondition → t.countItems (· == .snapshot) = 0) ∧ s.pushes t Record.isOutcome [] ∧
      (∀ x ∈ s.sq.items, (x.kind.isLost = true → t.namesItself) → (x.kind = .snapshot → t.sweepCondition) →
        x ∈ t.sq.items) ∧
      (∀ x ∈ t.sq.items, x ∈ s.sq.items ∨ x.kind.isPoint = true ∨ x.kind.isPresence = true ∨ x.kind.isLost = true ∨
        x.kind = .snapshot) := by
  intro t
  have cs : t.cs = s.cleanExit.cs := (State.close_frame _ _).1
  have ru : t.ru = s.cleanExit.ru := (State.close_frame _ _).2.2.1
  have sq : t.sq = s.cleanExit.sq := by simp [t]
  have own : t.namesItself ↔ s.cleanExit.isOwnReference = true := by
    rw [State.namesItself_iff, State.isOwnReference_congr cs (congrArg RosterUnit.state ru) (congrArg RosterUnit.roster ru)]
  have sweeps : t.sweepCondition ↔ s.cleanExit.sweeps = true := by
    rw [State.sweepCondition_iff, State.sweeps_congr cs ru]
  have exitRu := (State.cleanExit_ru muted).trans (by rw [State.returned_ru])
  have member : s.cleanExit.ru.state = .member := by rw [exitRu]
  obtain ⟨kept, came⟩ := State.cleanExit_items muted quiet
  have hasItem : ∀ k, t.hasItem k = s.cleanExit.hasItem k := fun k => by simp only [State.hasItem, sq]
  have none_of : ∀ k : ItemKind → Bool, (∀ x ∈ s.cleanExit.sq.items, k x.kind ≠ true) → t.countItems k = 0 := fun k no => by
    rw [State.countItems_eq_zero, hasItem]
    exact List.any_eq_false.2 no
  have record : ∀ u, t.record u = s.cleanExit.record u := State.record_congr (congrArg RosterUnit.roster ru)
  have presence : s.cleanExit.hasItem ItemKind.isPresence = true := by
    obtain ⟨x, listed, yes⟩ := List.any_eq_true.1 s.resumed_hasPresence
    refine List.any_eq_true.2 ⟨x, kept x listed (fun lost => ?_) (fun sweep => ?_), yes⟩
    · cases kind : x.kind <;> simp_all [ItemKind.isPresence, ItemKind.isLost]
    · rw [sweep] at yes
      exact nomatch yes
  refine ⟨by rw [ru, exitRu], by rw [ru, exitRu], by rw [ru, member], ?_, (hasItem _).trans presence, fun q used => ?_,
    by simp [t], by rw [ru, exitRu], fun q => ?_, fun names v peer suspect => ?_, fun other => ?_, fun sweep => ?_, fun idle => ?_,
    ?_, fun x listed lost sweep => ?_, fun x listed => ?_⟩
  · rw [sq, State.cleanExit_eq, State.takeDuties_mark, State.returned_eq, State.shedDuties_mark, s.resumed_mark]
  · rw [State.point_close]
    exact State.cleanExit_queued used
  · obtain ⟨held, stopped⟩ := s.cleanExit_reminder q
    rw [State.point_close, State.mayRemind_congr cs (by simp [t]) (by rw [ru]), State.reminderMs_congr cs]
    exact ⟨held, fun still => stopped still member⟩
  · rw [hasItem]
    exact State.cleanExit_hasLost muted (own.1 names) peer (by rw [← record]; exact suspect)
  · exact none_of _ fun x listed lost => other (own.2 ((came x listed).2.1 lost))
  · rw [ru, hasItem]
    exact State.cleanExit_startsSweep muted (sweeps.1 sweep)
  · exact none_of _ fun x listed snapshot => idle (sweeps.2 ((came x listed).2.2 (by simpa using snapshot)))
  · have silent : s.Pushed s.cleanExit [] := .nothing (by simp) (by simp)
    exact silent.close_outcomes s
  · rw [sq]
    exact kept x (s.resumed_adds.1 listed) (fun yes => own.1 (lost yes)) fun yes => sweeps.1 (sweep yes)
  · rw [sq] at listed
    rcases (came x listed).1 with there | duty
    · rcases s.resumed_adds.2 x there with old | new
      · exact .inl old
      · exact .inr ((Bool.or_eq_true_iff.1 new).elim (fun presence => .inr (.inl presence)) .inl)
    · exact .inr (.inr (.inr duty))

end Sys2Proof.Machine
end

section
/-! PROOF. The exit from MUTED by its entry state (R126, R127, R146), and O50. -/

namespace Sys2Proof.Machine

/-! ## The JOIN item of a first attempt (R113, R145, R146) -/

theorem placedAtTail_filter {flying : Option Item} {stale : List PointId} {s : State} (list : s.ListOk flying stale)
    (keep : Item → Bool) (kind : ItemKind) (cls : Fin 4) :
    placedAtTail (s.sq.items.filter keep) (insertItem { kind := kind, cls := cls, age := s.sq.nextAge } (s.sq.items.filter keep))
      { kind := kind, cls := cls, age := s.sq.nextAge } :=
  insertItem_tail _ _ (list.order.filter keep) fun y listed => list.young y (List.mem_filter.1 listed).1

theorem State.enterSyncing_items (s : State) : s.enterSyncing.sq.items =
    insertItem { kind := .join .resync, cls := 3, age := s.sq.nextAge }
      (s.sq.items.filter fun x => x.kind.isPoint || x.kind.isPresence || x.kind.isLeave) := by
  have kinds : ∀ i : ItemKind, (!i.isJoin && !i.leftAtSyncing) = (i.isPoint || i.isPresence || i.isLeave) := fun i => by
    cases i <;> rfl
  simp [State.enterSyncing, State.startResyncAttempt, State.startAttempt, State.replaceJoin, List.filter_filter, kinds]

theorem State.enterJoining_items (s : State) : s.enterJoining.sq.items =
    insertItem { kind := .join .join, cls := 3, age := s.sq.nextAge } (s.sq.items.filter fun x => !x.kind.isJoin) := by
  simp [State.enterJoining, State.startJoinAttempt, State.startAttempt, State.replaceJoin]

/-- With one item put to those kept, the list holds that one alone of a kind of which none is kept. -/
theorem countP_insert_filter {keep : Item → Bool} {k : ItemKind → Bool} (apart : ∀ x, keep x = true → k x.kind = false)
    (x : Item) (l : List Item) : (insertItem x (l.filter keep)).countP (fun y => k y.kind) = if k x.kind then 1 else 0 := by
  have none : (l.filter keep).countP (fun y => k y.kind) = 0 :=
    List.countP_eq_zero.2 fun y listed => by simp [apart y (List.mem_filter.1 listed).2]
  rw [countP_insertItem, none, Nat.zero_add]

theorem withdrawnRecord_of_kept {x : Item} (kept : x.kind.leftAtSyncing = false) : withdrawnRecord x = none := by
  unfold withdrawnRecord
  cases kind : x.kind <;> simp_all [ItemKind.leftAtSyncing]

theorem ItemKind.apart_of_kept {i : ItemKind} (kept : (i.isPoint || i.isPresence || i.isLeave) = true) :
    i.isClaim = false ∧ i.isLost = false ∧ i.isPurge = false ∧ (i == .snapshot) = false ∧ i.isJoin = false := by
  cases i with
  | point p => exact ⟨rfl, rfl, rfl, rfl, rfl⟩
  | presence n => exact ⟨rfl, rfl, rfl, rfl, rfl⟩
  | leave c => exact ⟨rfl, rfl, rfl, rfl, rfl⟩
  | _ => exact nomatch kept

/-! ## The exits to SYNCING and JOINING as wholes -/

/-- The entry to SYNCING from MUTED through the close of its event, as O50 says it. -/
theorem State.enterSyncing_closed {s : State} (list : s.ListOk none []) (quiet : s.lc.inFlight = none) :
    let t := State.close s s.enterSyncing
    t.ru.presenceTimer = some s.presenceMs ∧ t.ru.muteTimer = none ∧
      t.ru.state = .syncing ∧ t.ru.attempt = 1 ∧ t.ru.joinMode = some .resync ∧
      t.ru.attemptTimer = some (8 * s.presenceMs) ∧ t.et = s.et ∧ t.ru.roster = s.ru.roster ∧
      s.pushes t Record.isOutcome (s.sq.items.filterMap withdrawnRecord) ∧
      t.countItems ItemKind.isClaim = 0 ∧ t.countItems ItemKind.isLost = 0 ∧ t.countItems ItemKind.isPurge = 0 ∧
      t.countItems (· == .snapshot) = 0 ∧ s.keepsAtSyncing t ∧
      placedAtTail (s.sq.items.filter fun x => x.kind.isPoint || x.kind.isPresence || x.kind.isLeave) t.sq.items
        { kind := .join .resync, cls := 3, age := s.sq.nextAge } ∧ t.ru.ownJoin = false ∧
      (∀ i : EntryIndex, t.ru.coverage[i] = false) ∧
      t.countItems ItemKind.isJoin = 1 ∧ t.hasItem (· == .join .resync) = true ∧
      ∀ q : PointId, (t.point q).reminder = .stopped := by
  intro t
  have ru : t.ru = _ := (State.close_frame s.enterSyncing s).2.2.1.trans s.enterSyncing_ru
  have items : t.sq.items = _ := (congrArg SendQueue.items (by simp [t])).trans s.enterSyncing_items
  have count : ∀ k : ItemKind → Bool,
      (∀ i : ItemKind, (i.isPoint || i.isPresence || i.isLeave) = true → k i = false) →
      t.countItems k = if k (.join .resync) then 1 else 0 := fun k apart => by
    rw [State.countItems, items]
    exact countP_insert_filter (fun x kept => apart x.kind kept) _ _
  have outcomes : s.pushes t Record.isOutcome (s.sq.items.filterMap withdrawnRecord) := by
    rw [← filter_isOutcome_withdrawn, ← State.removalOutcomes_of_quiet quiet (k := ItemKind.leftAtSyncing)
      fun x => withdrawnRecord_of_kept]
    exact s.pushed_enterSyncing.close_outcomes s
  have kept : ∀ x ∈ s.sq.items, (x.kind.isPoint || x.kind.isPresence || x.kind.isLeave) = true → x ∈ t.sq.items :=
    fun x listed stays => by
      rw [items, mem_insertItem]
      exact .inr (List.mem_filter.2 ⟨listed, stays⟩)
  have syncing : t.ru.state = .syncing := by rw [ru]
  have counts : t.countItems ItemKind.isClaim = 0 ∧ t.countItems ItemKind.isLost = 0 ∧ t.countItems ItemKind.isPurge = 0 ∧
      t.countItems (· == .snapshot) = 0 ∧ t.countItems ItemKind.isJoin = 1 := by
    refine ⟨count _ fun i stays => ?_, count _ fun i stays => ?_, count _ fun i stays => ?_, count _ fun i stays => ?_,
      count _ fun i stays => ?_⟩
    all_goals
      obtain ⟨claim, lost, purge, snapshot, join⟩ := ItemKind.apart_of_kept stays
      assumption
  obtain ⟨claim, lost, purge, snapshot, join⟩ := counts
  refine ⟨by rw [ru], by rw [ru], syncing, by rw [ru], by rw [ru], by rw [ru], by simp [t], by rw [ru], outcomes, claim, lost,
    purge, snapshot,
    ⟨by simp [t, quiet], fun x listed point => ⟨kept x listed (by simp [point]), ?_⟩,
      fun x listed presence => ⟨kept x listed (by simp [presence]), .inr (.inl ⟨.inr syncing, .inl presence⟩)⟩⟩, ?_,
    by rw [ru], fun i => by simp [ru], join, ?_, fun q => by rw [State.point_close, State.point_enterSyncing]⟩
  · cases kind : x.kind <;> simp_all [ItemKind.isPoint, ItemKind.isPresence, ItemKind.isJoin, ItemKind.isLeave]
  · rw [items]
    exact placedAtTail_filter list _ _ _
  · refine List.any_eq_true.2 ⟨{ kind := .join .resync, cls := 3, age := s.sq.nextAge }, ?_, by simp⟩
    rw [items, mem_insertItem]
    exact .inl rfl

/-- The entry to JOINING from MUTED through the close of its event, as O50 says it. -/
theorem State.enterJoining_closed {s : State} (list : s.ListOk none []) :
    let t := State.close s s.enterJoining
    t.ru.presenceTimer = some s.presenceMs ∧ t.ru.muteTimer = none ∧
      t.ru.state = .joining ∧ t.ru.attempt = 1 ∧ t.ru.joinMode = some .join ∧
      t.ru.attemptTimer = some (8 * s.presenceMs) ∧ t.et.countValid = false ∧
      (∀ i : EntryIndex, t.entry i = Entry.pristine) ∧ (∀ u : StationId, t.record u = RosterRecord.absent) ∧
      s.pushes t Record.isOutcome [] ∧
      placedAtTail (s.sq.items.filter fun x => !x.kind.isJoin) t.sq.items
        { kind := .join .join, cls := 3, age := s.sq.nextAge } ∧
      t.ru.ownJoin = false ∧ (∀ i : EntryIndex, t.ru.coverage[i] = false) ∧
      t.countItems ItemKind.isJoin = 1 ∧ t.hasItem (· == .join .join) = true ∧
      ∀ q : PointId, (t.point q).reminder = .stopped := by
  intro t
  have ru : t.ru = _ := (State.close_frame s.enterJoining s).2.2.1.trans s.enterJoining_ru
  have et : t.et = { s.et with table := Vector.replicate 256 Entry.pristine, countValid := false } := by
    simp [t, State.enterJoining, State.startJoinAttempt_et]
  have items : t.sq.items = _ := (congrArg SendQueue.items (by simp [t])).trans s.enterJoining_items
  have silent : s.Pushed s.enterJoining [] := .nothing (by simp) (by simp)
  refine ⟨by rw [ru], by rw [ru], by rw [ru], by rw [ru], by rw [ru], by rw [ru], by rw [et], fun i => by simp [State.entry, et],
    fun u => by simp [State.record, ru], silent.close_outcomes s, ?_, by rw [ru], fun i => by simp [ru], ?_, ?_,
    fun q => by rw [State.point_close, State.point_enterJoining]⟩
  · rw [items]
    exact placedAtTail_filter list _ _ _
  · rw [State.countItems, items]
    exact countP_insert_filter (k := ItemKind.isJoin) (fun x kept => by simpa using kept) _ _
  · refine List.any_eq_true.2 ⟨{ kind := .join .join, cls := 3, age := s.sq.nextAge }, ?_, by simp⟩
    rw [items, mem_insertItem]
    exact .inl rfl

/-! ## The obligation -/

/-- Settles O50, by the entry state and the mark of a doubtful table. -/
theorem muteEndsByEntryState : Obligations.MuteEndsByEntryState := by
  intro s sound muted
  obtain ⟨-, -, muteTimer, entryState, -⟩ := sound.settled.timers
  have inMuted : s.inState .muted = true := State.inState_iff.2 muted
  have quiet : s.lc.inFlight = none := sound.line.quiet_of (by rw [muted]; rfl)
  have list : s.ListOk none [] := sound.settled.list.landed
  have run : exec .muteTimerExpiry s = .next (State.close s s.leaveMuted) :=
    congrArg Host.Outcome.next (if_pos ⟨inMuted, muteTimer.trans inMuted⟩)
  obtain ⟨e, entry⟩ := Option.isSome_iff_exists.1 (entryState.trans inMuted)
  have blocks : (State.close s s.leaveMuted).cs = s.cs ∧ (State.close s s.leaveMuted).lc = s.lc ∧
      (State.close s s.leaveMuted).pending = s.pending := by simp
  cases e with
  | member =>
    cases doubtful : s.ru.doubtful with
    | false =>
      have exit : s.leaveMuted = s.cleanExit := by rw [State.leaveMuted, entry, doubtful]; rfl
      rw [exit] at run blocks
      obtain ⟨cs, lc, pending⟩ := blocks
      obtain ⟨presence, mute, ends⟩ := State.cleanExit_closed muted quiet
      exact ⟨_, run, presence, mute, cs, lc, pending, fun _ _ => ends, by simp [entry], by simp [entry]⟩
    | true =>
      have exit : s.leaveMuted = s.enterSyncing := by rw [State.leaveMuted, entry, doubtful]; rfl
      rw [exit] at run blocks
      obtain ⟨cs, lc, pending⟩ := blocks
      obtain ⟨presence, mute, ends⟩ := State.enterSyncing_closed list quiet
      exact ⟨_, run, presence, mute, cs, lc, pending, by simp, fun _ => ends, by simp [entry]⟩
  | joining =>
    have exit : s.leaveMuted = s.enterJoining := by rw [State.leaveMuted, entry]
    rw [exit] at run blocks
    obtain ⟨cs, lc, pending⟩ := blocks
    obtain ⟨presence, mute, ends⟩ := State.enterJoining_closed list
    exact ⟨_, run, presence, mute, cs, lc, pending, by simp [entry], by simp [entry], fun _ => ends⟩
  | syncing =>
    have exit : s.leaveMuted = s.enterSyncing := by rw [State.leaveMuted, entry]
    rw [exit] at run blocks
    obtain ⟨cs, lc, pending⟩ := blocks
    obtain ⟨presence, mute, ends⟩ := State.enterSyncing_closed list quiet
    exact ⟨_, run, presence, mute, cs, lc, pending, by simp [entry], fun _ => ends, by simp [entry]⟩

end Sys2Proof.Machine
end

section
/-! PROOF. The points after another station's frame (R35, R40, R43, R141), for O43 and O46. -/

namespace Sys2Proof.Machine

/-! ## The announce checks of a frame (R35) -/

/-- A MEMBER's used point whose pairs differ, queued or not (R35). -/
def State.differs (s : State) (p : PointId) : Bool := s.inState .member && s.pointUsed p && !s.pairsEqual p

theorem State.point_announceCheck_unforced (s : State) (p q : PointId) : (s.announceCheck p false).point q =
    if q = p then { s.point q with queued := (s.point q).queued || s.differs q } else s.point q := by
  rw [State.point_announceCheck]
  by_cases same : q = p
  · subst same
    have due : s.announcesPoint q false = (s.differs q && !(s.point q).queued) := by
      simp only [State.announcesPoint, State.differs, Bool.or_false]
      ac_rfl
    simp only [due, true_and, if_true]
    cases queued : (s.point q).queued <;> cases s.differs q <;> simp [← queued]
  · simp [same]

theorem State.differs_announceCheck (s : State) (p q : PointId) : (s.announceCheck p false).differs q = s.differs q := by
  simp only [State.differs, State.pairsEqual_announceCheck, State.inState, State.announceCheck_frame,
    State.pointUsed_congr (State.announceCheck_frame s p false).1]

/-- Every point whose own entry the frame changed is queued where its pairs differ, and no other (R35). -/
theorem State.point_checkChanged (old s : State) (q : PointId) : (State.checkChanged old s).point q =
    { s.point q with queued := (s.point q).queued ||
        (!(old.ownEntry q).sameReplicated (s.ownEntry q) && s.differs q) } := by
  have fold : ∀ (l : List PointId) (u : State), u.differs q = s.differs q →
      (l.foldl (fun u p => if (old.ownEntry p).sameReplicated (s.ownEntry p) then u else u.announceCheck p false) u).point q =
        { u.point q with queued := (u.point q).queued ||
            (decide (q ∈ l) && !(old.ownEntry q).sameReplicated (s.ownEntry q) && s.differs q) } := by
    intro l
    induction l with
    | nil => exact fun u _ => by simp
    | cons p rest ih =>
      intro u same
      rw [List.foldl_cons]
      split
      · rename_i unchanged
        rw [ih u same]
        by_cases here : q = p
        · simp [here, unchanged]
        · simp [here]
      · rename_i changed
        rw [ih _ ((u.differs_announceCheck p q).trans same), State.point_announceCheck_unforced]
        by_cases here : q = p
        · subst here
          rw [same]
          cases s.differs q <;> simp [changed]
        · simp [here]
  rw [State.checkChanged, fold _ s rfl]
  simp

/-! ## The points once the frame is taken (R35, R40, R43, R141) -/

theorem State.purgesOwnOrigin_iff (s : State) (n : Notice) : s.purgesOwnOrigin n ↔
    ∃ o, n = .purge o ∧ byteTo16 o = some s.own ∧ (s.record s.own).state.gone = true := by
  have named : ∀ o : Byte, byteTo16 o = some s.own ↔ o = BitVec.ofNat 8 s.own.1 := by
    refine fun o => ⟨fun read => ?_, fun same => by rw [same, byteTo16_ofNat]⟩
    unfold byteTo16 at read
    split at read
    · rw [← Option.some.inj read, BitVec.ofNat_toNat, BitVec.setWidth_eq]
    · exact nomatch read
  simp only [State.purgesOwnOrigin, RosterState.gone_iff]
  constructor
  · rintro ⟨rfl, gone⟩
    exact ⟨_, rfl, (named _).2 rfl, gone⟩
  · rintro ⟨o, rfl, own, gone⟩
    exact ⟨by rw [(named o).1 own]; rfl, gone⟩

/-- PU's resets at a frame write reminder counts alone (R43). -/
theorem State.point_settlePurged {old s : State} (cs : s.cs = old.cs) (n : Notice) (q : PointId) :
    (State.settlePurged old s n).point q =
        { s.point q with pendingReminders := ((State.settlePurged old s n).point q).pendingReminders } ∧
      (old.purgesOwnOrigin n → ((State.settlePurged old s n).point q).pendingReminders = 0) ∧
      (¬old.purgesOwnOrigin n → ((State.settlePurged old s n).point q).pendingReminders = (s.point q).pendingReminders) := by
  have own : s.own = old.own := congrArg ConfigStore.stationNumber cs
  rw [State.purgesOwnOrigin_iff]
  cases n with
  | purge o =>
    simp only [State.settlePurged, own]
    split
    · rename_i reset
      rw [State.resetPending_point]
      exact ⟨rfl, fun _ => rfl, fun no => absurd ⟨o, rfl, reset⟩ no⟩
    · rename_i stands
      refine ⟨rfl, ?_, fun _ => rfl⟩
      rintro ⟨o', same, reset⟩
      obtain rfl := Notice.purge.inj same
      exact absurd reset stands
  | _ =>
    refine ⟨rfl, ?_, fun _ => rfl⟩
    rintro ⟨o, same, -⟩
    exact nomatch same

/-- A valid LOST that names this station, in the words of the statements (R140, R141). -/
theorem State.losesItself_iff (s : State) (sender : StationId) (n : Notice) : s.losesItself sender n ↔
    ∃ p, n = .lost p ∧ lostTarget p = s.own ∧ (s.judged sender none n).lostValid s.own (lostCount p) = true := by
  refine exists_congr fun p => and_congr_right ?_
  rintro rfl
  have plain : ∀ p', Notice.lost p ≠ .snapshot p' := fun _ => Notice.noConfusion
  refine and_congr (by rw [Fin.ext_iff, lostTarget_val, State.own]) ?_
  have heard : ((s.judged sender none (.lost p)).record s.cs.stationNumber).lastHeard =
      if s.cs.stationNumber = sender then s.heardAt else (s.record s.cs.stationNumber).lastHeard := by
    split
    · rename_i same
      rw [same, State.judged_lastHeard sender (.inl plain)]
    · rename_i other
      rw [State.judged_record, if_neg other]
  simp only [State.lostValid, Bool.and_eq_true, State.judged_state, heard, RosterState.live_iff, lostCount, State.own]
  refine and_congr_right fun _ => ?_
  generalize (if s.cs.stationNumber = sender then s.heardAt else (s.record s.cs.stationNumber).lastHeard) = count
  cases p.target.getLsbD 7 <;> cases count <;> simp [eq_comm (a := p.lastHeard)]

/-- A station that hears itself declared lost queues its used points (R141). -/
theorem State.point_recoverFromLost (judged s : State) (n : Notice) (q : PointId) :
    (State.recoverFromLost judged s n).point q =
        { s.point q with queued := ((State.recoverFromLost judged s n).point q).queued } ∧
      (((State.recoverFromLost judged s n).point q).queued = true ↔ (s.point q).queued = true ∨
        (s.ru.state = .member ∧ s.pointUsed q = true ∧
          ∃ p, n = .lost p ∧ lostTarget p = s.own ∧ judged.lostValid s.own (lostCount p) = true)) := by
  cases n with
  | lost p =>
    simp only [State.recoverFromLost]
    split
    · rename_i lost
      obtain ⟨member, target, valid⟩ := lost
      have asked : ∀ r, s.requestPresence.point r = s.point r := State.point_congr (by simp)
      have used : s.requestPresence.pointUsed q = s.pointUsed q := State.pointUsed_congr (by simp) q
      rw [State.point_reannounceAll, used, asked]
      split
      · rename_i yes
        exact ⟨rfl, iff_of_true rfl (.inr ⟨State.inState_iff.1 member, yes, p, rfl, target, valid⟩)⟩
      · rename_i no
        exact ⟨rfl, .inl, fun either => either.elim id fun rest => absurd rest.2.1 no⟩
    · rename_i stands
      refine ⟨rfl, .inl, fun either => either.elim id ?_⟩
      rintro ⟨member, -, p', same, target, valid⟩
      obtain rfl := Notice.lost.inj same
      exact absurd ⟨State.inState_iff.2 member, target, valid⟩ stands
  | _ =>
    refine ⟨rfl, .inl, fun either => either.elim id ?_⟩
    rintro ⟨-, -, p, same, -⟩
    exact nomatch same

theorem State.ownEntry_congr {s t : State} (cs : t.cs = s.cs) (et : t.et = s.et) (q : PointId) : t.ownEntry q = s.ownEntry q := by
  simp only [State.ownEntry, State.entry, State.own, cs, et]

/-- The points once another station's frame is taken, in the words of O46 (R35, R40, R43, R141). -/
theorem State.taken_points {s : State} (applies : s.applies = true) (sender : StationId) (n : Notice) (q : PointId) :
    let t := s.taken sender none n
    t.point q = { s.point q with
      reminder := if (t.ownEntry q).phase.pending then (s.point q).reminder else .stopped
      pendingReminders := (t.point q).pendingReminders
      queued := (t.point q).queued } ∧
    (s.purgesOwnOrigin n → (t.point q).pendingReminders = 0) ∧
    (¬s.purgesOwnOrigin n → (t.point q).pendingReminders = (s.point q).pendingReminders) ∧
    ((t.point q).queued = true ↔ (s.point q).queued = true ∨ (s.ru.state = .member ∧ s.pointUsed q = true ∧
      (((s.ownEntry q).sameReplicated (t.ownEntry q) = false ∧ t.pairsEqual q = false) ∨ s.losesItself sender n))) := by
  intro t
  have begun := (s.begun_none_applies n).trans applies
  let u := s.applied sender none n
  let v := (State.settlePurged s u n).stopSettledReminders
  have settled : State.settlePoints s u none n = State.checkChanged s v := rfl
  have pu : t.pu = (State.recoverFromLost (s.judged sender none n) (State.checkChanged s v) n).pu := by
    simp only [t, State.taken_eq, State.settleQueue_frame, State.applyFrame_of_applies sender begun, ← settled, u]
  have tcs : t.cs = s.cs := (State.taken_frame sender begun).1
  have tet : t.et = u.et := (State.taken_frame sender begun).2.1
  have ucs : u.cs = s.cs := s.applied_cs sender none n
  have vcs : v.cs = s.cs := by simp [v, ucs]
  have vet : v.et = u.et := by simp [v]
  have upoint : u.point q = s.point q := State.point_congr (by simp [u, State.applied, (s.judged_frame sender none n).2.1]) q
  have state : v.ru.state = s.ru.state := by
    have taken : t.ru = u.ru := by rw [(State.taken_frame sender begun).2.2.1, State.moveCursor_none]
    have kept : v.ru = u.ru := by simp [v]
    rw [kept, ← taken]
    exact (s.taken_standing sender none n).1
  obtain ⟨purged, reset, stands⟩ := State.point_settlePurged (old := s) ucs n q
  obtain ⟨recovered, queued⟩ := State.point_recoverFromLost (s.judged sender none n) (State.checkChanged s v) n q
  have vpoint : v.point q = { s.point q with
      reminder := if (t.ownEntry q).phase.pending then (s.point q).reminder else .stopped
      pendingReminders := ((State.settlePurged s u n).point q).pendingReminders } := by
    have entry : (State.settlePurged s u n).ownEntry q = t.ownEntry q :=
      (State.ownEntry_congr (s := u) (by simp) (by simp) q).trans (State.ownEntry_congr (s := t) (ucs.trans tcs.symm) tet.symm q)
    rw [State.point_stopSettledReminders, entry, purged, upoint]
    split <;> rfl
  have checked := State.point_checkChanged s v q
  have point : t.point q = { v.point q with queued := (t.point q).queued } := by
    rw [State.point_congr pu, recovered, checked]
  have pending : (t.point q).pendingReminders = ((State.settlePurged s u n).point q).pendingReminders := by
    rw [point, vpoint]
  have pairs : t.pairsEqual q = v.pairsEqual q :=
    State.pairsEqual_congr (tcs.trans vcs.symm) (tet.trans vet.symm) (by rw [point]) (by rw [point]) (by rw [point])
  have due : (t.point q).queued = true ↔ ((s.point q).queued = true ∨
      ((s.ownEntry q).sameReplicated (t.ownEntry q) = false ∧ s.ru.state = .member ∧ s.pointUsed q = true ∧
        t.pairsEqual q = false)) ∨ (s.ru.state = .member ∧ s.pointUsed q = true ∧ s.losesItself sender n) := by
    have entry : v.ownEntry q = t.ownEntry q := State.ownEntry_congr (vcs.trans tcs.symm) (vet.trans tet.symm) q
    have changed : (State.checkChanged s v).cs = s.cs := by simp [vcs]
    have same : (State.checkChanged s v).ru.state = s.ru.state := by simp [state]
    rw [State.point_congr pu, queued, checked, vpoint, same, State.pointUsed_congr changed,
      show (State.checkChanged s v).own = s.own from congrArg ConfigStore.stationNumber changed, ← State.losesItself_iff, entry]
    simp only [State.differs, Bool.or_eq_true, Bool.and_eq_true, Bool.not_eq_true', State.inState_iff, state,
      State.pointUsed_congr vcs, pairs, and_assoc]
  refine ⟨?_, fun yes => pending.trans (reset yes), fun no => ?_, ?_⟩
  · rw [pending]
    exact point.trans (by rw [vpoint])
  · rw [pending, stands no, upoint]
  · rw [due, or_assoc]
    refine or_congr_right ⟨?_, ?_⟩
    · rintro (⟨changed, member, used, differ⟩ | ⟨member, used, lost⟩)
      · exact ⟨member, used, .inl ⟨changed, differ⟩⟩
      · exact ⟨member, used, .inr lost⟩
    · rintro ⟨member, used, ⟨changed, differ⟩ | lost⟩
      · exact .inl ⟨changed, member, used, differ⟩
      · exact .inr ⟨member, used, lost⟩

end Sys2Proof.Machine
end

section
/-! PROOF. The pairs, the reminder timers and the points at another station's frame (R35, R39, R40, R43, R141), for O46. -/

namespace Sys2Proof.Machine

/-! ## What the pairs and the reminder timers are (R35, R39, R176) -/

theorem State.pairsEqual_iff (s : State) (q : PointId) : s.pairsEqual q = true ↔
    (s.point q).qualified = (s.ownEntry q).condition ∧ (s.point q).occurrence = (s.ownEntry q).occurrence ∧
      (s.point q).pendingReminders = (s.ownEntry q).reminders := by
  simp [State.pairsEqual, and_assoc]

theorem State.reminderMs_of_loaded {s : State} {u : Setup} {f : Profile} (setup : s.cs.setup = some u)
    (profile : s.cs.profile = some f) (q : PointId) : s.reminderMs q =
      1000 * (f.categories[(u.points[q] : PointSetup).category] : Category).reminderInterval.toNat := by
  simp [State.reminderMs, State.pointCategory, State.pointSetup, State.category, setup, profile]

theorem State.mayRemind_iff (s : State) (q : PointId) : s.mayRemind q = true ↔
    ∃ (u : Setup) (f : Profile), s.cs.setup = some u ∧ s.cs.profile = some f ∧
      (u.points[q] : PointSetup).source ≠ .unused ∧
      (f.categories[(u.points[q] : PointSetup).category] : Category).reminderInterval ≠ 0 ∧
      ((s.ownEntry q).phase = .raised ∨ (s.ownEntry q).phase = .lapsed) ∧ s.ru.state = .member := by
  have on : ∀ b : Byte, 1000 * b.toNat ≠ 0 ↔ b ≠ 0 := fun b => by
    rw [Ne, Nat.mul_eq_zero, or_iff_right (by decide)]
    exact not_congr (byte_toNat_eq_zero b)
  simp only [State.mayRemind, Bool.and_eq_true, bne_iff_ne, Phase.pending_iff, State.inState_iff]
  cases setup : s.cs.setup with
  | none => simp [State.pointUsed, State.pointSource, State.pointSetup, setup]
  | some u =>
    cases profile : s.cs.profile with
    | none => simp [State.reminderMs, State.pointCategory, State.pointSetup, State.category, setup, profile]
    | some f =>
      rw [State.reminderMs_of_loaded setup profile, on]
      simp [State.pointUsed, State.pointSource, State.pointSetup, setup, and_assoc]

/-! ## The points at another station's frame, own state kept -/

theorem State.moved_pu_of_stays {s : State} (applies : s.applies = true) (sender : StationId) (n : Notice)
    (stays : (s.moved sender none n).ru.state = s.ru.state) : (s.moved sender none n).pu = (s.taken sender none n).pu := by
  cases n with
  | presence p =>
    refine State.settlePresence_cases (old := s) (P := fun t : State => t.ru.state = s.ru.state →
      t.pu = (s.taken sender none (.presence p)).pu)
      (State.not_listening_of_applies applies) sender p
      (fun _ => rfl) (fun _ => by simp) (fun member state => ?_) (fun completes state => ?_) stays
    · rw [State.enterSyncing_ru, member] at state
      exact nomatch state
    · have attempts := State.attempts_of_appliesSegments (Bool.and_eq_true_iff.1 completes).1
      rw [State.complete_ru] at state
      rw [← state] at attempts
      exact nomatch attempts
  | _ => rfl

theorem State.foreign_points {s : State} (applies : s.applies = true) (sender : StationId) (n : Notice) (q : PointId)
    (stays : (s.foreign sender n).ru.state = s.ru.state) :
    let t := s.foreign sender n
    (t.point q).reminder =
        (if (t.ownEntry q).phase = .raised ∨ (t.ownEntry q).phase = .lapsed then (s.point q).reminder else .stopped) ∧
      (s.purgesOwnOrigin n → (t.point q).pendingReminders = 0) ∧
      (¬s.purgesOwnOrigin n → (t.point q).pendingReminders = (s.point q).pendingReminders) ∧
      ((t.point q).queued = true ↔ (s.point q).queued = true ∨
        (s.ru.state = .member ∧ s.pointUsed q = true ∧
          (({ t.ownEntry q with raiseStamp := 0 } ≠ { s.ownEntry q with raiseStamp := 0 } ∧ t.pairsEqual q = false) ∨
            s.losesItself sender n))) := by
  intro t
  have point : t.point q = (s.taken sender none n).point q := by
    refine State.point_congr ?_ q
    rw [← State.moved_pu_of_stays applies sender n ((s.foreign_state sender n).symm.trans stays)]
    simp [t, State.foreign, State.dutiful_eq]
  have cs : t.cs = (s.taken sender none n).cs := by
    rw [(State.taken_frame sender ((s.begun_none_applies n).trans applies)).1]
    exact s.foreign_cs sender n
  have et : t.et = (s.taken sender none n).et := by
    rw [(State.taken_frame sender ((s.begun_none_applies n).trans applies)).2.1]
    exact State.foreign_et sender applies
  obtain ⟨written, reset, kept, queued⟩ := State.taken_points applies sender n q
  have pairs : t.pairsEqual q = (s.taken sender none n).pairsEqual q :=
    State.pairsEqual_congr cs et (by rw [point]) (by rw [point]) (by rw [point])
  rw [point, pairs, State.ownEntry_congr cs et]
  refine ⟨?_, reset, kept, ?_⟩
  · rw [written]
    simp only [Phase.pending_iff]
  · rw [queued, ← Bool.not_eq_true, Entry.sameReplicated_iff]

end Sys2Proof.Machine
end

section
/-! PROOF. The own POINT frame: its point's item leaves or is queued again (R35, R37, R39, R118), for O46. -/

namespace Sys2Proof.Machine

/-! ## Where nothing is announced and no duty changes (R35, R138) -/

theorem State.checkChanged_of_other (old : State) {s : State} (other : s.ru.state ≠ .member) : State.checkChanged old s = s := by
  have quiet : s.inState .member = false := by simpa [State.inState] using other
  refine List.foldlRecOn (motive := fun u : State => u = s) _ _ rfl fun u same p _ => ?_
  subst same
  split
  · rfl
  · simp [State.announceCheck, quiet]

theorem State.adds_announceCheck (s : State) (p : PointId) (forced : Bool) :
    State.Adds ItemKind.isPoint s (s.announceCheck p forced) := by
  unfold State.announceCheck
  split
  · exact s.adds_queuePoint p
  · exact .of_items rfl

theorem State.adds_checkChanged (old s : State) : State.Adds ItemKind.isPoint s (State.checkChanged old s) := by
  refine State.Adds.foldl (fun u p => ?_) _ s
  split
  · exact .of_items rfl
  · exact u.adds_announceCheck p false

theorem State.takeDuties_of_neither {old s : State} (before : old.isOwnReference = false) (after : s.isOwnReference = false) :
    State.takeDuties old s = s := by
  have idle : s.sweeps = false := by simp [State.sweeps, after]
  simp [State.takeDuties, before, after, idle]

/-- The duties come and go without the points' items (R138, R139, R150, R152). -/
theorem State.takeDuties_keepsPoint (old s : State) {y : Item} (listed : y ∈ s.sq.items) (point : y.kind.isPoint = true) :
    y ∈ (State.takeDuties old s).sq.items := by
  unfold State.takeDuties
  extract_lets s1 s2
  have first : y ∈ s1.sq.items := by
    simp only [s1]
    split
    · refine List.mem_filter.2 ⟨listed, ?_⟩
      cases kind : y.kind <;> simp_all [ItemKind.isPoint, ItemKind.isLost]
    · exact listed
  have second : y ∈ s2.sq.items := by
    simp only [s2]
    split
    · exact s1.adds_requestAllLost.1 first
    · exact first
  split
  · exact s2.adds_startSweep.1 second
  · exact second

/-! ## The frame applied, before the own point is settled -/

/-- The own POINT frame applied and checked, its own point still to be settled. -/
def State.checked (s : State) (sender : StationId) (x : Item) (p : PointPayload) : State :=
  State.checkChanged s (s.applied sender (some x) (.point p)).stopSettledReminders

theorem State.applyFrame_own_point {s : State} (applies : s.applies = true) (sender : StationId) {x : Item} (p : PointPayload)
    {q : PointId} (kind : x.kind = .point q) :
    State.applyFrame s (s.begun (some x) (.point p)) sender (some x) (.point p) = (s.checked sender x p).settlePoint x q := by
  rw [State.applyFrame_of_applies sender (State.begun_applies_of applies x _)]
  simp only [State.recoverFromLost, State.settlePoints, State.settlePurged, State.settleOwnPoint, kind]
  rfl

theorem State.checked_frame (s : State) (sender : StationId) (x : Item) (p : PointPayload) :
    (s.checked sender x p).cs = s.cs ∧ (s.checked sender x p).et = (s.applied sender (some x) (.point p)).et ∧
      (s.checked sender x p).ru.state = s.ru.state := by
  have control := (s.judged_control sender (some x) (.point p)).trans
    (State.applyKind_sameControl _ sender ((s.begun (some x) (.point p)).takesSegment sender) (.point p)
      fun _ snapshot => Notice.noConfusion snapshot)
  have state : (s.applied sender (some x) (.point p)).ru.state = s.ru.state :=
    control.state.trans (s.begun_standing (some x) (.point p)).1
  simp [State.checked, State.applied_cs, state]

/-- The frame's checks stop a reminder timer and set a queued flag, no more (R35, R40). -/
theorem State.point_checkChanged_stopSettled (old s : State) (q : PointId) :
    (State.checkChanged old s.stopSettledReminders).point q = { s.point q with
      reminder := if (s.ownEntry q).phase.pending = true then (s.point q).reminder else .stopped
      queued := ((State.checkChanged old s.stopSettledReminders).point q).queued } := by
  rw [State.point_checkChanged, State.point_stopSettledReminders]
  split <;> rfl

theorem State.applied_unmoved (s : State) (sender : StationId) (x : Item) (p : PointPayload) :
    (s.applied sender (some x) (.point p)).pu = s.pu ∧ (s.applied sender (some x) (.point p)).sq = s.sq := by
  obtain ⟨-, pu, sq, -⟩ := s.judged_frame sender (some x) (.point p)
  simp [State.applied, pu, sq]

section
variable {s : State} (sound : s.Sound) {f : InFlight} (flight : s.lc.inFlight = some f) (sender : StationId) (p : PointPayload)
include sound flight

theorem State.landed_point (answered : s.ru.deferredExpiry = false) : s.landed sender f.item (.point p) =
    State.close s (State.takeDuties s (s.taken sender (some f.item) (.point p))) :=
  State.landed_of_answered sound flight sender (.point p) answered

theorem State.listOk_checked : (s.checked sender f.item p).ListOk (some f.item) [] := by
  have begun : (s.begun (some f.item) (.point p)).Settled (some f.item) :=
    ((sound.flying flight).takeFrame (.inl rfl)).markOwnJoin (some f.item) (.point p)
  have applied : (s.applied sender (some f.item) (.point p)).ListOk (some f.item) [] := (begun.applyCore sender (.point p)).list
  exact applied.stopSettledReminders.checkChanged (old := s)

end

theorem State.taken_point_pu {s : State} (applies : s.applies = true) (sender : StationId) {x : Item} (p : PointPayload)
    {q : PointId} (kind : x.kind = .point q) :
    (s.taken sender (some x) (.point p)).pu = ((s.checked sender x p).settlePoint x q).pu := by
  rw [State.taken_eq, State.applyFrame_own_point applies sender p kind]
  exact (State.settleQueue_frame _ s sender (some x) (.point p)).2.2.1

theorem State.taken_point_state (s : State) (sender : StationId) (x : Item) (p : PointPayload) :
    (s.taken sender (some x) (.point p)).ru.state = s.ru.state :=
  ((s.taken_control_own sender x (n := .point p) fun _ => Notice.noConfusion).state).trans
    (s.begun_standing (some x) (.point p)).1

/-! ## A point whose item a LEAVE command took out (R37, R120) -/

theorem State.settlePoint_of_gone {s : State} {x : Item} (gone : ∀ y ∈ s.sq.items, y.age ≠ x.age) (other : s.ru.state ≠ .member)
    (q : PointId) : s.settlePoint x q = s := by
  have none : (s.sq.items.find? fun y => y.age == x.age) = none :=
    List.find?_eq_none.2 fun y listed => by simpa using gone y listed
  have quiet : s.inState .member = false := by simpa [State.inState] using other
  simp [State.settlePoint, none, State.startReminder, State.mayRemind, quiet]

/-- The own POINT frame of a station that leaves, its item gone: no point changes, and nothing is queued. -/
theorem State.ownPointLeaves {s : State} {f : InFlight} {q : PointId} {p : PointPayload} (sound : s.Sound)
    (leaving : s.ru.state = .leaving) (flight : s.lc.inFlight = some f) (kind : f.item.kind = .point q)
    (gone : ∀ x ∈ s.sq.items, x.age ≠ f.item.age) (sender : StationId) :
    let t := s.landed sender f.item (.point p)
    t.ru.state = .leaving ∧ (∀ v : PointId, t.point v = s.point v) ∧ (∀ x ∈ t.sq.items, x ∈ s.sq.items) ∧
      t.sq.nextAge = s.sq.nextAge := by
  intro t
  have applies : s.applies = true := by simp [State.applies, leaving]
  have other : s.ru.state ≠ .member := by rw [leaving]; exact nofun
  have answered : s.ru.deferredExpiry = false := by
    obtain ⟨-, -, -, -, -, attempts, -⟩ := sound.settled.timers
    rw [leaving] at attempts
    exact (Bool.or_eq_false_iff.1 attempts).2
  let u := s.applied sender (some f.item) (.point p)
  obtain ⟨upu, usq⟩ := s.applied_unmoved sender f.item p
  have stopped : u.stopSettledReminders.pu = s.pu := by
    refine Vector.ext fun i hi => ?_
    have timer := ReminderTimer.stopped_of_okIn (sound.points ⟨i, hi⟩).2.2 other (by rw [leaving]; exact nofun)
    have point := u.point_stopSettledReminders ⟨i, hi⟩
    rw [State.point_congr upu] at point
    rw [← timer] at point
    refine point.trans ?_
    split <;> rfl
  have before : u.ru.state ≠ .member := by
    have same := (s.checked_frame sender f.item p).2.2
    rw [State.checked] at same
    simp only [State.checkChanged_frame, State.stopSettledReminders_frame] at same
    rw [same]
    exact other
  have checked : s.checked sender f.item p = u.stopSettledReminders := State.checkChanged_of_other s (by simpa using before)
  have settled : (s.checked sender f.item p).settlePoint f.item q = u.stopSettledReminders := by
    rw [checked]
    refine State.settlePoint_of_gone ?_ (by simpa using before) q
    simpa [u, usq] using gone
  have frame : State.applyFrame s (s.begun (some f.item) (.point p)) sender (some f.item) (.point p) = u.stopSettledReminders :=
    (State.applyFrame_own_point applies sender p kind).trans settled
  have none : ∀ v : State, v.ru.state = .leaving → v.isOwnReference = false := fun v state => by
    by_contra own
    have member := State.member_of_isOwnReference (by simpa using own)
    rw [state] at member
    exact nomatch member
  have taken := (s.taken_point_state sender f.item p).trans leaving
  have ended : t = State.close s (s.taken sender (some f.item) (.point p)) :=
    (State.landed_point sound flight sender p answered).trans
      (congrArg (State.close s) (State.takeDuties_of_neither (none s leaving) (none _ taken)))
  rw [ended]
  refine ⟨by simpa using taken, fun v => ?_, fun x listed => ?_, ?_⟩
  · rw [State.point_close, State.point_congr (State.taken_point_pu applies sender p kind), settled, State.point_congr stopped]
  · have there := ((State.mem_taken_own sound flight sender (.point p) x).1 (by simpa using listed)).1
    rw [frame] at there
    simpa [u, usq] using there
  · have age := State.settleQueue_nextAge s u.stopSettledReminders sender (some f.item) (.point p)
    rw [(State.close_frame _ s).2.2.2.2.1, State.taken_eq, frame, age]
    simp [u, usq]

/-! ## A MEMBER's point, its item in the list (R35, R37, R39) -/

/-- The point's item leaves where the pairs are equal. -/
theorem State.settlePoint_equal {s : State} {x y : Item} {q : PointId}
    (found : (s.sq.items.find? fun z => z.age == x.age) = some y) (equal : s.pairsEqual q = true) :
    s.settlePoint x q = ((s.dropItem y).onPoint q fun r => { r with queued := false }).startReminder q := by
  let u := (s.dropItem y).onPoint q fun r => { r with queued := false }
  have point : u.point q = { s.point q with queued := false } := by
    rw [State.point_onPoint, if_pos rfl]
    rfl
  have same : u.pairsEqual q = true := by
    rw [State.pairsEqual_congr (s := s) (by simp [u]) (by simp [u]) (by rw [point]) (by rw [point]) (by rw [point]), equal]
  have idle : u.announceCheck q false = u := by simp [State.announceCheck, same]
  rw [State.settlePoint, found]
  simp only [equal, if_true]
  exact congrArg (State.startReminder · q) idle

/-- The point's item goes to the tail of its class where the pairs differ. -/
theorem State.settlePoint_differing {s : State} {x y : Item} {q : PointId}
    (found : (s.sq.items.find? fun z => z.age == x.age) = some y) (differ : s.pairsEqual q = false) :
    s.settlePoint x q = (s.requeue y).startReminder q := by
  rw [State.settlePoint, found]
  simp only [differ, Bool.false_eq_true, if_false]

theorem State.point_startReminder (s : State) (q : PointId) : (s.startReminder q).point q =
    { s.point q with reminder := if s.mayRemind q = true then .running (s.reminderMs q) else (s.point q).reminder } := by
  unfold State.startReminder
  split
  · rw [State.point_onPoint, if_pos rfl]
  · rfl

/-- The own point once it is settled (R35, R37, R39). -/
theorem State.point_settlePoint {s : State} {x y : Item} {q : PointId}
    (found : (s.sq.items.find? fun z => z.age == x.age) = some y) (queued : (s.point q).queued = true) :
    (s.settlePoint x q).point q = { s.point q with
      queued := !s.pairsEqual q
      reminder := if s.mayRemind q = true then .running (s.reminderMs q) else (s.point q).reminder } := by
  cases equal : s.pairsEqual q with
  | true =>
    rw [State.settlePoint_equal found equal, State.point_startReminder, State.point_onPoint, if_pos rfl,
      State.mayRemind_congr (s := s) (by simp) (by simp) (by simp), State.reminderMs_congr (s := s) (by simp)]
    rfl
  | false =>
    have point : (s.requeue y).point q = s.point q := State.point_congr (by simp) q
    rw [State.settlePoint_differing found equal, State.point_startReminder, point,
      State.mayRemind_congr (s := s) (by simp) (by simp) (by simp), State.reminderMs_congr (s := s) (by simp), Bool.not_false,
      ← queued]

theorem State.ListOk.queued_of_listed {flying : Option Item} {stale : List PointId} {s : State} (h : s.ListOk flying stale)
    {x : Item} {q : PointId} (listed : x ∈ s.sq.items) (kind : x.kind = .point q) : (s.point q).queued = true := by
  have count := h.points q
  by_contra no
  rw [if_neg no, State.countItems, List.countP_eq_zero] at count
  exact count x listed (by simp [kind, ItemKind.isPointOf])

theorem State.ListOk.find_age {flying : Option Item} {stale : List PointId} {s : State} (h : s.ListOk flying stale)
    {x y : Item} (listed : y ∈ s.sq.items) (same : y.age = x.age) : (s.sq.items.find? fun z => z.age == x.age) = some y := by
  cases found : s.sq.items.find? fun z => z.age == x.age with
  | none => exact absurd same (by simpa using List.find?_eq_none.1 found y listed)
  | some z =>
    have age : z.age = x.age := by simpa using List.find?_some found
    rw [h.eq_of_age (List.mem_of_find?_eq_some found) listed (age.trans same.symm)]

/-- The own POINT frame of a MEMBER, its item in the list: the point is settled by its pairs. -/
theorem State.ownPointSettles {s : State} {f : InFlight} {q : PointId} {p : PointPayload} {x : Item} (sound : s.Sound)
    (member : s.ru.state = .member) (flight : s.lc.inFlight = some f) (kind : f.item.kind = .point q) (listed : x ∈ s.sq.items)
    (same : x.age = f.item.age) (sender : StationId) :
    let t := s.landed sender f.item (.point p)
    t.ru.state = .member ∧
      t.point q = { s.point q with
        queued := !t.pairsEqual q
        reminder :=
          if t.mayRemind q = true then .running (t.reminderMs q)
          else if (t.ownEntry q).phase.pending = true then (s.point q).reminder
          else .stopped } ∧
      (t.pairsEqual q = false →
        ∃ y ∈ t.sq.items, y = { kind := .point q, cls := x.cls, age := y.age } ∧ s.sq.nextAge ≤ y.age) := by
  intro t
  have applies : s.applies = true := by simp [State.applies, member]
  let v := s.checked sender f.item p
  let w := s.taken sender (some f.item) (.point p)
  obtain ⟨upu, usq⟩ := s.applied_unmoved sender f.item p
  obtain ⟨vcs, vet, vstate⟩ := s.checked_frame sender f.item p
  have xkind : x.kind = .point q := by
    rw [← kind]
    exact (sound.flying flight).list.own_kind listed same (by rw [kind]; rfl)
  have ended : t = State.close s (State.takeDuties s w) :=
    State.landed_point sound flight sender p (State.answered_of_member sound member)
  have list : v.ListOk (some f.item) [] := State.listOk_checked sound flight sender p
  have there : x ∈ v.sq.items := (State.adds_checkChanged s _).1 (by simpa [usq] using listed)
  have found := list.find_age there same
  have queued := list.queued_of_listed there xkind
  have begun := State.begun_applies_of applies f.item (.point p)
  have cs : t.cs = v.cs := by
    rw [ended, vcs]
    simp [w, (State.taken_frame sender begun).1]
  have et : t.et = v.et := by
    rw [ended, vet]
    simp [w, (State.taken_frame sender begun).2.1]
  have state : t.ru.state = .member := by
    rw [ended, (State.close_frame _ s).2.2.1, (State.takeDuties_sameControl s w).state, ← member]
    exact s.taken_point_state sender f.item p
  have tpoint : t.point q = (v.settlePoint f.item q).point q := by
    rw [ended, State.point_close, State.point_congr (State.takeDuties_frame w s).2.2.1,
      State.point_congr (State.taken_point_pu applies sender p kind)]
  have settled := tpoint.trans (State.point_settlePoint found queued)
  have pairs : t.pairsEqual q = v.pairsEqual q :=
    State.pairsEqual_congr cs et (by rw [settled]) (by rw [settled]) (by rw [settled])
  refine ⟨state, ?_, fun differ => ?_⟩
  · have vpoint : v.point q = { s.point q with
        reminder := if (t.ownEntry q).phase.pending = true then (s.point q).reminder else .stopped
        queued := (v.point q).queued } := by
      have entry : (s.applied sender (some f.item) (.point p)).ownEntry q = t.ownEntry q :=
        State.ownEntry_congr ((s.applied_cs sender _ _).trans (vcs.symm.trans cs.symm)) (vet.symm.trans et.symm) q
      have checked := State.point_checkChanged_stopSettled s (s.applied sender (some f.item) (.point p)) q
      rw [entry, State.point_congr upu] at checked
      exact checked
    rw [settled, pairs, State.mayRemind_congr cs et (state.trans (vstate.trans member).symm), State.reminderMs_congr cs, vpoint]
  · rw [pairs] at differ
    let y : Item := { kind := x.kind, cls := x.cls, age := v.sq.nextAge }
    have young : s.sq.nextAge ≤ v.sq.nextAge := by
      have grows := (State.grows_checkChanged s (s.applied sender (some f.item) (.point p)).stopSettledReminders).1
      rwa [(State.stopSettledReminders_frame _).2.2.2.1, usq] at grows
    have requeued : y ∈ (v.settlePoint f.item q).sq.items := by
      rw [State.settlePoint_differing found differ, (State.startReminder_frame _ q).2.2.2.1]
      exact State.mem_enqueue.2 (.inl rfl)
    have apart : f.item.age ≠ y.age := Nat.ne_of_lt (Nat.lt_of_lt_of_le (State.young_of_flight sound flight) young)
    have stays : y ∈ w.sq.items := by
      refine (State.mem_taken_own sound flight sender (.point p) y).2 ⟨?_, ?_, ?_⟩
      · rw [State.applyFrame_own_point applies sender p kind]
        exact requeued
      · simp [State.drops, apart, State.overtakenOutcome, y, xkind]
      · simp [State.overtakes, y, xkind]
    refine ⟨y, ?_, by simp [y, xkind], young⟩
    rw [ended, (State.close_frame _ s).2.2.2.2.1]
    exact State.takeDuties_keepsPoint s w stays (by simp [y, xkind, ItemKind.isPoint])

/-! ## The obligation -/

theorem State.hasItem_of_unqueued {s : State} (sound : s.Sound) {q : PointId} (unqueued : (s.point q).queued = false) :
    s.hasItem (ItemKind.isPointOf q) = false := by
  have count := sound.settled.list.points q
  rw [unqueued] at count
  exact State.countItems_eq_zero.1 count

/-- Settles O46: the pairs and timers, the points at a frame of another station, and the own POINT of a station that leaves and
of a MEMBER. -/
theorem ownPointLeavesOrIsRequeued : Obligations.OwnPointLeavesOrIsRequeued := by
  refine ⟨fun s q => ⟨s.pairsEqual_iff q, s.mayRemind_iff q, fun u f setup profile => State.reminderMs_of_loaded setup profile q⟩,
    fun s sender n receives applies => ?_, fun s f q p sound leaving flight kind notice gone => ?_,
    fun s f q p x sound member flight own kind notice _ listed same => ?_⟩
  · exact ⟨_, State.receives_run receives sender n, fun stays q => State.foreign_points applies sender n q stays⟩
  · have run := State.landed_run (sound.settled.sending flight).1 flight (n := .point p) (by rw [notice])
    rw [notice] at run
    exact ⟨_, run, State.ownPointLeaves sound leaving flight kind gone f.frame.sender⟩
  · have run := State.landed_run (sound.settled.sending flight).1 flight (n := .point p) (by rw [notice])
    rw [notice, own] at run
    obtain ⟨state, point, requeued⟩ := State.ownPointSettles (p := p) sound member flight kind listed same s.cs.stationNumber
    have ended : (s.landed s.cs.stationNumber f.item (.point p)).Sound := State.landed_sound sound flight _ _
    refine ⟨_, run, state, ?_, fun equal => ?_, fun differ => ⟨?_, requeued differ⟩, fun remind => ?_⟩
    · simp only [← Phase.pending_iff]
      exact point
    · have unqueued : ((s.landed s.cs.stationNumber f.item (.point p)).point q).queued = false := by
        rw [point, equal]
        rfl
      exact ⟨unqueued, State.hasItem_of_unqueued ended unqueued⟩
    · rw [point, differ]
      rfl
    · rw [point, if_pos remind]

end Sys2Proof.Machine
end

section
/-! PROOF. What a completion leaves (R45, R156, R157), for O43. -/

namespace Sys2Proof.Machine

/-! ## The reference in an attempt (R138) -/

/-- A reference other than the station itself is PRESENT and not suspect. -/
theorem State.reference_present {s : State} {u : StationId} (reference : s.reference = some u) (peer : u ≠ s.own) :
    (s.record u).state = .present ∧ (s.record u).suspect = false := by
  unfold State.reference at reference
  split at reference
  · have qualifies := (find?_finRange_eq_some.1 reference).1
    simpa [State.qualifies, peer] using qualifies
  · exact nomatch reference

theorem State.reference_peer {s : State} {u : StationId} (reference : s.reference = some u) (other : s.ru.state ≠ .member) :
    u ≠ s.own := by
  rintro rfl
  have own : s.isOwnReference = true := by simp [State.isOwnReference, reference]
  exact other (State.member_of_isOwnReference own)

/-! ## The adoption of occurrences (R45) -/

theorem adoptOccurrence_fields (e : Entry) (r : PointRecord) :
    let n := if compareOccurrence e.occurrence r.occurrence = .newer then e.occurrence else r.occurrence
    let same : Prop := n = e.occurrence
    let rose : Prop := r.qualified = .active ∧ e.condition = .inactive
    (same ∧ rose → (adoptOccurrence e r).occurrence = n + 1 ∧ (adoptOccurrence e r).pendingReminders = 0) ∧
      (same ∧ ¬rose → (adoptOccurrence e r).occurrence = n ∧ (adoptOccurrence e r).pendingReminders = e.reminders) ∧
      (¬same → (adoptOccurrence e r).occurrence = n ∧ (adoptOccurrence e r).pendingReminders = r.pendingReminders) := by
  intro n same rose
  have counted : (if compareOccurrence e.occurrence r.occurrence = .newer then { r with occurrence := e.occurrence } else r) =
      { r with occurrence := n } := by
    simp only [n]
    split <;> rfl
  unfold adoptOccurrence
  rw [counted]
  refine ⟨fun ⟨eq, up⟩ => ?_, fun ⟨eq, down⟩ => ?_, fun ne => ?_⟩
  · simp [show n = e.occurrence from eq, show r.qualified = .active ∧ e.condition = .inactive from up]
  · have down : ¬(r.qualified = .active ∧ e.condition = .inactive) := down
    simp [show n = e.occurrence from eq, down]
  · have ne : ¬n = e.occurrence := ne
    simp [ne]

/-! ## The points after a completion (R39, R44, R45) -/

/-- A point with its occurrence adopted, where it has one to adopt. -/
def State.adoptedPoint (s : State) (q : PointId) : PointRecord :=
  if s.pointUsed q && !(s.ownEntry q).isPristine then adoptOccurrence (s.ownEntry q) (s.point q) else s.point q

theorem State.point_adopted_eq (s : State) (p : PresencePayload) (q : PointId) :
    (s.adopted p).point q = s.adoptedPoint q := by
  have cs : (s.adoptRoster p).cs = s.cs := by simp
  have et : (s.adoptRoster p).et = s.et := by simp
  rw [State.adopted, State.point_adoptOccurrences, State.pointUsed_congr cs, State.ownEntry_congr cs et,
    State.point_congr (s := s) (by simp)]
  rfl

/-- Every used point is queued, and a reminder timer starts where it may run (R39, R44). -/
theorem State.point_complete_eq (s : State) (p : PresencePayload) (q : PointId) : (s.complete p).point q =
    { s.adoptedPoint q with
      queued := s.pointUsed q || (s.adoptedPoint q).queued
      reminder := if (s.complete p).mayRemind q = true then .running ((s.complete p).reminderMs q)
        else (s.adoptedPoint q).reminder } := by
  let u := (s.adopted p).completed.requestPresence.startPresenceTimer
  have ucs : u.cs = s.cs := by simp [u, (State.completed_frame _).1, (s.adopted_frame p).1]
  have point : u.point q = s.adoptedPoint q := by
    rw [← s.point_adopted_eq p q]
    exact State.point_congr (by simp [u, (State.completed_frame _).2.2.1]) q
  have cs : u.reannounceAll.cs = (s.complete p).cs := by simp [ucs]
  have et : u.reannounceAll.et = (s.complete p).et := by
    simp [u, (State.completed_frame _).2.1, (s.adopted_frame p).2.1]
  have state : u.reannounceAll.ru.state = (s.complete p).ru.state := by
    simp [u, State.completed_ru, State.complete_ru]
  have announced : (s.complete p).point q = u.reannounceAll.startReminders.point q := State.point_congr (s.complete_pu p) q
  rw [announced, State.point_startReminders, State.mayRemind_congr cs et state, State.reminderMs_congr cs,
    State.point_reannounceAll, State.pointUsed_congr ucs, point]
  cases s.pointUsed q <;> cases (s.complete p).mayRemind q <;> rfl

theorem State.adoptedPoint_reminder (s : State) (q : PointId) : (s.adoptedPoint q).reminder = (s.point q).reminder := by
  unfold State.adoptedPoint
  split
  · exact (adoptOccurrence_qualification _ _).2
  · rfl

/-! ## List, line count and marks after a completion (R112, R156) -/

theorem State.complete_adds (s : State) (p : PresencePayload) :
    State.Adds (fun i => i.isPresence || i.isPoint) (s.adopted p).completed (s.complete p) := by
  have presence := (s.adopted p).completed.adds_requestPresence
  have points := (s.adopted p).completed.requestPresence.startPresenceTimer.adds_reannounceAll
  rw [State.complete_eq]
  refine ((presence.mono fun i yes => by simp [yes]).trans (.of_items ?_)).trans
    ((points.mono fun i yes => by simp [yes]).trans (.of_items ?_))
  · simp
  · simp [State.announced]

theorem State.complete_hasPresence (s : State) (p : PresencePayload) : (s.complete p).hasItem ItemKind.isPresence = true := by
  have asked := (s.adopted p).completed.requestPresence_hasItem
  have kept := (State.adds_reannounceAll (s.adopted p).completed.requestPresence.startPresenceTimer).hasItem
    (j := ItemKind.isPresence) (by simpa [State.hasItem] using asked)
  rw [State.complete_eq]
  simpa [State.hasItem, State.announced] using kept

/-- The completion withdraws the JOIN item (R156). -/
theorem State.complete_noJoin {s : State} (quiet : s.lc.inFlight = none) (p : PresencePayload) :
    ∀ x ∈ (s.complete p).sq.items, x.kind.isJoin = false := by
  intro x listed
  rcases (s.complete_adds p).2 x listed with there | new
  · unfold State.completed at there
    exact ((State.mem_withdraw (by simp [(s.adopted_frame p).2.2.2.1, quiet]) _ x).1 there).2
  · cases kind : x.kind <;> simp_all [ItemKind.isPresence, ItemKind.isPoint, ItemKind.isJoin]

theorem State.complete_silenceMark (s : State) (p : PresencePayload) : (s.complete p).ou.silenceMark = s.et.lineCount := by
  rw [State.complete_eq, (State.push_frame _ _).2.2.2.2.2.2.1, (State.announced_frame _).2.2.2.1, State.completed_ou,
    (s.adopted_frame p).2.1]

end Sys2Proof.Machine
end

section
/-! PROOF. The reference's PRESENCE that completes a join or a resync, and O43 (R45, R130, R156, R157). -/

namespace Sys2Proof.Machine

section
variable {s : State} {sender : StationId} {p : PresencePayload}

/-- A PRESENCE that carries MEMBER leaves the record of a PRESENT sender as it was heard (R130, R131). -/
theorem State.applied_presence (present : (s.record sender).state = .present) (means : presenceMeaning p = some .member)
    (digest : p.profileDigest = s.cs.profileDigest) :
    s.applied sender none (.presence p) = s.judged sender none (.presence p) ∧
      (s.judged sender none (.presence p)).kindRecords sender (.presence p) = [] := by
  have carries : (s.judged sender none (.presence p)).presenceApplies p = some .member := by
    rw [State.presenceApplies, (s.judged_frame sender none (.presence p)).1, if_pos digest, means]
  have state : ((s.judged sender none (.presence p)).record sender).state = carriedRosterState .member := by
    rw [State.judged_state, present]
    rfl
  constructor
  · rw [State.applied, State.applyKind, State.applyPresence, carries]
    exact if_pos state
  · rw [State.kindRecords, State.presenceRecords, carries]
    exact if_neg fun moved => moved.1 state

variable (attempts : s.ru.state.attempts = true) (applies : s.applies = true)
include attempts applies

/-- No point changes at another station's PRESENCE before the own state does (R35, R40, R43). -/
theorem State.taken_point_of_attempt (sound : s.Sound) (q : PointId) :
    (s.taken sender none (.presence p)).point q = s.point q := by
  have other : ∀ st : StationState, st.attempts = false → s.ru.state ≠ st := fun st no same => by
    rw [same, no] at attempts
    exact nomatch attempts
  obtain ⟨written, -, pending, queued⟩ := State.taken_points applies sender (.presence p) q
  have stopped := ReminderTimer.stopped_of_okIn (sound.points q).2.2 (other _ rfl) (other _ rfl)
  have kept := pending fun purges => nomatch purges.1
  have same : ((s.taken sender none (.presence p)).point q).queued = (s.point q).queued := by
    rw [Bool.eq_iff_iff, queued]
    exact or_iff_left fun due => other _ rfl due.1
  rw [written, kept, same, stopped, ite_self, ← stopped]

/-- The reference's PRESENCE completes an attempt whose coverage set is full (R156). -/
theorem State.moved_completes (completes : s.completes = true) (reference : s.reference = some sender)
    (means : presenceMeaning p = some .member) (digest : p.profileDigest = s.cs.profileDigest) :
    s.moved sender none (.presence p) = (s.taken sender none (.presence p)).alignFlashers.complete p := by
  have cs := (State.taken_frame sender ((s.begun_none_applies (.presence p)).trans applies)).1
  have carries : (s.taken sender none (.presence p)).presenceApplies p = some .member := by
    rw [State.presenceApplies, cs, if_pos digest, means]
  have elsewhere : s.inState .listening = false ∧ s.inState .member = false := by
    cases state : s.ru.state <;> simp_all [StationState.attempts, State.inState]
  simp only [State.moved, State.settleMembership, State.settlePresence, elsewhere.1, Bool.false_eq_true, if_false, carries,
    applies, reference, and_self, if_true, State.hearReference, elsewhere.2, false_and, completes]

end

/-! ## The completion as a whole -/

theorem State.takeDuties_ru_cursor (old s : State) :
    (State.takeDuties old s).ru = { s.ru with cursor := (State.takeDuties old s).ru.cursor } := by
  rw [State.takeDuties_ru]
  split <;> rfl

/-- A receiver in an attempt with a full coverage set gets the reference's PRESENCE (R156). -/
structure State.Completing (s : State) (sender : StationId) (p : PresencePayload) : Prop where
  sound : s.Sound
  receives : s.receives
  attempts : s.ru.state.attempts = true
  applies : s.applies = true
  completes : s.completes = true
  reference : s.reference = some sender
  means : presenceMeaning p = some .member
  digest : p.profileDigest = s.cs.profileDigest

/-- The state that the completion starts from: the frame taken, the flashers aligned. -/
def State.readied (s : State) (sender : StationId) (p : PresencePayload) : State :=
  (s.taken sender none (.presence p)).alignFlashers

section
variable {s : State} {sender : StationId} {p : PresencePayload} (h : s.Completing sender p)
include h

theorem State.Completing.other : s.ru.state ≠ .member := by
  intro member
  have attempts := h.attempts
  rw [member] at attempts
  exact nomatch attempts

theorem State.Completing.before : s.isOwnReference = false := by
  by_contra own
  exact h.other (State.member_of_isOwnReference (by simpa using own))

theorem State.Completing.peer : sender ≠ s.own := State.reference_peer h.reference h.other

theorem State.Completing.present : (s.record sender).state = .present := (State.reference_present h.reference h.peer).1

theorem State.Completing.readied_frame : (s.readied sender p).cs = s.cs ∧ (s.readied sender p).et.table = s.et.table ∧
    (s.readied sender p).et.lineCount = s.et.lineCount + 1 ∧ (s.readied sender p).lc.inFlight = none ∧
    ∀ u, (s.readied sender p).record u = if u = sender then
      { state := .present, lastHeard := some (s.et.lineCount + 1), suspect := false, silence := some (3 * s.presenceMs) }
      else s.record u := by
  have valid := h.sound.count.of_completes h.completes
  obtain ⟨cs, et, ru, -⟩ := State.taken_frame sender ((s.begun_none_applies (.presence p)).trans h.applies)
  rw [(State.applied_presence h.present h.means h.digest).1] at et ru
  rw [State.moveCursor_none] at ru
  obtain ⟨count, valid'⟩ := State.judged_count (old := s) (sender := sender) (own := none) (n := .presence p)
    (.inl fun _ => Notice.noConfusion)
  rw [State.countAtAcceptance, if_pos valid] at count
  refine ⟨by simp [State.readied, cs], ?_, ?_, ?_, fun u => ?_⟩
  · rw [State.readied, (State.alignFlashers_frame _).2.1, et, (s.judged_frame sender none (.presence p)).2.2.2.2.2.2.2]
  · rw [State.readied, (State.alignFlashers_frame _).2.1, et, count]
  · simpa [State.readied] using State.taken_quiet sender (own := none) (.presence p) (.inr h.receives.2.1)
  · have record : (s.readied sender p).record u = (s.judged sender none (.presence p)).record u :=
      State.record_congr (by simp [State.readied, ru]) u
    rw [record, State.judged_record, valid', valid, count]
    split
    · rename_i same
      simp [same, h.present, h.peer, RosterState.live]
    · rfl

theorem State.Completing.foreign_eq :
    s.foreign sender (.presence p) = State.close s (State.takeDuties s ((s.readied sender p).complete p)) := by
  rw [State.foreign, State.dutiful_eq, State.moved_completes h.attempts h.applies h.completes h.reference h.means h.digest,
    State.readied]

theorem State.Completing.foreign_blocks :
    (s.foreign sender (.presence p)).et = ((s.readied sender p).complete p).et ∧
      (s.foreign sender (.presence p)).ru = { ((s.readied sender p).complete p).ru with
        cursor := (s.foreign sender (.presence p)).ru.cursor } ∧
      (s.foreign sender (.presence p)).pu = ((s.readied sender p).complete p).pu ∧
      (s.foreign sender (.presence p)).sq = (State.takeDuties s ((s.readied sender p).complete p)).sq := by
  rw [h.foreign_eq]
  refine ⟨by simp, ?_, by simp, by simp⟩
  rw [(State.close_frame _ s).2.2.1]
  exact State.takeDuties_ru_cursor s _

/-! ### Records and duties (R138, R139, R150, R157) -/

theorem State.Completing.foreign_record (u : StationId) : (s.foreign sender (.presence p)).record u =
    if u = s.own then s.record u
    else (if u = sender then
      { state := .present, lastHeard := some (s.et.lineCount + 1), suspect := false, silence := some (3 * s.presenceMs) }
      else s.record u).become (carriedState p u) false s.presenceMs := by
  obtain ⟨cs, -, -, -, record⟩ := h.readied_frame
  have roster : (s.foreign sender (.presence p)).record u = ((s.readied sender p).complete p).record u :=
    State.record_congr (by rw [h.foreign_blocks.2.1]) u
  have number : (s.readied sender p).own = s.own := congrArg ConfigStore.stationNumber cs
  rw [roster, State.record_complete, record, State.presenceMs_congr cs, number]
  split
  · rename_i own
    rw [if_neg]
    rintro rfl
    exact h.peer own
  · rfl

/-- The duties are taken up anew, for the station was no MEMBER (R138). -/
theorem State.Completing.foreign_duties :
    ((s.foreign sender (.presence p)).namesItself → ∀ v : StationId, v ≠ s.own →
      ((s.foreign sender (.presence p)).record v).suspect = true →
      (s.foreign sender (.presence p)).hasItem (· == .lost v) = true) ∧
    ((s.foreign sender (.presence p)).sweepCondition →
      (s.foreign sender (.presence p)).ru.cursor = 0 ∧ (s.foreign sender (.presence p)).hasItem (· == .snapshot) = true) := by
  have moved := State.moved_completes h.attempts h.applies h.completes h.reference h.means h.digest
  have hasItem : ∀ k, (s.foreign sender (.presence p)).hasItem k =
      (State.takeDuties s (s.moved sender none (.presence p))).hasItem k := fun k => by
    simp only [State.hasItem, State.foreign_sq]
  constructor
  · intro names v peer suspect
    rw [State.namesItself_iff, State.foreign_isOwnReference] at names
    rw [State.record_congr (s.foreign_roster sender (.presence p))] at suspect
    rw [hasItem]
    refine State.takeDuties_hasLost h.before names ?_ suspect
    rw [State.own, s.moved_cs sender (.presence p)]
    exact peer
  · intro sweeps
    rw [State.sweepCondition_iff, State.foreign_sweeps] at sweeps
    rw [hasItem, State.foreign_ru]
    exact State.takeDuties_startsSweep (by simp [State.sweeps, h.before]) sweeps

/-! ### The list (R112, R156) -/

theorem State.Completing.foreign_items : (s.foreign sender (.presence p)).countItems ItemKind.isJoin = 0 ∧
    (s.foreign sender (.presence p)).countItems ItemKind.isPresence = 1 := by
  obtain ⟨-, -, -, sq⟩ := h.foreign_blocks
  have adds := State.adds_takeDuties (s := (s.readied sender p).complete p) h.before
  have hasItem : ∀ k, (s.foreign sender (.presence p)).hasItem k =
      (State.takeDuties s ((s.readied sender p).complete p)).hasItem k := fun k => by simp only [State.hasItem, sq]
  constructor
  · rw [State.countItems_eq_zero, hasItem]
    refine List.any_eq_false.2 fun x listed => ?_
    rcases adds.2 x listed with there | new
    · simp [State.complete_noJoin h.readied_frame.2.2.2.1 p x there]
    · cases kind : x.kind <;> simp_all [ItemKind.isLost, ItemKind.isJoin]
  · refine State.countItems_eq_one ?_ (h.sound.foreign h.receives sender (.presence p)).bounds.2.2.2.2.1
    rw [hasItem]
    exact adds.hasItem (State.complete_hasPresence _ p)

/-! ### The points (R39, R44, R45) -/

theorem State.Completing.foreign_point (q : PointId) : (s.foreign sender (.presence p)).point q =
    { s.adoptedPoint q with
      queued := s.pointUsed q || (s.adoptedPoint q).queued
      reminder := if (s.foreign sender (.presence p)).mayRemind q = true
        then .running ((s.foreign sender (.presence p)).reminderMs q) else .stopped } := by
  obtain ⟨cs, table, -⟩ := h.readied_frame
  obtain ⟨et, ru, pu, -⟩ := h.foreign_blocks
  have other : ∀ st : StationState, st.attempts = false → s.ru.state ≠ st := fun st no same => by
    have attempts := h.attempts
    rw [same, no] at attempts
    exact nomatch attempts
  have stopped := ReminderTimer.stopped_of_okIn (h.sound.points q).2.2 (other _ rfl) (other _ rfl)
  have point : (s.readied sender p).point q = s.point q := by
    rw [← State.taken_point_of_attempt (sender := sender) (p := p) h.attempts h.applies h.sound q]
    exact State.point_congr (by simp [State.readied]) q
  have entry : (s.readied sender p).ownEntry q = s.ownEntry q := by
    simp only [State.ownEntry, State.own, cs, State.entry_congr table]
  have adopted : (s.readied sender p).adoptedPoint q = s.adoptedPoint q := by
    simp only [State.adoptedPoint, State.pointUsed_congr cs, entry, point]
  have completeCs : (s.foreign sender (.presence p)).cs = ((s.readied sender p).complete p).cs := by
    rw [s.foreign_cs sender (.presence p)]
    simp [cs]
  rw [State.point_congr pu, State.point_complete_eq, adopted, State.pointUsed_congr cs,
    State.mayRemind_congr completeCs et (by rw [ru]), State.reminderMs_congr completeCs, s.adoptedPoint_reminder q, stopped]

/-! ### The records pushed (R157) -/

theorem State.Completing.foreign_reports : s.pushes (s.foreign sender (.presence p)) Record.isReport
    [.tableLoaded (s.et.lineCount + 1)] := by
  have taken := State.pushed_taken (old := s) sender (own := none) (n := .presence p) ((s.begun_none_applies _).trans h.applies)
  rw [(State.applied_presence h.present h.means h.digest).2, List.nil_append] at taken
  have readied : (s.taken sender none (.presence p)).Pushed (s.readied sender p) [] := .nothing (by simp [State.readied])
    (by simp [State.readied])
  have completed := (s.readied sender p).pushed_complete p
  rw [h.readied_frame.2.2.1] at completed
  have duties : ((s.readied sender p).complete p).Pushed (State.takeDuties s ((s.readied sender p).complete p)) [] :=
    .nothing (by simp) (by simp)
  rw [h.foreign_eq]
  refine ((((taken.trans readied).trans completed).trans duties).trans (State.pushed_close s _)).pushes ?_
  simp only [List.filter_append, State.queueOutcomes_isReport]
  split <;> rfl

end

/-! ## The obligation -/

theorem RosterRecord.become_cases (r : RosterRecord) (st : RosterState) (period : Nat) :
    (r.state = st → r.become st false period = r) ∧
      (r.state ≠ st → (st = .present ∨ st = .joining ∨ st = .syncing) →
        r.become st false period = { r with state := st, silence := some (3 * period) }) ∧
      (r.state ≠ st → ¬(st = .present ∨ st = .joining ∨ st = .syncing) →
        r.become st false period = { r with state := st, suspect := false, silence := none }) := by
  have live : st.live = true ↔ st = .present ∨ st = .joining ∨ st = .syncing := by cases st <;> simp [RosterState.live]
  rw [← live]
  refine ⟨fun same => if_pos same, fun moves stands => ?_, fun moves gone => ?_⟩
  · rw [RosterRecord.become, if_neg moves, if_pos stands]
    rfl
  · rw [RosterRecord.become, if_neg moves, if_neg gone]

/-- Settles O43: block by block, what the completion leaves. -/
theorem referencePresenceCompletesTheJoin : Obligations.ReferencePresenceCompletesTheJoin := by
  intro s sender p sound receives attempt covered reference means digest
  have full : s.coverageFull = true := by
    simpa [State.coverageFull, List.all_eq_true, Vector.mem_iff_getElem] using fun i hi => covered ⟨i, hi⟩
  have h : s.Completing sender p := by
    rcases attempt with ⟨joining, own⟩ | syncing
    · exact ⟨sound, receives, by rw [joining]; rfl, by simp [State.applies, joining, own],
        by simp [State.completes, State.appliesSegments, joining, own, full], reference, means, digest⟩
    · exact ⟨sound, receives, by rw [syncing]; rfl, by simp [State.applies, syncing],
        by simp [State.completes, State.appliesSegments, syncing, full], reference, means, digest⟩
  obtain ⟨cs, table, count, -⟩ := h.readied_frame
  obtain ⟨et, ru, -⟩ := h.foreign_blocks
  obtain ⟨names, sweeps⟩ := h.foreign_duties
  obtain ⟨join, presence⟩ := h.foreign_items
  have et : (s.foreign sender (.presence p)).et = (s.readied sender p).et := et.trans (by simp)
  rw [State.complete_ru] at ru
  refine ⟨_, State.receives_run receives sender (.presence p), by rw [ru], by rw [et, table], by rw [et, count], ?_,
    fun u peer => ?_, ?_, names, sweeps, by rw [ru], by rw [ru], by rw [ru], fun i => by rw [ru]; simp,
    by rw [ru, State.presenceMs_congr cs], join, presence, fun q used => ?_, fun q => by rw [h.foreign_point], h.foreign_reports, ?_⟩
  · rw [h.foreign_eq, State.close_silenceMark, (State.takeDuties_frame _ s).2.2.2.2.1, State.complete_silenceMark, count]
  · have peer : u ≠ s.own := peer
    rw [h.foreign_record, if_neg peer]
    exact RosterRecord.become_cases _ _ _
  · rw [h.foreign_record]
    exact if_pos rfl
  · rw [h.foreign_point]
    refine ⟨by simp [used], fun raised => ?_, fun pristine => ?_⟩
    · have adopts : s.adoptedPoint q = adoptOccurrence (s.ownEntry q) (s.point q) :=
        if_pos (by simpa [used, Entry.isPristine] using raised)
      rw [adopts]
      exact adoptOccurrence_fields _ _
    · have stands : s.adoptedPoint q = s.point q := if_neg (by simp [Entry.isPristine, pristine])
      rw [stands]
      exact ⟨rfl, rfl⟩
  · have member : (State.takeDuties s ((s.readied sender p).complete p)).ru.state = .member := by
      rw [(State.takeDuties_sameControl s _).state, State.complete_ru]
    rw [h.foreign_eq, State.close_trip]
    simp [State.tripReasons, State.tripUncertain, member]

end Sys2Proof.Machine
end

section
/-! PROOF. ACKNOWLEDGE and its five tests (R46, R47), for O10. -/

namespace Sys2Proof.Machine

/-- The tests of R46 over the list, the entry and the own state themselves. -/
theorem State.acknowledgeResult_eq (s : State) (i : EntryIndex) : s.acknowledgeResult i =
    if s.ru.state ≠ .member then .wrongState
    else if (s.entry i).phase ≠ .raised ∧ (s.entry i).phase ≠ .lapsed then .notPending
    else if s.entryAckNone (s.entry i) then .noAck
    else if ∃ x ∈ s.sq.items, x.kind.isClaimOf i = true then .busy
    else if 8 ≤ s.countItems ItemKind.isClaim then .full
    else .ok := by
  have state : (!s.inState .member) = true ↔ s.ru.state ≠ .member := by simp [State.inState]
  have phase : (!(s.entry i).phase.pending) = true ↔ (s.entry i).phase ≠ .raised ∧ (s.entry i).phase ≠ .lapsed := by
    rw [Bool.not_eq_true', ← Bool.not_eq_true, Phase.pending_iff, not_or]
  have claimed : s.hasItem (ItemKind.isClaimOf i) = true ↔ ∃ x ∈ s.sq.items, x.kind.isClaimOf i = true := List.any_eq_true
  simp only [State.acknowledgeResult, state, phase, claimed]

/-- Settles O10: a refusal answers alone, and an accepted command places its claim item first. -/
theorem acknowledgeTestsInOrder : Obligations.AcknowledgeTestsInOrder := by
  intro index s queue
  obtain ⟨order, -, young, -⟩ := queue
  have run : exec (.acknowledge index) s = .next ((if s.acknowledgeResult (byteIndex index) = .ok then
      s.enqueue (.claim (byteIndex index) (s.entry (byteIndex index)).occurrence) 1 else s).answer
        (s.acknowledgeResult (byteIndex index)) []) := rfl
  by_cases ok : s.acknowledgeResult (byteIndex index) = .ok
  · rw [if_pos ok] at run
    exact ⟨_, _, run, rfl, rfl, rfl, rfl, rfl, rfl, rfl, rfl, s.acknowledgeResult_eq _, fun refused => absurd ok refused,
      fun _ => ⟨rfl, insertItem_tail _ _ order young⟩⟩
  · rw [if_neg ok] at run
    exact ⟨_, _, run, rfl, rfl, rfl, rfl, rfl, rfl, rfl, rfl, s.acknowledgeResult_eq _, fun _ => rfl, fun taken => absurd taken ok⟩

end Sys2Proof.Machine
end

section
/-! PROOF. An own attempt that fails below exhaustion (R57, R97, R104, R105, R107, R117, R120), for O25. -/

namespace Sys2Proof.Machine

/-- The report on a failed attempt writes the port alone (R57, R117). -/
theorem State.reportFailed_eq (z : State) (f : InFlight) :
    z.reportFailed f.item = { z with lp := z.portAfter (z.removedOutcome f) } := by
  rw [← State.failureOutcome_eq, ← (z.pushed_reportFailed f.item).lp]
  unfold State.reportFailed
  split
  · rfl
  · cases f.item.kind <;> rfl

/-- An event that ends with the Line Controller and the port alone changed ends as it stands (R62, R72, R75). -/
theorem State.close_of_lineAndPort {s : State} (outputs : s.OutputsOk) (lc : LineControl) (lp : LocalPort) :
    State.close s { s with lc := lc, lp := lp } = { s with lc := lc, lp := lp } :=
  State.close_idle outputs rfl rfl rfl rfl rfl rfl

/-- Below exhaustion a failure is reported and counted, no more, where no expiry waits for it; `lc` is the line as the attempt
left it (R106, R107). -/
theorem State.close_failAttempt {s : State} (outputs : s.OutputsOk) (answered : s.ru.deferredExpiry = false) (f : InFlight)
    {lc : LineControl} (few : lc.vetoCount + 1 < 8) : State.close s (State.failAttempt { s with lc := lc } f) =
      { s with
        lc := { lc with vetoCount := lc.vetoCount + 1 }
        lp := s.portAfter (s.removedOutcome f) } := by
  have counted : (State.reportFailed { s with lc := lc } f.item).countFailure =
      { s with
        lc := { lc with vetoCount := lc.vetoCount + 1 }
        lp := s.portAfter (s.removedOutcome f) } := by
    rw [State.reportFailed_eq]
    exact if_pos few
  rw [State.failAttempt, counted, State.takeDeferredExpiry_of_not (by exact answered), State.close_of_lineAndPort outputs]

/-- Settles O25: each way to fail ends the flight, reports a removed item, and counts. -/
theorem failedAttemptKeepsItsItem : Obligations.FailedAttemptKeepsItsItem := by
  intro s f outputs flight answered c port
  refine ⟨?_, fun n few => ?_, fun rx few receiver => ?_⟩
  · have run : exec .arbitrationLost s = .next (State.close s (s.loseArbitration f)) :=
      congrArg Host.Outcome.next (by rw [flight])
    rw [run, State.loseArbitration, State.takeDeferredExpiry_of_not (by simpa using answered), State.reportFailed_eq]
    exact congrArg Host.Outcome.next (State.close_of_lineAndPort outputs _ _)
  · have run : exec (.senderFault n) s = .next (State.close s (s.faultAsSender f n)) :=
      congrArg Host.Outcome.next (by rw [flight])
    rw [run, State.faultAsSender]
    exact congrArg Host.Outcome.next (State.close_failAttempt outputs answered f few)
  · have run : exec (.frameVetoed rx) s = .next (State.close s (s.ownFrameVetoed f)) :=
      congrArg Host.Outcome.next (by rw [if_pos receiver, flight])
    rw [run, State.ownFrameVetoed]
    exact congrArg Host.Outcome.next (State.close_failAttempt outputs answered f few)

end Sys2Proof.Machine
end

section
/-! PROOF. LEAVE by own state (R57, R120, R121, R125, R128, R149, R167), for O18. -/

namespace Sys2Proof.Machine

theorem withdrawnRecord_of_atLeave {x : Item} (kept : x.kind.leftAtLeave = false) : withdrawnRecord x = none := by
  unfold withdrawnRecord
  cases kind : x.kind <;> simp_all [ItemKind.leftAtLeave]

/-- A LEAVE command reports each claim and purge of the list but the one in flight, in list order (R57, R120). -/
theorem State.removalOutcomes_leftAtLeave (s : State) : s.removalOutcomes ItemKind.leftAtLeave =
    (s.sq.items.filter fun x => s.lc.inFlight.all fun f => f.item.age != x.age).filterMap withdrawnRecord := by
  have grounded : ∀ x : Item, (s.lc.inFlight.all fun f => f.item.age != x.age) = !s.flies x := fun x => by
    unfold State.flies
    cases s.lc.inFlight <;> rfl
  rw [State.removalOutcomes]
  induction s.sq.items with
  | nil => rfl
  | cons x rest ih =>
    rw [List.filter_cons, List.filter_cons, grounded]
    cases removed : x.kind.leftAtLeave with
    | false => cases s.flies x <;> simp [ih, withdrawnRecord_of_atLeave removed]
    | true =>
      cases flies : s.flies x with
      | true => simp [ih, flies]
      | false => cases record : withdrawnRecord x <;> simp [ih, flies, record]

/-- Outside LEAVING the list holds no LEAVE item, and a LEAVE command keeps the PRESENCE and the JOIN item (R112, R120). -/
theorem State.startLeaving_items {s : State} {flying : Option Item} (list : s.ListOk flying []) (before : s.ru.state ≠ .leaving)
    (c : LeaveCause) : (s.startLeaving c).sq.items =
      insertItem { kind := .leave c, cls := 2, age := s.sq.nextAge }
        (s.sq.items.filter fun x => x.kind.isPresence || x.kind.isJoin) := by
  have none_left : ∀ x ∈ s.sq.items, x.kind.isLeave = false := by
    have few := list.leave
    rw [if_neg (by simpa [State.inState_iff] using before)] at few
    simpa [State.hasItem] using State.countItems_eq_zero.1 (Nat.le_zero.1 few)
  have kept : s.sq.items.filter (fun x => !x.kind.leftAtLeave) =
      s.sq.items.filter fun x => x.kind.isPresence || x.kind.isJoin := by
    refine List.filter_congr fun x listed => ?_
    have other := none_left x listed
    cases kind : x.kind <;> simp_all [ItemKind.leftAtLeave, ItemKind.isPresence, ItemKind.isJoin, ItemKind.isLeave]
  simp [State.startLeaving, kept]

/-- The answer to a command and the close of its event leave the records pushed, STATION records apart (R161). -/
theorem State.Pushed.pushes_answered {s t : State} {rs : List Record} (h : s.Pushed t rs) {k : Record → Bool}
    (other : ∀ st reason trip, k (.station st reason trip) = false) (old : State) (r : ResultCode) (bytes : List Byte) :
    s.pushes (State.close old (t.answer r bytes)) k (rs.filter k) := by
  intro room
  have closed := State.pushed_close old (t.answer r bytes)
  obtain ⟨answered, -⟩ := LocalPort.foldl_push_records _ _ _ (closed.lp ▸ room)
  have records : (t.answer r bytes).lp.records = s.lp.records ++ rs := h.records answered
  refine ⟨rs ++ _, by rw [closed.records room, records, List.append_assoc], ?_⟩
  rw [List.filter_append]
  split <;> simp [other]

/-- What a LEAVE command leaves of a station that goes into LEAVING, as O18 says it (R120, R125, R149). -/
theorem State.startLeaving_closed {s : State} (sound : s.Sound) (before : s.ru.state ≠ .leaving) (c : LeaveCause) :
    let t := State.close s ((s.startLeaving c).answer .ok [])
    t.lp.reply = some { result := .ok, response := [] } ∧ t.ru.state = .leaving ∧
      t.sq.items.Perm (s.sq.items.filter (fun x => x.kind.isPresence || x.kind.isJoin) ++
        [{ kind := .leave c, cls := 2, age := s.sq.nextAge }]) ∧
      t.ru.presenceTimer = none ∧ t.ru.muteTimer = none ∧ t.ru.attemptTimer = none ∧ t.ru.joinMode = none ∧
      t.ru.roster = s.ru.roster ∧ t.et = s.et ∧ t.lc = s.lc ∧ t.cs = s.cs ∧ t.pending = s.pending ∧
      s.pushes t Record.isReport [] ∧
      s.pushes t Record.isOutcome
        ((s.sq.items.filter fun x => s.lc.inFlight.all fun f => f.item.age != x.age).filterMap withdrawnRecord) ∧
      ∀ q : PointId, (t.point q).queued = false ∧ (t.point q).reminder = .stopped ∧
        (t.point q).qualified = (s.point q).qualified ∧ (t.point q).occurrence = (s.point q).occurrence := by
  intro t
  have ru : t.ru = _ := (State.close_frame _ s).2.2.1.trans (s.startLeaving_ru c)
  have items : t.sq.items = _ := (congrArg SendQueue.items (by simp [t])).trans
    (State.startLeaving_items sound.settled.list before c)
  have pushed := s.pushed_startLeaving c
  have reports := pushed.pushes_answered (k := Record.isReport) (fun _ _ _ => rfl) s .ok []
  have outcomes := pushed.pushes_answered (k := Record.isOutcome) (fun _ _ _ => rfl) s .ok []
  rw [s.removalOutcomes_isReport] at reports
  rw [s.removalOutcomes_leftAtLeave, filter_isOutcome_withdrawn] at outcomes
  refine ⟨by rw [State.close_reply]; rfl, by rw [ru], ?_, by rw [ru], by rw [ru], by rw [ru], by rw [ru], by rw [ru], by simp [t],
    by simp [t], by simp [t], by simp [t], reports, outcomes, fun q => ?_⟩
  · rw [items]
    exact (insertItem_perm _ _).trans (List.perm_append_singleton _ _).symm
  · have point : t.point q = { s.point q with queued := false, reminder := .stopped } :=
      (State.point_close _ _ q).trans (State.point_startLeaving sound.settled.list.points c q)
    rw [point]
    exact ⟨rfl, rfl, rfl, rfl⟩

/-- Settles O18, by own state. -/
theorem leaveByOwnState : Obligations.LeaveByOwnState := by
  intro s sound
  refine ⟨fun out => ?_, fun leaving => ?_, fun listening => ?_, fun cause from_ => ?_⟩
  · rcases out with state | state | state <;> simp only [exec, execLeave, state] <;> rfl
  · simp only [exec, execLeave, leaving]
    rfl
  · have run : exec .leave s = .next (State.close s ((s.enterOut .offline none).answer .ok [])) := by
      simp only [exec, execLeave, listening]
    have ru := s.enterOut_ru .offline none
    exact ⟨_, run, by rw [State.close_reply]; rfl, by simp [ru], by simp [ru], by simp [State.enterOut_sq], by simp,
      fun u => by simp [State.record, ru], by simp [State.enterOut_lc], by simp, by simp⟩
  · have run : exec .leave s = .next (State.close s ((s.startLeaving cause).answer .ok [])) := by
      rcases from_ with ⟨state | state | state, rfl⟩ | ⟨state, rfl⟩ <;> simp only [exec, execLeave, state]
    have before : s.ru.state ≠ .leaving := by
      rcases from_ with ⟨state | state | state, -⟩ | ⟨state, -⟩ <;> rw [state] <;> exact nofun
    exact ⟨_, run, State.startLeaving_closed sound before cause⟩

end Sys2Proof.Machine
end

section
/-! PROOF. The withdrawal check on the queued claims at an accepted frame (R49, R53, R55, R118), for O47. -/

namespace Sys2Proof.Machine

/-! ## The OUTCOME of a claim that a frame overtook -/

/-- A claim goes when its entry changed and it can no longer win, with the result that it now has (R49, R55). -/
theorem State.overtakenOutcome_claim {x : Item} {i : EntryIndex} {occ : Byte} (kind : x.kind = .claim i occ) (s t : State) :
    s.overtakenOutcome t x = if s.entry i = t.entry i ∨ t.claimDecision i (t.entry i) occ = .wins then []
      else [.outcome (.claim i) (t.claimOutcome i (t.entry i) occ)] := by
  unfold State.overtakenOutcome State.claimOutcome
  rw [kind]
  by_cases same : s.entry i = t.entry i
  · simp [same]
  · cases decision : t.claimDecision i (t.entry i) occ <;> simp [same, decision]

/-- The check of R55, where the claims that stay are those without an OUTCOME and the OUTCOMEs are pushed. -/
theorem State.claimIsChecked_of_pushed {s t : State} {x : Item} {i : EntryIndex} {occ : Byte} (kind : x.kind = .claim i occ)
    (stays : x ∈ t.sq.items ↔ s.overtakenOutcome t x = []) {rs : List Record} (pushed : s.Pushed t rs)
    (told : s.overtakenOutcome t x ⊆ rs) : s.claimIsChecked t x i occ := by
  rw [State.overtakenOutcome_claim kind] at stays told
  refine ⟨fun same => stays.2 (if_pos (.inl same)), fun changed => ?_, fun changed room => ⟨rs, pushed.records room, ?_⟩⟩
  · rw [stays, ← State.claimDecision_wins_iff t i]
    by_cases wins : t.claimDecision i (t.entry i) occ = .wins <;> simp [changed, wins]
  · have ended : ∀ {reason winner}, t.claimOutcome i (t.entry i) occ = .void reason winner →
        .outcome (.claim i) (.void reason winner) ∈ rs := by
      intro reason winner result
      have loses : t.claimDecision i (t.entry i) occ ≠ .wins := fun wins => by
        rw [State.claimOutcome, wins] at result
        exact nomatch result
      rw [if_neg (not_or.2 ⟨changed, loses⟩), result] at told
      exact told List.mem_cons_self
    obtain ⟨other, silent, acked, unacked⟩ := t.claimOutcome_isResult i (t.entry i) occ
    exact ⟨fun h => ended (other h), fun h h' => ended (silent h h'), fun h h' a h'' => ended (acked h h' a h''),
      fun h h' h'' quiet => ended ((unacked h h' h'').1 quiet)⟩

/-! ## The claims that the settling of the list takes -/

theorem State.mem_checkClaims {old s : State} {z : Item} (l : List Item) : ∀
    {v : State}, v.cs = s.cs → v.et = s.et →
    (z ∈ (l.foldl (State.settleItem old none) v).sq.items ↔
      z ∈ v.sq.items ∧ ∀ y ∈ l, old.overtakenOutcome s y ≠ [] → z.age ≠ y.age) := by
  induction l with
  | nil => simp
  | cons y rest ih =>
    intro v cs et
    have checked : (State.settleItem old none v y).sq.items = _ := State.checkClaim_items_eq old v y
    rw [List.foldl_cons, ih (by simpa using cs) (by simpa using et), checked,
      State.overtakenOutcome_congr cs (congrArg EventTable.table et)]
    by_cases stays : old.overtakenOutcome s y = []
    · simp [stays]
    · simp [stays, and_assoc]

/-- At another station's frame the claims that it overtook leave, no more. -/
theorem State.ListOk.mem_settleItems_foreign {flying : Option Item} {stale : List PointId} {s : State} (h : s.ListOk flying stale)
    (old : State) (z : Item) : z ∈ (s.sq.items.foldl (State.settleItem old none) s).sq.items ↔
      z ∈ s.sq.items ∧ old.overtakenOutcome s z = [] := by
  rw [State.mem_checkClaims s.sq.items rfl rfl]
  refine and_congr_right fun listed => ⟨fun kept => ?_, fun stays y there goes same => ?_⟩
  · by_contra goes
    exact kept z listed goes rfl
  · rw [h.eq_of_age listed there same] at stays
    exact goes stays

/-- The items of the list after its settling at another station's frame. -/
theorem State.ListOk.mem_settleQueue_foreign {flying : Option Item} {stale : List PointId} {s : State} (h : s.ListOk flying stale)
    (quiet : s.lc.inFlight = none) (old : State) (sender : StationId) (n : Notice) (z : Item) :
    z ∈ (State.settleQueue old s sender none n).sq.items ↔
      z ∈ s.sq.items ∧ old.overtakenOutcome s z = [] ∧ s.overtakes sender z.kind = false := by
  obtain ⟨lc, sq, roster⟩ := State.settleRemoved_moveCursor_frame old (s.sq.items.foldl (State.settleItem old none) s) none n
  have folded := State.settleItems_ru old s none s.sq.items
  have line := (State.settleItems_kept old s none s.sq.items).1
  rw [State.settleQueue, State.mem_withdrawOvertaken (by rw [lc, line, quiet]),
    State.overtakes_congr (roster.trans (congrArg RosterUnit.roster folded)), sq, h.mem_settleItems_foreign, and_assoc]

/-! ## A claim beside the own point's item (R37) -/

theorem State.adds_recoverFromLost (judged s : State) (n : Notice) :
    State.Adds (fun k => k.isPresence || k.isPoint) s (State.recoverFromLost judged s n) := by
  unfold State.recoverFromLost
  cases n with
  | lost p =>
    dsimp only
    split
    · exact (s.adds_requestPresence.mono fun k yes => by simp [yes]).trans
        ((State.adds_reannounceAll _).mono fun k yes => by simp [yes])
    · exact .of_items rfl
  | _ => exact .of_items rfl

/-- The settling of the own point's item leaves every item of another age. -/
theorem State.mem_settlePoint {s : State} {x z : Item} (q : PointId) (listed : z ∈ s.sq.items) (apart : z.age ≠ x.age) :
    z ∈ (s.settlePoint x q).sq.items := by
  have started : ∀ u : State, z ∈ u.sq.items → z ∈ (u.startReminder q).sq.items := fun u there => by
    rwa [(State.startReminder_frame u q).2.2.2.1]
  cases found : s.sq.items.find? fun y => y.age == x.age with
  | none =>
    rw [State.settlePoint, found]
    exact started s listed
  | some y =>
    have age : y.age = x.age := by simpa using List.find?_some found
    have kept : z ∈ (s.dropItem y).sq.items := by simp [listed, age, apart]
    cases equal : s.pairsEqual q with
    | true =>
      rw [State.settlePoint_equal found equal]
      exact started _ kept
    | false =>
      rw [State.settlePoint_differing found equal]
      exact started _ (State.mem_enqueue.2 (.inr kept))

theorem State.mem_settleOwnPoint {s : State} {own : Option Item} {z : Item} (listed : z ∈ s.sq.items)
    (apart : ∀ x, own = some x → z.age ≠ x.age) : z ∈ (s.settleOwnPoint own).sq.items := by
  unfold State.settleOwnPoint
  cases own with
  | none => exact listed
  | some x =>
    dsimp only
    cases x.kind with
    | point q => exact State.mem_settlePoint q listed (apart x rfl)
    | _ => exact listed

/-- Before the list is settled, a frame leaves every item but the own one and the points' (R112). -/
theorem State.mem_applyFrame_of_listed {s : State} {own : Option Item} {z : Item} (listed : z ∈ s.sq.items)
    (young : z.age < s.sq.nextAge) (plain : z.kind.isPoint = false) (apart : ∀ x, own = some x → z.age ≠ x.age)
    (sender : StationId) (n : Notice) : z ∈ (State.applyFrame s (s.begun own n) sender own n).sq.items := by
  cases applies : (s.begun own n).applies with
  | true =>
    rw [State.applyFrame_of_applies sender applies, State.settlePoints]
    have applied : s.KeepsOlder (s.applied sender own n) :=
      .of_sq (by simp [State.applied, (s.judged_frame sender own n).2.2.1])
    have checked := applied.trans (State.keepsOlder_settlePoints s (s.applied sender own n) n)
    exact (State.adds_recoverFromLost _ _ n).1 (State.mem_settleOwnPoint ((checked.2 z young plain).2 listed) apart)
  | false =>
    rw [State.applyFrame_of_not sender applies, (s.begun_frame own n).2.2.2.1]
    exact listed

/-! ## The records of the overtaken claims -/

theorem State.overtakenOutcome_told {s u : State} {own : Option Item} {z : Item} (listed : z ∈ u.sq.items)
    (apart : ∀ x, own = some x → z.age ≠ x.age) : s.overtakenOutcome u z ⊆ s.queueOutcomes u own := by
  have outcome : s.itemOutcome u own z = s.overtakenOutcome u z := by
    unfold State.itemOutcome
    cases own with
    | none => rfl
    | some x => exact if_neg (apart x rfl).symm
  exact fun r told => List.mem_append_left _ (List.mem_flatMap.2 ⟨z, listed, by rwa [outcome]⟩)

theorem State.pushed_taken_outcomes (s : State) (sender : StationId) (own : Option Item) (n : Notice) :
    ∃ rs, s.Pushed (s.taken sender own n) (rs ++ s.queueOutcomes (State.applyFrame s (s.begun own n) sender own n) own) := by
  cases own with
  | some x => exact (s.pushed_taken_own sender x n).imp fun rs h => h.2
  | none =>
    cases applies : (s.begun none n).applies with
    | true => exact ⟨_, State.pushed_taken sender applies⟩
    | false =>
      have begun : s.Pushed (s.begun none n) [] := .nothing (s.begun_frame none n).1 (s.begun_frame none n).2.2.2.2.2.1
      refine ⟨[], ?_⟩
      rw [State.taken_eq, State.applyFrame_of_not sender applies]
      exact begun.trans (State.pushed_settleQueue s _ sender _ n)

/-! ## The whole acceptance -/

section
variable {s : State} (sender : StationId) (n : Notice) {own : Option Item} {x : Item} {i : EntryIndex} {occ : Byte}

/-- A claim in the list of a frame's end, where no change of own state comes in between. -/
theorem State.claimIsChecked_of_taken (done : own.isSome = true ∨ s.lc.inFlight = none) (young : x.age < s.sq.nextAge)
    (listed : x ∈ s.sq.items) (kind : x.kind = .claim i occ) (apart : ∀ y, own = some y → x.age ≠ y.age)
    (older : s.sq.nextAge ≤ (s.taken sender own n).sq.nextAge)
    (stays : x ∈ (s.taken sender own n).sq.items ↔
      s.overtakenOutcome (State.applyFrame s (s.begun own n) sender own n) x = []) :
    s.claimIsChecked (State.close s (State.takeDuties s (s.taken sender own n))) x i occ := by
  have plain : x.kind.isPoint = false := by rw [kind]; rfl
  have there := State.mem_applyFrame_of_listed listed young plain apart sender n
  obtain ⟨rs, pushed⟩ := s.pushed_taken_outcomes sender own n
  have duties : (s.taken sender own n).Pushed (State.takeDuties s (s.taken sender own n)) [] := .nothing (by simp) (by simp)
  have same : s.overtakenOutcome (State.close s (State.takeDuties s (s.taken sender own n))) x =
      s.overtakenOutcome (State.applyFrame s (s.begun own n) sender own n) x :=
    State.overtakenOutcome_congr (by simp [State.taken_eq]) (by simp [State.taken_eq]) x
  refine State.claimIsChecked_of_pushed kind ?_ ((pushed.trans duties).trans (State.pushed_close s _)) ?_
  · rw [same, (State.close_frame _ s).2.2.2.2.1,
      State.mem_takeDuties (State.taken_quiet sender n done) (Nat.lt_of_lt_of_le young older) plain, stays]
    exact and_iff_left fun duty => by simp [kind, ItemKind.isDuty, ItemKind.isLost] at duty
  · rw [same]
    exact fun r told => List.mem_append_left _ (List.mem_append_left _
      (List.mem_append_right _ (State.overtakenOutcome_told there apart told)))

end

/-- At another station's frame (R55). -/
theorem State.claimIsChecked_foreign {s : State} (sound : s.Sound) (receives : s.receives) (sender : StationId) {n : Notice}
    (presence : ∀ p, n ≠ .presence p) {x : Item} {i : EntryIndex} {occ : Byte} (listed : x ∈ s.sq.items)
    (kind : x.kind = .claim i occ) : s.claimIsChecked (s.foreign sender n) x i occ := by
  have quiet := receives.2.1
  have settled : s.Settled none := by simpa [quiet] using sound.settled
  have young := settled.list.young x listed
  have list : (State.applyFrame s (s.begun none n) sender none n).ListOk none [] :=
    (((settled.takeFrame (.inr quiet)).markOwnJoin none n).applyFrame (old := s) sender n).list
  have quietFrame : (State.applyFrame s (s.begun none n) sender none n).lc.inFlight = none :=
    State.applyFrame_quiet (by rw [(s.begun_frame none n).2.2.2.2.2.2.1]; exact State.takeFrame_quiet (.inr quiet)) sender none n
  have there := State.mem_applyFrame_of_listed (own := none) listed young (by rw [kind]; rfl) (fun _ => nofun) sender n
  rw [State.foreign, State.dutiful_plain sender presence]
  refine State.claimIsChecked_of_taken sender n (.inr quiet) young listed kind (fun _ => nofun) ?_ ?_
  · rw [State.taken_eq, State.settleQueue_nextAge]
    exact (s.keepsOlder_applyFrame sender n).1
  · rw [State.taken_eq, list.mem_settleQueue_foreign quietFrame]
    simp [there, kind, State.overtakes]

/-- At the own frame of a MEMBER, for every claim but the one in flight (R55, R118). -/
theorem State.claimIsChecked_landed {s : State} (sound : s.Sound) {f : InFlight} (member : s.ru.state = .member)
    (flight : s.lc.inFlight = some f) (sender : StationId) {n : Notice} (presence : ∀ p, n ≠ .presence p)
    (leave : ∀ c, n ≠ .leave c) {x : Item} {i : EntryIndex} {occ : Byte} (listed : x ∈ s.sq.items)
    (kind : x.kind = .claim i occ) (apart : x.age ≠ f.item.age) :
    s.claimIsChecked (s.landed sender f.item n) x i occ := by
  have young := (sound.flying flight).list.young x listed
  have other : ∀ y, some f.item = some y → x.age ≠ y.age := by
    rintro y ⟨⟩
    exact apart
  have there := State.mem_applyFrame_of_listed listed young (by rw [kind]; rfl) other sender n
  rw [State.landed_of_answered sound flight sender n (State.answered_of_member sound member), State.dutiful,
    State.settleMembership_stays s _ sender presence (.inr leave)]
  refine State.claimIsChecked_of_taken sender n (.inl rfl) young listed kind other
    (State.grows_taken_own sound flight sender n).1 ?_
  rw [State.mem_taken_own sound flight sender n]
  simp [there, kind, State.overtakes, State.drops, apart.symm]

/-- Settles O47: the check of R55 at another station's frame and at the own one. -/
theorem overtakenClaimsAreWithdrawn : Obligations.OvertakenClaimsAreWithdrawn :=
  ⟨fun _ sender _ _ _ _ sound receives _ presence listed kind =>
    ⟨_, State.receives_run receives sender _, State.claimIsChecked_foreign sound receives sender presence listed kind⟩,
  fun _ f _ _ _ _ sound member on flight same presence leave listed kind apart =>
    ⟨_, State.landed_run on flight same,
      State.claimIsChecked_landed sound member flight f.frame.sender presence leave listed kind apart⟩⟩

end Sys2Proof.Machine
end

section
/-! PROOF. What a PRESENCE carries (R183, R184), for O42. -/

namespace Sys2Proof.Machine

theorem RosterState.ofCode_isSome_iff : ∀ c : BitVec 4, (RosterState.ofCode c).isSome = true ↔ c.toNat ≤ 5 := by decide

theorem rosterNibble_toNat (form : Vector Byte 8) (u : StationId) :
    (rosterNibble form u).toNat = if u.1 % 2 = 0 then form[u.1 / 2].toNat % 16 else form[u.1 / 2].toNat / 16 := by
  unfold rosterNibble
  split
  · simp
  · have small := form[u.1 / 2].isLt
    rw [BitVec.extractLsb'_toNat, Nat.shiftRight_eq_div_pow]
    omega

/-- Every carried code is a roster state's when no nibble is over 5. -/
theorem carriedRosterOk_iff (p : PresencePayload) :
    carriedRosterOk p = true ↔ ∀ k : Fin 8, p.roster[k].toNat % 16 ≤ 5 ∧ p.roster[k].toNat / 16 ≤ 5 := by
  simp only [carriedRosterOk, List.all_eq_true, List.mem_finRange, true_implies, RosterState.ofCode_isSome_iff,
    rosterNibble_toNat]
  refine ⟨fun known k => ⟨?_, ?_⟩, fun known u => ?_⟩
  · have low := known ⟨2 * k.1, by omega⟩
    simpa using low
  · have high := known ⟨2 * k.1 + 1, by omega⟩
    have half : (2 * k.1 + 1) / 2 = k.1 := by omega
    simpa [half, Nat.add_mod] using high
  · obtain ⟨low, high⟩ := known ⟨u.1 / 2, by omega⟩
    split
    · exact low
    · exact high

theorem presenceState_eq (p : PresencePayload) : presenceState p =
    if p.state = 2 then some .joining else if p.state = 3 then some .member else if p.state = 4 then some .syncing else none := by
  have joining : p.state = 2 ↔ p.state.toNat = 2 := BitVec.toNat_inj.symm
  have member : p.state = 3 ↔ p.state.toNat = 3 := BitVec.toNat_inj.symm
  have syncing : p.state = 4 ↔ p.state.toNat = 4 := BitVec.toNat_inj.symm
  simp only [presenceState, joining, member, syncing]
  split <;> simp_all

theorem presenceState_eq_some_iff (p : PresencePayload) : (presenceState p = some .joining ↔ p.state = 2) ∧
    (presenceState p = some .member ↔ p.state = 3) ∧ (presenceState p = some .syncing ↔ p.state = 4) := by
  rw [presenceState_eq]
  refine ⟨?_, ?_, ?_⟩ <;> (repeat' split) <;> simp_all

theorem presenceMeaning_eq_some_iff (p : PresencePayload) (st : StationState) :
    presenceMeaning p = some st ↔ presenceState p = some st ∧ carriedRosterOk p = true := by
  unfold presenceMeaning
  cases carriedRosterOk p <;> simp

theorem presenceMeaning_eq_none_iff (p : PresencePayload) : presenceMeaning p = none ↔
    (p.state ≠ 2 ∧ p.state ≠ 3 ∧ p.state ≠ 4) ∨ carriedRosterOk p = false := by
  have unknown : presenceState p = none ↔ p.state ≠ 2 ∧ p.state ≠ 3 ∧ p.state ≠ 4 := by
    rw [presenceState_eq]
    (repeat' split) <;> simp_all
  unfold presenceMeaning
  cases carriedRosterOk p <;> simp [unknown]

/-- A PRESENCE with a meaning gives its sender's record one of the three states of a live station (R131). -/
theorem carriedRosterState_live {p : PresencePayload} {st : StationState} (means : presenceMeaning p = some st) :
    (carriedRosterState st).live = true := by
  have carried := ((presenceMeaning_eq_some_iff p st).1 means).1
  rw [presenceState_eq] at carried
  (repeat' split at carried) <;> cases carried <;> rfl

theorem State.presenceApplies_eq_some_iff (s : State) (p : PresencePayload) (st : StationState) :
    s.presenceApplies p = some st ↔ presenceMeaning p = some st ∧ p.profileDigest = s.cs.profileDigest := by
  unfold State.presenceApplies
  split <;> simp_all

theorem State.presenceApplies_congr {s t : State} (cs : t.cs = s.cs) (p : PresencePayload) :
    t.presenceApplies p = s.presenceApplies p := by
  simp only [State.presenceApplies, cs]

end Sys2Proof.Machine
end

section
/-! PROOF. The acceptance of a PRESENCE, part by part: the sender's record, the list, own state (R131, R135, R136, R146, R156), for
O42. -/

namespace Sys2Proof.Machine

/-! ## The sender's record (R130, R131) -/

theorem RosterRecord.become_state (r : RosterRecord) (st : RosterState) (own : Bool) (period : Nat) :
    (r.become st own period).state = st := by
  unfold RosterRecord.become
  split
  · assumption
  · split <;> rfl

section
variable (s : State) (sender : StationId) (p : PresencePayload)

theorem State.judged_presenceApplies : (s.judged sender none (.presence p)).presenceApplies p = s.presenceApplies p :=
  State.presenceApplies_congr (s.judged_frame sender none (.presence p)).1 p

theorem State.applied_presence_of_none (unknown : s.presenceApplies p = none) :
    s.applied sender none (.presence p) = s.judged sender none (.presence p) := by
  rw [State.applied, State.applyKind, State.applyPresence, s.judged_presenceApplies, unknown]

theorem State.applied_presence_of_some {st : StationState} (known : s.presenceApplies p = some st) :
    s.applied sender none (.presence p) =
      (s.judged sender none (.presence p)).setRoster sender (carriedRosterState st) none := by
  rw [State.applied, State.applyKind, State.applyPresence, s.judged_presenceApplies, known]

theorem State.applied_presence_other {v : StationId} (other : v ≠ sender) :
    (s.applied sender none (.presence p)).record v = s.record v := by
  have judged : (s.judged sender none (.presence p)).record v = s.record v := by rw [State.judged_record, if_neg other]
  cases applies : s.presenceApplies p with
  | none => rw [s.applied_presence_of_none sender p applies, judged]
  | some st => rw [s.applied_presence_of_some sender p applies, State.record_setRoster, if_neg other, judged]

theorem State.applied_presence_unknown (unknown : s.presenceApplies p = none) :
    ((s.applied sender none (.presence p)).record sender).state = (s.record sender).state := by
  rw [s.applied_presence_of_none sender p unknown, State.judged_state]

theorem State.applied_presence_state {st : StationState} (known : s.presenceApplies p = some st) :
    ((s.applied sender none (.presence p)).record sender).state = carriedRosterState st := by
  rw [s.applied_presence_of_some sender p known, State.record_setRoster, if_pos rfl, RosterRecord.become_state]

/-- The silence timer of a peer that says it is there runs with 3P (R130, R131). -/
theorem State.applied_presence_silence {st : StationState} (known : s.presenceApplies p = some st) (peer : sender ≠ s.own) :
    ((s.applied sender none (.presence p)).record sender).silence = some (3 * s.presenceMs) := by
  have live := carriedRosterState_live ((s.presenceApplies_eq_some_iff p st).1 known).1
  obtain ⟨cs, -⟩ := s.judged_frame sender none (.presence p)
  have number : (s.judged sender none (.presence p)).own = s.own := congrArg ConfigStore.stationNumber cs
  rw [s.applied_presence_of_some sender p known, State.record_setRoster, if_pos rfl, number, State.presenceMs_congr cs]
  by_cases same : ((s.judged sender none (.presence p)).record sender).state = carriedRosterState st
  · rw [RosterRecord.become, if_pos same]
    rw [State.judged_state] at same
    simp [State.judged_record, same, live, peer]
  · rw [RosterRecord.become, if_neg same, if_pos live]
    simp [peer]

/-- The ROSTER record of a PRESENCE (R131). -/
theorem State.kindRecords_presence : (s.judged sender none (.presence p)).kindRecords sender (.presence p) =
    s.rosterRecords sender ((s.applied sender none (.presence p)).record sender).state none := by
  rw [State.kindRecords, State.presenceRecords, s.judged_presenceApplies]
  cases applies : s.presenceApplies p with
  | none =>
    rw [s.applied_presence_unknown sender p applies]
    simp [State.rosterRecords]
  | some st => simp only [s.applied_presence_state sender p applies, State.judged_rosterRecords]

theorem State.applied_presence_frame : (s.applied sender none (.presence p)).cs = s.cs ∧
    (s.applied sender none (.presence p)).et.table = s.et.table ∧ (s.applied sender none (.presence p)).pu = s.pu ∧
    (s.applied sender none (.presence p)).sq = s.sq ∧ (s.applied sender none (.presence p)).ou = s.ou ∧
    s.ru.sameControl (s.applied sender none (.presence p)).ru := by
  obtain ⟨cs, pu, sq, ou, -, -, -, table⟩ := s.judged_frame sender none (.presence p)
  have control := (s.judged_control sender none (.presence p)).trans
    (State.applyKind_sameControl _ sender ((s.begun none (.presence p)).takesSegment sender) (.presence p)
      fun _ => Notice.noConfusion)
  rw [State.begun_none_ru] at control
  exact ⟨by simp [State.applied, cs], by simp [State.applied, State.applyKind, table],
    by simp [State.applied, State.applyKind, pu], by simp [State.applied, State.applyKind, sq],
    by simp [State.applied, State.applyKind, ou], control⟩

end

/-! ## The list where no entry changes (R55, R139, R152) -/

theorem State.overtakenOutcome_of_unchanged {s u : State} (table : u.et.table = s.et.table) (x : Item) :
    s.overtakenOutcome u x = [] := by
  unfold State.overtakenOutcome
  split
  · rw [if_pos (State.entry_congr table _).symm]
  all_goals rfl

theorem State.checkClaim_of_unchanged {s u : State} (table : u.et.table = s.et.table) (x : Item) :
    State.checkClaim s u x = u := by
  unfold State.checkClaim
  split
  · rw [if_pos (State.entry_congr table _).symm]
  all_goals rfl

theorem State.settleQueue_of_unchanged {s u : State} (table : u.et.table = s.et.table) (sender : StationId) (n : Notice) :
    State.settleQueue s u sender none n = u.withdrawOvertaken sender := by
  have still : u.sq.items.foldl (State.settleItem s none) u = u :=
    List.foldlRecOn (motive := fun v : State => v = u) _ _ rfl fun v same x _ => by
      subst same
      exact State.checkClaim_of_unchanged table x
  rw [State.settleQueue, still, State.moveCursor_none]
  rfl

theorem State.checkChanged_of_unchanged {s u : State} (cs : u.cs = s.cs) (table : u.et.table = s.et.table) :
    State.checkChanged s u = u := by
  refine List.foldlRecOn (motive := fun v : State => v = u) _ _ rfl fun v same q _ => ?_
  subst same
  have entry : v.ownEntry q = s.ownEntry q := by
    simp only [State.ownEntry, State.own, cs, State.entry_congr table]
  rw [entry, if_pos ((Entry.sameReplicated_iff _ _).2 rfl)]

/-- What the withdrawals of a frame leave of the claims and purges, in list order. -/
theorem State.withdrawOvertaken_outcomes (s : State) (sender : StationId) :
    (s.withdrawOvertaken sender).sq.items.filterMap withdrawnRecord = s.sq.items.filterMap withdrawnRecord := by
  have spared : ∀ (u : State) (k : ItemKind → Bool), (∀ x : Item, k x.kind = true → withdrawnRecord x = none) →
      (u.withdraw k).sq.items.filterMap withdrawnRecord = u.sq.items.filterMap withdrawnRecord := by
    intro u k silent
    rw [State.withdraw_sq, List.filterMap_filter]
    refine List.filterMap_congr fun x _ => ?_
    split
    · rfl
    · rename_i gone
      exact (silent x (by simp_all)).symm
  unfold State.withdrawOvertaken
  dsimp only
  split
  · exact spared _ _ fun x gone => by cases kind : x.kind <;> simp_all [withdrawnRecord]
  · rw [spared _ _ fun x gone => by cases kind : x.kind <;> simp_all [withdrawnRecord]]
    exact spared _ _ fun x gone => by cases kind : x.kind <;> simp_all [withdrawnRecord]

theorem State.withdrawOvertaken_mark (s : State) (sender : StationId) :
    (s.withdrawOvertaken sender).sq.returnPending = s.sq.returnPending := by
  unfold State.withdrawOvertaken
  dsimp only
  split <;> rfl

end Sys2Proof.Machine
end

section
/-! PROOF. The PRESENCE of another station taken: what it leaves, and what the reference's leads to (R80, R135, R136, R146, R156), for
O42. -/

namespace Sys2Proof.Machine

/-! ## Own state after a PRESENCE (R135, R136, R156) -/

/-- A PRESENCE that carries MEMBER and the own profile digest comes from the reference, as it stood (R135). -/
def State.hearsReference (s : State) (sender : StationId) (p : PresencePayload) : Prop :=
  s.reference = some sender ∧ presenceMeaning p = some .member ∧ p.profileDigest = s.cs.profileDigest

/-- A MEMBER that is not its own reference compares the PRESENCE with its own count and digest (R136). -/
def State.compares (s : State) (sender : StationId) (p : PresencePayload) : Prop :=
  s.ru.state = .member ∧ sender ≠ s.cs.stationNumber ∧ s.hearsReference sender p

/-- The PRESENCE completes a join or a resync (R156). -/
def State.finishes (s : State) (sender : StationId) (p : PresencePayload) : Prop :=
  (s.ru.state = .syncing ∨ (s.ru.state = .joining ∧ s.ru.ownJoin = true)) ∧
    (∀ i : EntryIndex, s.ru.coverage[i] = true) ∧ s.hearsReference sender p

theorem State.appliesSegments_iff (s : State) : s.appliesSegments = true ↔
    s.ru.state = .syncing ∨ (s.ru.state = .joining ∧ s.ru.ownJoin = true) := by
  unfold State.appliesSegments
  cases s.ru.state <;> simp

theorem State.coverageFull_iff (s : State) : s.coverageFull = true ↔ ∀ i : EntryIndex, s.ru.coverage[i] = true := by
  simp only [State.coverageFull, List.all_eq_true, Vector.mem_toList_iff, Vector.mem_iff_getElem, id]
  exact ⟨fun full i => full _ ⟨i.1, i.2, rfl⟩, fun full b ⟨i, small, here⟩ => here ▸ full ⟨i, small⟩⟩

theorem State.differsFrom_iff (s : State) (p : PresencePayload) :
    s.differsFrom p = true ↔ p.lineCount ≠ s.et.lineCount ∨ p.tableDigest ≠ s.tableDigest := by
  simp [State.differsFrom]

theorem State.isOwnReference_of_reference {s : State} {u : StationId} (reference : s.reference = some u) :
    s.isOwnReference = true ↔ u = s.own := by
  simp [State.isOwnReference, reference]

section
variable {s : State} (applies : s.applies = true) (sender : StationId) (p : PresencePayload)
include applies

theorem State.taken_cs_of_applies (n : Notice) : (s.taken sender none n).cs = s.cs :=
  (State.taken_frame sender ((s.begun_none_applies n).trans applies)).1

theorem State.moved_presence_of_reference (hears : s.hearsReference sender p) : s.moved sender none (.presence p) =
    if s.ru.state = .member ∧ sender ≠ s.cs.stationNumber then
      if s.differsFrom p then (s.readied sender p).enterSyncing else s.readied sender p
    else if s.completes then (s.readied sender p).complete p else s.readied sender p := by
  obtain ⟨reference, means, digest⟩ := hears
  have carries : (s.taken sender none (.presence p)).presenceApplies p = some .member := by
    rw [State.presenceApplies_congr (State.taken_cs_of_applies applies sender _)]
    exact (s.presenceApplies_eq_some_iff p .member).2 ⟨means, digest⟩
  have peer : (s.isOwnReference = false) ↔ sender ≠ s.cs.stationNumber := by
    rw [← Bool.not_eq_true, State.isOwnReference_of_reference reference]
    rfl
  have elsewhere := State.not_listening_of_applies applies
  simp only [State.moved, State.settleMembership, State.settlePresence, State.hearReference, State.readied, elsewhere, carries,
    applies, reference, State.inState_iff, Bool.not_eq_true', peer, Bool.false_eq_true, if_false, true_and, if_true]

theorem State.moved_presence_of_other (other : ¬s.hearsReference sender p) :
    s.moved sender none (.presence p) = s.taken sender none (.presence p) ∨
      s.moved sender none (.presence p) = s.readied sender p := by
  have elsewhere := State.not_listening_of_applies applies
  have means := s.presenceApplies_eq_some_iff p
  rw [State.hearsReference] at other
  simp only [State.moved, State.settleMembership, State.settlePresence, State.hearReference, State.readied, elsewhere, applies,
    State.presenceApplies_congr (State.taken_cs_of_applies applies sender _), Bool.false_eq_true, if_false, true_and]
  split
  · rename_i st carries
    have named : s.reference = some sender → st ≠ .member := by
      rintro reference rfl
      exact other ⟨reference, (means _).1 carries⟩
    split
    · rename_i reference
      rw [if_neg (named reference)]
      exact .inr rfl
    · exact .inl rfl
  · exact .inl rfl

/-- The comparison that finds a difference (R136). -/
theorem State.moved_presence_resyncs (compares : s.compares sender p) (differs : s.differsFrom p = true) :
    s.moved sender none (.presence p) = (s.readied sender p).enterSyncing := by
  obtain ⟨member, peer, hears⟩ := compares
  rw [State.moved_presence_of_reference applies sender p hears, if_pos ⟨member, peer⟩, if_pos differs]

/-- A PRESENCE that neither differs where it is compared nor completes moves the flashers, no more (R80). -/
theorem State.moved_presence_stays (alike : ¬(s.compares sender p ∧ s.differsFrom p = true))
    (unfinished : ¬s.finishes sender p) : s.moved sender none (.presence p) = s.taken sender none (.presence p) ∨
      s.moved sender none (.presence p) = s.readied sender p := by
  by_cases hears : s.hearsReference sender p
  · rw [State.moved_presence_of_reference applies sender p hears]
    right
    split
    · rename_i compared
      exact if_neg fun differs => alike ⟨⟨compared.1, compared.2, hears⟩, differs⟩
    · refine if_neg fun completes => unfinished ?_
      obtain ⟨attempts, full⟩ := Bool.and_eq_true_iff.1 completes
      exact ⟨s.appliesSegments_iff.1 attempts, s.coverageFull_iff.1 full, hears⟩
  · exact State.moved_presence_of_other applies sender p hears

/-! ## The frame taken -/

/-- A PRESENCE changes no entry: no claim is overtaken and no point announced (R35, R55). -/
theorem State.taken_presence : s.taken sender none (.presence p) =
    (s.applied sender none (.presence p)).stopSettledReminders.withdrawOvertaken sender := by
  obtain ⟨cs, table, -⟩ := s.applied_presence_frame sender p
  have points : State.settlePoints s (s.applied sender none (.presence p)) none (.presence p) =
      (s.applied sender none (.presence p)).stopSettledReminders :=
    State.checkChanged_of_unchanged (by simpa using cs) (by simpa using table)
  have frame : State.applyFrame s (s.begun none (.presence p)) sender none (.presence p) =
      (s.applied sender none (.presence p)).stopSettledReminders := by
    rw [State.applyFrame_of_applies sender ((s.begun_none_applies _).trans applies), points]
    rfl
  rw [State.taken_eq, frame, State.settleQueue_of_unchanged (by simpa using table)]

theorem State.taken_presence_frame : (s.taken sender none (.presence p)).ru = (s.applied sender none (.presence p)).ru ∧
    (s.taken sender none (.presence p)).ou = s.ou ∧
    (s.taken sender none (.presence p)).sq.returnPending = s.sq.returnPending := by
  obtain ⟨-, -, -, sq, ou, -⟩ := s.applied_presence_frame sender p
  rw [State.taken_presence applies sender p, State.withdrawOvertaken_mark]
  simp [sq, ou]

/-- The points at a PRESENCE: a reminder timer may stop, no more (R40). -/
theorem State.taken_presence_point (q : PointId) : (s.taken sender none (.presence p)).point q = s.point q ∨
    (s.taken sender none (.presence p)).point q = { s.point q with reminder := .stopped } := by
  obtain ⟨-, -, pu, -⟩ := s.applied_presence_frame sender p
  have point : (s.applied sender none (.presence p)).point q = s.point q := State.point_congr pu q
  rw [State.taken_presence applies sender p, State.point_congr (State.withdrawOvertaken_frame _ sender).2.2.2.1,
    State.point_stopSettledReminders, point]
  split
  · exact .inl rfl
  · exact .inr rfl

/-- The PRESENCE of another station pushes the ROSTER record of its sender, no more (R131). -/
theorem State.pushed_taken_presence : s.Pushed (s.taken sender none (.presence p))
    (s.rosterRecords sender ((s.applied sender none (.presence p)).record sender).state none) := by
  have begun := (s.begun_none_applies (.presence p)).trans applies
  have table : (State.applyFrame s (s.begun none (.presence p)) sender none (.presence p)).et.table = s.et.table := by
    have same : (s.taken sender none (.presence p)).et =
        (State.applyFrame s (s.begun none (.presence p)) sender none (.presence p)).et := by simp [State.taken_eq]
    rw [← same, (State.taken_frame sender begun).2.1, (s.applied_presence_frame sender p).2.1]
  have silent : s.queueOutcomes (State.applyFrame s (s.begun none (.presence p)) sender none (.presence p)) none = [] := by
    rw [State.queueOutcomes, List.append_nil]
    exact List.flatMap_eq_nil_iff.2 fun x _ => State.overtakenOutcome_of_unchanged table x
  have pushed := State.pushed_taken sender begun
  rwa [silent, List.append_nil, s.kindRecords_presence sender p] at pushed

end

theorem State.rosterRecords_isReport (s : State) (u : StationId) (st : RosterState) (cause : Option LeaveCause) :
    (s.rosterRecords u st cause).filter Record.isReport = s.rosterRecords u st cause ∧
      (s.rosterRecords u st cause).filter Record.isOutcome = [] := by
  unfold State.rosterRecords
  split <;> exact ⟨rfl, rfl⟩

/-! ## The list and what is readied for SYNCING (R139, R146, R152) -/

section
variable {s : State} (receives : s.receives) (applies : s.applies = true) (sender : StationId) (p : PresencePayload)
include applies

theorem State.readied_frame : (s.readied sender p).cs = s.cs ∧
    (s.readied sender p).ru = (s.applied sender none (.presence p)).ru ∧
    (s.readied sender p).sq = (s.taken sender none (.presence p)).sq ∧
    (s.readied sender p).lc = (s.taken sender none (.presence p)).lc ∧
    (s.readied sender p).pu = (s.taken sender none (.presence p)).pu ∧
    (s.readied sender p).ou.silenceMark = s.ou.silenceMark := by
  have mark : (s.readied sender p).ou.silenceMark = (s.taken sender none (.presence p)).ou.silenceMark := rfl
  exact ⟨by simp [State.readied, State.taken_cs_of_applies applies], by simp [State.readied, State.taken_presence_frame applies],
    by simp [State.readied], by simp [State.readied], by simp [State.readied], 
    by rw [mark, (State.taken_presence_frame applies sender p).2.1]⟩

/-- The claims and purges that stand when the PRESENCE is taken. -/
theorem State.readied_outcomes :
    (s.readied sender p).sq.items.filterMap withdrawnRecord = s.sq.items.filterMap withdrawnRecord := by
  rw [(State.readied_frame applies sender p).2.2.1, State.taken_presence applies sender p, State.withdrawOvertaken_outcomes,
    (State.stopSettledReminders_frame _).2.2.2.1, (s.applied_presence_frame sender p).2.2.2.1]

include receives

theorem State.readied_quiet : (s.readied sender p).lc.inFlight = none := by
  rw [(State.readied_frame applies sender p).2.2.2.1]
  exact State.taken_quiet sender (.presence p) (.inr receives.2.1)

/-- A point's item and the PRESENCE item stand when the PRESENCE is taken. -/
theorem State.readied_keeps {x : Item} (listed : x ∈ s.sq.items) (kept : x.kind.isPoint = true ∨ x.kind.isPresence = true) :
    x ∈ (s.readied sender p).sq.items := by
  have quiet := State.taken_quiet sender (own := none) (.presence p) (.inr receives.2.1)
  rw [State.taken_presence applies sender p, (State.withdrawOvertaken_frame _ sender).2.2.2.2.1] at quiet
  rw [(State.readied_frame applies sender p).2.2.1, State.taken_presence applies sender p, State.mem_withdrawOvertaken quiet,
    (State.stopSettledReminders_frame _).2.2.2.1, (s.applied_presence_frame sender p).2.2.2.1]
  refine ⟨listed, ?_⟩
  cases kind : x.kind <;> simp_all [State.overtakes, ItemKind.isPoint, ItemKind.isPresence]

end

end Sys2Proof.Machine
end

section
/-! PROOF. The acceptance of another station's PRESENCE put together: O42. -/

namespace Sys2Proof.Machine

/-! ## The start of a resynchronisation (R121, R136, R146) -/

/-- The entry to SYNCING from `u` through the close of its event. -/
theorem State.close_enterSyncing (old : State) {u : State} (quiet : u.lc.inFlight = none) :
    let t := State.close old u.enterSyncing
    t.ru.state = .syncing ∧ t.ru.joinMode = some .resync ∧ t.ru.attempt = 1 ∧ t.ru.attemptTimer = some (8 * u.presenceMs) ∧
      t.ru.presenceTimer = some u.presenceMs ∧ (∀ i : EntryIndex, t.ru.coverage[i] = false) ∧
      t.hasItem (· == .join .resync) = true ∧ t.countItems ItemKind.isClaim = 0 ∧ t.countItems ItemKind.isLost = 0 ∧
      t.countItems ItemKind.isPurge = 0 ∧ t.countItems (· == .snapshot) = 0 ∧ u.keepsAtSyncing t := by
  intro t
  have ru : t.ru = _ := (State.close_frame u.enterSyncing old).2.2.1.trans u.enterSyncing_ru
  have items : t.sq.items = _ := (congrArg SendQueue.items (by simp [t])).trans u.enterSyncing_items
  have syncing : t.ru.state = .syncing := by rw [ru]
  have count : ∀ k : ItemKind → Bool, (∀ i : ItemKind, (i.isPoint || i.isPresence || i.isLeave) = true → k i = false) →
      t.countItems k = if k (.join .resync) then 1 else 0 := fun k apart => by
    rw [State.countItems, items]
    exact countP_insert_filter (fun x kept => apart x.kind kept) _ _
  have kept : ∀ x ∈ u.sq.items, (x.kind.isPoint || x.kind.isPresence || x.kind.isLeave) = true → x ∈ t.sq.items :=
    fun x listed stays => by
      rw [items, mem_insertItem]
      exact .inr (List.mem_filter.2 ⟨listed, stays⟩)
  have asked : t.hasItem (· == .join .resync) = true := by
    refine List.any_eq_true.2 ⟨{ kind := .join .resync, cls := 3, age := u.sq.nextAge }, ?_, by simp⟩
    rw [items, mem_insertItem]
    exact .inl rfl
  refine ⟨syncing, by rw [ru], by rw [ru], by rw [ru], by rw [ru], fun i => by simp [ru], asked,
    count _ fun i stays => (ItemKind.apart_of_kept stays).1, count _ fun i stays => (ItemKind.apart_of_kept stays).2.1,
    count _ fun i stays => (ItemKind.apart_of_kept stays).2.2.1, count _ fun i stays => (ItemKind.apart_of_kept stays).2.2.2.1,
    by simp [t, quiet], fun x listed point => ⟨kept x listed (by simp [point]), ?_⟩,
    fun x listed presence => ⟨kept x listed (by simp [presence]), .inr (.inl ⟨.inr syncing, .inl presence⟩)⟩⟩
  cases kind : x.kind <;> simp_all [ItemKind.isPoint, ItemKind.isPresence, ItemKind.isJoin, ItemKind.isLeave]

/-! ## The PRESENCE of another station -/

section
variable {s : State} (applies : s.applies = true) (sender : StationId) (p : PresencePayload)
include applies

/-- Where a PRESENCE completes no join, roster and reports are those of the frame itself. -/
theorem State.moved_presence_frame (unfinished : ¬s.finishes sender p) :
    (s.moved sender none (.presence p)).ru.roster = (s.applied sender none (.presence p)).ru.roster ∧
      ∃ rs, rs.filter Record.isReport = [] ∧ (s.taken sender none (.presence p)).Pushed (s.moved sender none (.presence p)) rs := by
  have readied : (s.taken sender none (.presence p)).Pushed (s.readied sender p) [] :=
    .nothing (by simp [State.readied]) (by simp [State.readied])
  have ru := (State.readied_frame applies sender p).2.1
  by_cases resyncs : s.compares sender p ∧ s.differsFrom p = true
  · rw [State.moved_presence_resyncs applies sender p resyncs.1 resyncs.2]
    exact ⟨by rw [State.enterSyncing_ru, ru], _, State.removalOutcomes_isReport _ _,
      readied.trans (s.readied sender p).pushed_enterSyncing⟩
  · rcases State.moved_presence_stays applies sender p resyncs unfinished with moved | moved <;> rw [moved]
    · exact ⟨by rw [(State.taken_presence_frame applies sender p).1], [], rfl, .refl _⟩
    · exact ⟨by rw [ru], [], rfl, readied⟩

theorem State.foreign_presence_record (unfinished : ¬s.finishes sender p) (v : StationId) :
    (s.foreign sender (.presence p)).record v = (s.applied sender none (.presence p)).record v :=
  State.record_congr ((s.foreign_roster sender (.presence p)).trans
    (State.moved_presence_frame applies sender p unfinished).1) v

/-- The reports at a PRESENCE that completes no join: its sender's ROSTER record (R131). -/
theorem State.foreign_presence_reports (unfinished : ¬s.finishes sender p) :
    s.pushes (s.foreign sender (.presence p)) Record.isReport
      (s.rosterRecords sender ((s.foreign sender (.presence p)).record sender).state none) := by
  obtain ⟨-, rs, silent, moved⟩ := State.moved_presence_frame applies sender p unfinished
  have duties : (s.moved sender none (.presence p)).Pushed (s.dutiful sender none (.presence p)) [] := by
    rw [State.dutiful_eq]
    exact .nothing (by simp) (by simp)
  rw [State.foreign_presence_record applies sender p unfinished]
  refine ((((State.pushed_taken_presence applies sender p).trans moved).trans duties).trans
    (State.pushed_close s _)).pushes ?_
  simp only [List.filter_append, silent, (s.rosterRecords_isReport _ _ _).1]
  split <;> simp [Record.isReport]

/-- The resynchronisation that a difference starts, as O42 says it (R136, R146). -/
theorem State.foreign_presence_resyncs (receives : s.receives) (compares : s.compares sender p)
    (differs : s.differsFrom p = true) :
    let t := s.foreign sender (.presence p)
    t.ru.state = .syncing ∧ t.ru.joinMode = some .resync ∧ t.ru.attempt = 1 ∧ t.ru.attemptTimer = some (8 * s.presenceMs) ∧
      t.ru.presenceTimer = some s.presenceMs ∧ (∀ i : EntryIndex, t.ru.coverage[i] = false) ∧
      t.hasItem (· == .join .resync) = true ∧ s.pushes t Record.isOutcome (s.sq.items.filterMap withdrawnRecord) ∧
      t.countItems ItemKind.isClaim = 0 ∧ t.countItems ItemKind.isLost = 0 ∧ t.countItems ItemKind.isPurge = 0 ∧
      t.countItems (· == .snapshot) = 0 ∧ s.keepsAtSyncing t := by
  intro t
  have before : s.isOwnReference = false := by
    rw [← Bool.not_eq_true, State.isOwnReference_of_reference compares.2.2.1]
    exact compares.2.1
  have after : (s.readied sender p).enterSyncing.isOwnReference = false := by
    by_contra own
    have member := State.member_of_isOwnReference (by simpa using own)
    rw [State.enterSyncing_ru] at member
    exact nomatch member
  have ended : t = State.close s (s.readied sender p).enterSyncing := by
    simp only [t, State.foreign, State.dutiful_eq]
    rw [State.moved_presence_resyncs applies sender p compares differs, State.takeDuties_of_neither before after]
  have quiet := State.readied_quiet receives applies sender p
  have period : (s.readied sender p).presenceMs = s.presenceMs :=
    State.presenceMs_congr (State.readied_frame applies sender p).1
  have outcomes : s.pushes t Record.isOutcome (s.sq.items.filterMap withdrawnRecord) := by
    have readied : (s.taken sender none (.presence p)).Pushed (s.readied sender p) [] :=
      .nothing (by simp [State.readied]) (by simp [State.readied])
    have pushed := ((State.pushed_taken_presence applies sender p).trans readied).trans
      (s.readied sender p).pushed_enterSyncing
    have closed := pushed.close_outcomes s
    rw [List.filter_append, List.filter_append, (s.rosterRecords_isReport _ _ _).2,
      State.removalOutcomes_of_quiet quiet (k := ItemKind.leftAtSyncing) fun x => withdrawnRecord_of_kept,
      filter_isOutcome_withdrawn, State.readied_outcomes applies sender p] at closed
    rw [ended]
    exact closed
  obtain ⟨state, mode, attempt, timer, presence, coverage, join, claims, losts, purges, snapshots, flight, points, kept⟩ :=
    State.close_enterSyncing s quiet
  rw [← ended] at state mode attempt timer presence coverage join claims losts purges snapshots flight points kept
  rw [period] at timer presence
  exact ⟨state, mode, attempt, timer, presence, coverage, join, outcomes, claims, losts, purges, snapshots, flight,
    fun x listed point => points x (State.readied_keeps receives applies sender p listed (.inl point)) point,
    fun x listed presence => kept x (State.readied_keeps receives applies sender p listed (.inr presence)) presence⟩

/-- Any other PRESENCE, as O42 says it (R40). -/
theorem State.foreign_presence_stays (alike : ¬(s.compares sender p ∧ s.differsFrom p = true))
    (unfinished : ¬s.finishes sender p) :
    let t := s.foreign sender (.presence p)
    t.ru = { s.ru with roster := t.ru.roster, cursor := t.ru.cursor } ∧ t.ou.silenceMark = s.ou.silenceMark ∧
      t.sq.returnPending = s.sq.returnPending ∧ s.pushes t Record.isOutcome [] ∧
      ∀ q : PointId, t.point q = { s.point q with reminder := (t.point q).reminder } ∧
        ((t.point q).reminder = (s.point q).reminder ∨ (t.point q).reminder = .stopped) := by
  intro t
  obtain ⟨ru, ou, mark⟩ := State.taken_presence_frame applies sender p
  obtain ⟨-, ru', sq', -, pu', mark'⟩ := State.readied_frame applies sender p
  obtain ⟨mru, msq, mpu, mou, pushed⟩ : (s.moved sender none (.presence p)).ru = (s.applied sender none (.presence p)).ru ∧
      (s.moved sender none (.presence p)).sq = (s.taken sender none (.presence p)).sq ∧
      (s.moved sender none (.presence p)).pu = (s.taken sender none (.presence p)).pu ∧
      (s.moved sender none (.presence p)).ou.silenceMark = s.ou.silenceMark ∧
      (s.taken sender none (.presence p)).Pushed (s.moved sender none (.presence p)) [] := by
    rcases State.moved_presence_stays applies sender p alike unfinished with moved | moved <;> rw [moved]
    · exact ⟨ru, rfl, rfl, by rw [ou], .refl _⟩
    · exact ⟨ru', sq', pu', mark', .nothing (by simp [State.readied]) (by simp [State.readied])⟩
  have duties : (s.moved sender none (.presence p)).Pushed (s.dutiful sender none (.presence p)) [] := by
    rw [State.dutiful_eq]
    exact .nothing (by simp) (by simp)
  have control : s.ru.sameControl t.ru := by
    have applied := (s.applied_presence_frame sender p).2.2.2.2.2
    rw [← mru] at applied
    rw [s.foreign_ru sender (.presence p)]
    exact applied.trans (State.takeDuties_sameControl s _)
  have point : ∀ q, t.point q = (s.taken sender none (.presence p)).point q :=
    State.point_congr ((by simp [t, State.foreign, State.dutiful_eq] : t.pu = _).trans mpu)
  refine ⟨control, ?_, ?_, ?_, fun q => ?_⟩
  · rw [← mou, show t = State.close s (s.dutiful sender none (.presence p)) from rfl, State.close_silenceMark, State.dutiful_eq,
      (State.takeDuties_frame _ s).2.2.2.2.1]
  · rw [← mark, ← msq, s.foreign_sq sender (.presence p), State.takeDuties_mark]
  · have closed := (((State.pushed_taken_presence applies sender p).trans pushed).trans duties).close_outcomes s
    rwa [List.append_nil, List.append_nil, (s.rosterRecords_isReport _ _ _).2] at closed
  · rw [point q]
    rcases State.taken_presence_point applies sender p q with same | stopped
    · rw [same]
      exact ⟨rfl, .inl rfl⟩
    · rw [stopped]
      exact ⟨rfl, .inr rfl⟩

end

/-! ## The obligation -/

/-- Settles O42: what a PRESENCE carries, its sender's record, the comparison, and any other PRESENCE. -/
theorem presenceUpdatesItsSenderAndIsCompared : Obligations.PresenceUpdatesItsSenderAndIsCompared := by
  refine ⟨fun p => ?_, fun s sender p receives applies => ?_⟩
  · have unknown : carriedRosterOk p = false ↔ ∃ k : Fin 8, 5 < p.roster[k].toNat % 16 ∨ 5 < p.roster[k].toNat / 16 := by
      simp only [← Bool.not_eq_true, carriedRosterOk_iff, not_forall, not_and_or, Nat.not_le]
    obtain ⟨joining, member, syncing⟩ := presenceState_eq_some_iff p
    refine ⟨?_, ?_, ?_, ?_⟩
    · rw [presenceMeaning_eq_some_iff, joining, carriedRosterOk_iff]
    · rw [presenceMeaning_eq_some_iff, member, carriedRosterOk_iff]
    · rw [presenceMeaning_eq_some_iff, syncing, carriedRosterOk_iff]
    · rw [presenceMeaning_eq_none_iff, unknown]
  · have table : (s.foreign sender (.presence p)).et.table = s.et.table := by
      rw [State.foreign_et sender applies, (s.applied_presence_frame sender p).2.1]
    obtain ⟨count, -⟩ := State.foreign_count (n := .presence p) sender applies (.inl fun _ => Notice.noConfusion)
    refine ⟨_, State.receives_run receives sender (.presence p), table, count, fun unfinished => ?_, fun compares differs => ?_,
      fun alike unfinished => ?_⟩
    · have record := State.foreign_presence_record applies sender p unfinished
      refine ⟨fun v other => (record v).trans (s.applied_presence_other sender p other), fun st means digest => ?_, fun without => ?_,
        State.foreign_presence_reports applies sender p unfinished⟩
      · have known := (s.presenceApplies_eq_some_iff p st).2 ⟨means, digest⟩
        rw [record sender]
        exact ⟨s.applied_presence_state sender p known, s.applied_presence_silence sender p known⟩
      · have unknown : s.presenceApplies p = none := Option.eq_none_iff_forall_ne_some.2 fun st known => by
          obtain ⟨means, digest⟩ := (s.presenceApplies_eq_some_iff p st).1 known
          rcases without with meaningless | other
          · rw [meaningless] at means
            exact nomatch means
          · exact other digest
        rw [record sender]
        exact s.applied_presence_unknown sender p unknown
    · exact State.foreign_presence_resyncs applies sender p receives compares ((s.differsFrom_iff p).2 differs)
    · exact State.foreign_presence_stays applies sender p
        (fun both => alike ⟨both.1, (s.differsFrom_iff p).1 both.2⟩) unfinished

end Sys2Proof.Machine
end

section
/-! PROOF. What the Output Unit shows of a state: the trip reasons (R63, R66, R68) and the output values (R74 to R86). -/

namespace Sys2Proof.Machine

/-! ## The trip reasons (R63, R66, R68) -/

theorem State.isTripCategory_iff (s : State) (c : CategoryId) : s.isTripCategory c = true ↔
    ∃ f : Profile, s.cs.profile = some f ∧ (f.categories[c] : Category).trip = true := by
  simp only [State.isTripCategory, State.category]
  cases s.cs.profile <;> simp

theorem State.tripTable_iff (s : State) : s.tripTable = true ↔
    ∃ (i : EntryIndex) (c : CategoryId) (f : Profile), (s.entry i).phase ≠ .quiet ∧ (s.entry i).category = some c ∧
      s.cs.profile = some f ∧ (f.categories[c] : Category).trip = true := by
  have trips : ∀ e : Entry, s.isTripEntry e = true ↔ ∃ c, e.category = some c ∧ s.isTripCategory c = true := by
    intro e
    unfold State.isTripEntry
    cases e.category <;> simp
  simp only [State.tripTable, List.any_eq_true, List.mem_finRange, true_and, Bool.and_eq_true, bne_iff_ne, trips,
    State.isTripCategory_iff]
  constructor
  · rintro ⟨i, phase, c, category, f, held, trip⟩
    exact ⟨i, c, f, phase, category, held, trip⟩
  · rintro ⟨i, c, f, phase, category, held, trip⟩
    exact ⟨i, phase, c, category, f, held, trip⟩

theorem Condition.isActive_iff (c : Condition) : c.isActive = true ↔ c = .active := by
  cases c <;> simp [Condition.isActive]

theorem State.tripOwnPoint_iff (s : State) : s.tripOwnPoint = true ↔
    ∃ (q : PointId) (u : Setup) (f : Profile), s.cs.setup = some u ∧ (u.points[q] : PointSetup).source ≠ .unused ∧
      (s.point q).qualified = .active ∧ s.cs.profile = some f ∧
      (f.categories[(u.points[q] : PointSetup).category] : Category).trip = true := by
  simp only [State.tripOwnPoint, List.any_eq_true, List.mem_finRange, true_and, Bool.and_eq_true, Condition.isActive_iff,
    State.pointUsed, State.pointSource, State.pointCategory, State.pointSetup, State.category]
  refine exists_congr fun q => ?_
  cases s.cs.setup <;> cases s.cs.profile <;> simp [and_assoc]

theorem State.tripUncertain_iff (s : State) : s.tripUncertain = true ↔
    s.cs.setup ≠ none ∧ (s.ru.state = .listening ∨ s.ru.state = .joining ∨ s.ru.state = .syncing ∨
      s.ru.state = .leaving ∨ s.ru.state = .offline ∨ s.ru.state = .refused ∨
      (s.ru.state = .muted ∧ (s.ru.entryState = some .joining ∨ s.ru.entryState = some .syncing))) := by
  simp only [State.tripUncertain, Bool.and_eq_true, Option.isSome_iff_ne_none]
  cases s.ru.state <;> simp

/-! ## The output values (R69, R70, R74 to R86) -/

theorem State.modesCount_iff (s : State) : s.modesCount = true ↔
    s.ru.state = .member ∨ (s.ru.state = .muted ∧ s.ru.entryState = some .member) := by
  unfold State.modesCount
  cases s.ru.state <;> simp

theorem TripReasons.tripped_iff (t : TripReasons) : t.tripped = true ↔ t ≠ TripReasons.clear := by
  obtain ⟨table, ownPoint, uncertain⟩ := t
  cases table <;> cases ownPoint <;> cases uncertain <;> simp [TripReasons.tripped, TripReasons.clear]

/-- Some entry that the rule matches satisfies `q` (R76). -/
def State.matchesSome (s : State) (r : OutputRule) (q : Entry → Prop) : Prop :=
  ∃ i : EntryIndex,
    (s.entry i ≠ Entry.pristine ∧ r.origins.getLsbD (i.1 / 16) = true ∧
      (∃ c, (s.entry i).category = some c ∧ r.categories.getLsbD c.1 = true) ∧
      ((s.entry i).orphaned = false ∨ r.includeOrphaned = true)) ∧ q (s.entry i)

theorem OutputRule.admits_iff (r : OutputRule) (i : EntryIndex) (e : Entry) : r.admits i e = true ↔
    e ≠ Entry.pristine ∧ r.origins.getLsbD (i.1 / 16) = true ∧
      (∃ c, e.category = some c ∧ r.categories.getLsbD c.1 = true) ∧ (e.orphaned = false ∨ r.includeOrphaned = true) := by
  simp only [OutputRule.admits, Bool.and_eq_true, Bool.or_eq_true, Bool.not_eq_true', Entry.isPristine, beq_eq_false_iff_ne,
    and_assoc]
  cases e.category <;> simp [originOf]

theorem State.someMatched_iff (s : State) (r : OutputRule) {q : Entry → Bool} {Q : Entry → Prop}
    (each : ∀ e, q e = true ↔ Q e) : s.someMatched r q = true ↔ s.matchesSome r Q := by
  simp only [State.someMatched, State.matchesSome, List.any_eq_true, List.mem_finRange, true_and, Bool.and_eq_true,
    OutputRule.admits_iff, each]

/-- The mode of the rule gives the output the value on (R77, R78, R81, R84). -/
def State.modeOn (s : State) (o : OutputId) (r : OutputRule) : Prop :=
  match r.mode with
  | .off => False
  | .level =>
    (r.basis = .condition ∧ s.matchesSome r (·.condition = .active)) ∨ (r.basis = .phase ∧ s.matchesSome r (·.phase ≠ .quiet))
  | .annunciate =>
    (s.matchesSome r (·.phase = .raised) ∧ s.ou.fast.on = true) ∨
    (¬s.matchesSome r (·.phase = .raised) ∧ s.matchesSome r (·.phase = .lapsed) ∧ s.ou.slow.on = true) ∨
    (¬s.matchesSome r (·.phase = .raised) ∧ ¬s.matchesSome r (·.phase = .lapsed) ∧ s.matchesSome r (·.phase = .held))
  | .audible =>
    s.matchesSome r fun e => (e.phase = .raised ∨ e.phase = .lapsed) ∧ later e.raiseStamp s.ou.silenceMark = true
  | .pulse => s.ou.pulses[o] ≠ none

theorem State.annunciateValue_iff (s : State) (r : OutputRule) : s.annunciateValue r = true ↔
    (s.matchesSome r (·.phase = .raised) ∧ s.ou.fast.on = true) ∨
    (¬s.matchesSome r (·.phase = .raised) ∧ s.matchesSome r (·.phase = .lapsed) ∧ s.ou.slow.on = true) ∨
    (¬s.matchesSome r (·.phase = .raised) ∧ ¬s.matchesSome r (·.phase = .lapsed) ∧ s.matchesSome r (·.phase = .held)) := by
  have phase : ∀ ph : Phase, s.someMatched r (·.phase == ph) = true ↔ s.matchesSome r (·.phase = ph) := fun ph =>
    s.someMatched_iff r fun _ => beq_iff_eq
  unfold State.annunciateValue
  rw [← phase, ← phase, ← phase]
  split
  · simp [*]
  · split <;> simp [*]

theorem State.modeValue_iff (s : State) (o : OutputId) (r : OutputRule) : s.modeValue o r = true ↔ s.modeOn o r := by
  unfold State.modeValue State.modeOn
  cases r.mode with
  | off => simp
  | level =>
    have active := s.someMatched_iff r fun e => e.condition.isActive_iff
    have pending := s.someMatched_iff r (q := (·.phase != .quiet)) fun _ => bne_iff_ne
    cases r.basis with
    | condition => simp [active]
    | phase => simp [pending]
  | annunciate => exact s.annunciateValue_iff r
  | audible => exact s.someMatched_iff r fun e => by rw [Bool.and_eq_true, Phase.pending_iff]
  | pulse => exact Option.isSome_iff_ne_none

/-- The output has the value on, by station state and trip state (R69, R70, R86). -/
def State.outputOn (s : State) (o : OutputId) (r : OutputRule) : Prop :=
  let counts : Prop := s.ru.state = .member ∨ (s.ru.state = .muted ∧ s.ru.entryState = some .member)
  let tripped : Prop := s.ou.trip ≠ TripReasons.clear
  (r.tripForcing = true ∧ (tripped ∨ ¬counts) ∧ r.safeOn = true) ∨
    (counts ∧ (r.tripForcing = false ∨ ¬tripped) ∧ s.modeOn o r)

theorem State.outputValue_iff (s : State) (o : OutputId) (r : OutputRule) : s.outputValue o r = true ↔ s.outputOn o r := by
  unfold State.outputOn State.outputValue
  rw [← State.modesCount_iff, ← TripReasons.tripped_iff, ← State.modeValue_iff]
  cases s.modesCount <;> cases r.tripForcing <;> cases s.ou.trip.tripped <;> simp

theorem pinOf_iff (r : OutputRule) (value : Bool) :
    (pinOf r value = .high ↔ (value = true ↔ r.activeLow = false)) ∧
      (pinOf r value = .low ↔ ¬(value = true ↔ r.activeLow = false)) := by
  unfold pinOf
  cases value <;> cases r.activeLow <;> simp

theorem State.OutputsOk.pin {s : State} (h : s.OutputsOk) (o : OutputId) : s.ou.pins[o] = s.outputPin o := by
  obtain ⟨-, pins, -⟩ := h
  rw [pins]
  simp [State.outputPins]

end Sys2Proof.Machine
end

section
/-! PROOF. Which records the parts of an event push: none of them a STATION record (R72, R123). -/

namespace Sys2Proof.Machine

/-! ## Nothing said of the station -/

/-- What leads from `s` to `t` pushes no STATION record, and a queue that overflowed in `s` shows the marker in `t`. -/
def State.Silent (s t : State) : Prop :=
  t.lp.marker = none →
    s.lp.marker = none ∧ ∃ pushed, t.lp.records = s.lp.records ++ pushed ∧ pushed.filter Record.isStation = []

theorem State.Silent.trans {s t u : State} (h : s.Silent t) (h' : t.Silent u) : s.Silent u := by
  intro room
  obtain ⟨roomBefore, pushed', records', none'⟩ := h' room
  obtain ⟨roomFirst, pushed, records, none⟩ := h roomBefore
  refine ⟨roomFirst, pushed ++ pushed', ?_, ?_⟩
  · rw [records', records, List.append_assoc]
  · rw [List.filter_append, none, none', List.nil_append]

theorem State.Silent.of_records {s t : State} (records : t.lp.records = s.lp.records) (marker : t.lp.marker = s.lp.marker) :
    s.Silent t := fun room => ⟨marker ▸ room, [], by rw [records, List.append_nil], rfl⟩

theorem State.Silent.of_lp {s t : State} (lp : t.lp = s.lp) : s.Silent t := .of_records (by rw [lp]) (by rw [lp])

theorem State.Silent.refl (s : State) : s.Silent s := .of_lp rfl

theorem State.Silent.answer {s t : State} (h : s.Silent t) (r : ResultCode) (l : List Byte) : s.Silent (t.answer r l) :=
  h.trans (.of_records rfl rfl)

theorem State.Pushed.silent {s t : State} {rs : List Record} (h : s.Pushed t rs) (none : rs.filter Record.isStation = []) :
    s.Silent t := by
  intro room
  have before := room
  rw [h.lp] at before
  exact ⟨(LocalPort.foldl_push_records _ _ _ before).1, rs, h.records room, none⟩

/-! ## The records of the parts -/

theorem noStation_of_forall {rs : List Record} (each : ∀ r ∈ rs, r.isStation = false) : rs.filter Record.isStation = [] :=
  List.filter_eq_nil_iff.2 fun r listed => by simp [each r listed]

theorem Record.isStation_of_isReport {r : Record} (report : r.isReport = true) : r.isStation = false := by
  cases r with
  | station st reason trip => exact nomatch report
  | _ => rfl

theorem withdrawnRecord_noStation (x : Item) : ∀ r ∈ (withdrawnRecord x).toList, r.isStation = false := by
  intro r listed
  unfold withdrawnRecord at listed
  cases kind : x.kind <;> simp_all [Record.isStation]

theorem State.removalOutcomes_noStation (s : State) (k : ItemKind → Bool) :
    (s.removalOutcomes k).filter Record.isStation = [] := by
  refine noStation_of_forall fun r listed => ?_
  obtain ⟨x, -, told⟩ := List.mem_flatMap.1 listed
  split at told
  · exact nomatch told
  · exact withdrawnRecord_noStation x r told

theorem State.failureOutcome_noStation (s : State) (x : Item) : (s.failureOutcome x).filter Record.isStation = [] := by
  refine noStation_of_forall fun r listed => ?_
  unfold State.failureOutcome at listed
  split at listed
  · exact nomatch listed
  · exact withdrawnRecord_noStation x r listed

theorem State.kindRecords_noStation (s : State) (sender : StationId) (n : Notice) :
    (s.kindRecords sender n).filter Record.isStation = [] :=
  noStation_of_forall fun r listed =>
    Record.isStation_of_isReport (List.filter_eq_self.1 (s.kindRecords_isReport sender n) r listed)

theorem State.ownOutcome_noStation (old : State) (x : Item) : ∀ r ∈ old.ownOutcome x, r.isStation = false := by
  intro r listed
  unfold State.ownOutcome at listed
  cases kind : x.kind <;> simp_all [Record.isStation]

theorem State.overtakenOutcome_noStation (old s : State) (x : Item) : ∀ r ∈ old.overtakenOutcome s x, r.isStation = false := by
  intro r listed
  unfold State.overtakenOutcome at listed
  split at listed
  · split at listed
    · exact nomatch listed
    · split at listed
      · exact nomatch listed
      · obtain rfl := List.mem_singleton.1 listed
        rfl
  all_goals exact nomatch listed

theorem State.itemOutcome_noStation (old s : State) (own : Option Item) (x : Item) :
    ∀ r ∈ old.itemOutcome s own x, r.isStation = false := by
  unfold State.itemOutcome
  split
  · split
    · exact old.ownOutcome_noStation x
    · exact old.overtakenOutcome_noStation s x
  · exact old.overtakenOutcome_noStation s x

theorem State.queueOutcomes_noStation (old s : State) (own : Option Item) :
    (old.queueOutcomes s own).filter Record.isStation = [] := by
  refine noStation_of_forall fun r listed => ?_
  rcases List.mem_append.1 listed with item | removed
  · obtain ⟨x, -, told⟩ := List.mem_flatMap.1 item
    exact old.itemOutcome_noStation s own x r told
  · split at removed
    · split at removed
      · exact nomatch removed
      · exact old.ownOutcome_noStation _ r removed
    · exact nomatch removed

/-! ## The changes of own state (R121, R125 to R128, R142 to R148, R156) -/

theorem State.silent_enterOut (s : State) (st : StationState) (reason : Option RefusalReason) :
    s.Silent (s.enterOut st reason) :=
  (s.pushed_enterOut st reason).silent (s.removalOutcomes_noStation _)

theorem State.silent_enterSyncing (s : State) : s.Silent s.enterSyncing :=
  s.pushed_enterSyncing.silent (s.removalOutcomes_noStation _)

theorem State.silent_attemptFailed (s : State) : s.Silent s.attemptFailed := by
  unfold State.attemptFailed
  split
  · split
    · exact .of_lp (by simp)
    · exact s.silent_enterOut _ _
  · split
    · exact .of_lp (by simp [State.startResyncAttempt])
    · exact s.pushed_fallToListening.silent (s.removalOutcomes_noStation _)
  all_goals exact .refl s

theorem State.silent_takeDeferredExpiry (s : State) : s.Silent s.takeDeferredExpiry := by
  unfold State.takeDeferredExpiry
  split
  · exact State.Silent.trans (.of_lp rfl) (State.silent_attemptFailed _)
  · exact .refl s

theorem State.silent_expireAttempt (s : State) : s.Silent s.expireAttempt := by
  unfold State.expireAttempt
  extract_lets u
  split
  · exact .of_lp rfl
  · exact State.Silent.trans (.of_lp rfl) u.silent_attemptFailed

theorem State.silent_leaveMuted (s : State) : s.Silent s.leaveMuted := by
  unfold State.leaveMuted
  split
  · split
    · exact s.silent_enterSyncing
    · exact .of_lp (by simp)
  · exact .of_lp (by simp)
  · exact s.silent_enterSyncing
  · exact .refl s

/-! ## Own attempts that fail (R97, R104 to R108, R126) -/

theorem State.silent_exhausted (s : State) : s.Silent s.exhausted := by
  unfold State.exhausted
  cases s.ru.state with
  | leaving => exact s.silent_enterOut _ _
  | _ => exact .of_lp (by simp)

theorem State.silent_countFailure (s : State) : s.Silent s.countFailure := by
  unfold State.countFailure
  split
  · exact .of_lp rfl
  · exact State.Silent.trans (.of_lp rfl) s.clearVetoes.silent_exhausted

theorem State.silent_reportFailed (s : State) (x : Item) : s.Silent (s.reportFailed x) :=
  (s.pushed_reportFailed x).silent (s.failureOutcome_noStation x)

theorem State.silent_failAttempt (s : State) (f : InFlight) : s.Silent (s.failAttempt f) :=
  ((s.silent_reportFailed f.item).trans (State.silent_countFailure _)).trans (State.silent_takeDeferredExpiry _)

theorem State.silent_loseArbitration (s : State) (f : InFlight) : s.Silent (s.loseArbitration f) := by
  unfold State.loseArbitration
  extract_lets u v
  have ended : s.Silent v := .of_lp rfl
  exact (ended.trans (v.silent_reportFailed f.item)).trans (State.silent_takeDeferredExpiry _)

theorem State.silent_faultAsSender (s : State) (f : InFlight) (n : Nat) : s.Silent (s.faultAsSender f n) := by
  unfold State.faultAsSender
  extract_lets u v
  have ended : s.Silent v := .of_lp rfl
  exact ended.trans (v.silent_failAttempt f)

theorem State.silent_ownFrameVetoed (s : State) (f : InFlight) : s.Silent (s.ownFrameVetoed f) := by
  unfold State.ownFrameVetoed
  extract_lets u
  have ended : s.Silent u.endFlight.endFrame := .of_lp rfl
  exact ended.trans (State.silent_failAttempt _ f)

/-! ## The acceptance of a frame (R103) -/

theorem State.silent_taken (s : State) (sender : StationId) (own : Option Item) (n : Notice) :
    s.Silent (s.taken sender own n) := by
  cases applies : (s.begun own n).applies with
  | true =>
    refine (State.pushed_taken sender applies).silent ?_
    rw [List.filter_append, State.kindRecords_noStation, State.queueOutcomes_noStation, List.nil_append]
  | false =>
    have begun : s.Silent (s.begun own n) := .of_lp (by simp [State.begun])
    rw [State.taken_eq, State.applyFrame_of_not sender applies]
    exact begun.trans ((State.pushed_settleQueue s _ sender own n).silent (State.queueOutcomes_noStation _ _ _))

theorem State.silent_decideWindow (s : State) (p : PresencePayload) : s.Silent (s.decideWindow p) := by
  unfold State.decideWindow
  split
  · split
    · exact .of_lp (by simp)
    · exact s.silent_enterOut _ _
  · exact .refl s

theorem State.silent_settlePresence (old s : State) (sender : StationId) (p : PresencePayload) :
    s.Silent (State.settlePresence old s sender p) := by
  have aligned : s.Silent s.alignFlashers := .of_lp (by simp)
  cases window : old.inState .listening with
  | true =>
    rw [State.settlePresence, if_pos window]
    exact s.silent_decideWindow p
  | false =>
    exact State.settlePresence_cases window sender p (.refl s) aligned
      (fun _ => aligned.trans (State.silent_enterSyncing _))
      fun _ => aligned.trans ((State.pushed_complete _ p).silent rfl)

theorem State.silent_settleMembership (old s : State) (sender : StationId) (own : Option Item) (n : Notice) :
    s.Silent (State.settleMembership old s sender own n) := by
  cases n with
  | presence p => exact State.silent_settlePresence old s sender p
  | leave c =>
    rw [State.settleMembership]
    split
    · exact s.silent_enterOut _ _
    · exact .refl s
  | _ => exact .refl s

theorem State.silent_dutiful (s : State) (sender : StationId) (own : Option Item) (n : Notice) :
    s.Silent (s.dutiful sender own n) :=
  ((s.silent_taken sender own n).trans (State.silent_settleMembership s _ sender own n)).trans (.of_lp (by simp [State.dutiful]))

end Sys2Proof.Machine
end

section
/-! PROOF. The two forms of an event, closed by R62, R72 and R75 or beside all that the outputs rest on, and which form each
command has: O55, O56 and O57. -/

namespace Sys2Proof.Machine

/-! ## The forms of an event -/

/-- `t` differs from `s` in nothing that trip reasons and outputs rest on, and the Output Unit stands. -/
structure State.Aside (s t : State) : Prop where
  cs : t.cs = s.cs
  et : t.et = s.et
  qualified : ∀ p, (t.point p).qualified = (s.point p).qualified
  state : t.ru.state = s.ru.state
  entry : t.ru.entryState = s.ru.entryState
  ou : t.ou = s.ou

theorem State.Aside.of_blocks {s t : State} (cs : t.cs = s.cs) (et : t.et = s.et) (ru : t.ru = s.ru) (pu : t.pu = s.pu)
    (ou : t.ou = s.ou) : s.Aside t :=
  ⟨cs, et, fun p => by rw [State.point_congr pu], by rw [ru], by rw [ru], ou⟩

/-- An event of `s` that ends in `t`: its parts push no STATION record, and it is closed, or it stands aside from the outputs. -/
inductive State.Event (s : State) : State → Prop where
  | closed {u : State} (silent : s.Silent u) : s.Event (State.close s u)
  | aside {t : State} (aside : s.Aside t) (silent : s.Silent t) : s.Event t

section Forms
variable {s t u : State}

theorem State.Aside.outputsOk (h : s.Aside t) (outputs : s.OutputsOk) : t.OutputsOk :=
  outputs.congr h.cs h.et h.qualified h.state h.entry (by rw [h.ou]) (by rw [h.ou]) (by rw [h.ou]) (by rw [h.ou]) (by rw [h.ou])
    fun o => by rw [h.ou]

theorem State.Event.outputsOk (h : s.Event t) (outputs : s.OutputsOk) : t.OutputsOk := by
  cases h with
  | closed silent => exact State.close_outputsOk s _
  | aside aside silent => exact aside.outputsOk outputs

/-- The own state or the trip set has changed (R72, R123). -/
def State.stationChanged (s t : State) : Prop := t.ru.state ≠ s.ru.state ∨ t.ou.trip ≠ s.ou.trip

/-- The STATION record of a state (R172). -/
def State.stationRecord (t : State) : Record := .station t.ru.state t.ru.refusal t.ou.trip

theorem State.Aside.unchanged (h : s.Aside t) : ¬s.stationChanged t := by
  simp [State.stationChanged, h.state, h.ou]

theorem State.close_lp_of_changed (h : s.stationChanged (State.close s u)) :
    (State.close s u).lp = u.lp.push u.promptPeriod (State.close s u).stationRecord := by
  simp only [State.stationChanged, State.close_frame, State.close_trip] at h
  rw [State.close_lp, if_pos h]
  simp [State.stationRecord, State.close_trip]

theorem State.close_lp_of_unchanged (h : ¬s.stationChanged (State.close s u)) : (State.close s u).lp = u.lp := by
  simp only [State.stationChanged, State.close_frame, State.close_trip] at h
  rw [State.close_lp, if_neg h]

/-- A push that leaves room has put its record last. -/
theorem LocalPort.push_records_of_room {l : LocalPort} {period : Option Nat} {r : Record}
    (room : (l.push period r).marker = none) : l.marker = none ∧ (l.push period r).records = l.records ++ [r] :=
  LocalPort.foldl_push_records period [r] l room

/-- A closed event that changes own state or trip set pushes its STATION record last, and no other (R72). -/
theorem State.Silent.records_close (silent : s.Silent u) (changed : s.stationChanged (State.close s u))
    (room : (State.close s u).lp.marker = none) : ∃ pushed, pushed.filter Record.isStation = [] ∧
      (State.close s u).lp.records = s.lp.records ++ (pushed ++ [(State.close s u).stationRecord]) := by
  have lp := State.close_lp_of_changed changed
  rw [lp] at room
  obtain ⟨before, last⟩ := LocalPort.push_records_of_room room
  obtain ⟨-, pushed, records, none⟩ := silent before
  exact ⟨pushed, none, by rw [lp, last, records, List.append_assoc]⟩

theorem State.Event.reports_of_changed (h : s.Event t) (changed : s.stationChanged t) (room : t.lp.marker = none) :
    ∃ pushed, pushed.filter Record.isStation = [] ∧ t.lp.records = s.lp.records ++ (pushed ++ [t.stationRecord]) := by
  cases h with
  | closed silent => exact silent.records_close changed room
  | aside aside silent => exact absurd changed aside.unchanged

theorem State.Event.silent_of_unchanged (h : s.Event t) (unchanged : ¬s.stationChanged t) : s.Silent t := by
  cases h with
  | closed silent => exact silent.trans (.of_lp (State.close_lp_of_unchanged unchanged))
  | aside aside silent => exact silent

end Forms

/-! ## The form of each command -/

section Commands
variable {s : State}

theorem State.Event.refl (s : State) : s.Event s := .aside (.of_blocks rfl rfl rfl rfl rfl) (.refl s)

theorem State.Event.ite {c : Prop} [Decidable c] {t u : State} (ht : c → s.Event t) (hu : ¬c → s.Event u) :
    s.Event (if c then t else u) := by
  split
  · exact ht ‹_›
  · exact hu ‹_›

/-- An event of port, line, list or free values alone. -/
theorem State.Event.elsewhere {t : State} (cs : t.cs = s.cs) (et : t.et = s.et) (ru : t.ru = s.ru) (pu : t.pu = s.pu)
    (ou : t.ou = s.ou) (records : t.lp.records = s.lp.records) (marker : t.lp.marker = s.lp.marker) : s.Event t :=
  .aside (.of_blocks cs et ru pu ou) (.of_records records marker)

theorem State.Event.answer (s : State) (r : ResultCode) (l : List Byte) : s.Event (s.answer r l) :=
  .elsewhere rfl rfl rfl rfl rfl rfl rfl

theorem event_entryScan (start phases : Byte) : ∃ t, execEntryScan start phases s = .next t ∧ s.Event t := by
  refine ⟨_, rfl, .ite (fun _ => .answer s _ _) fun _ => ?_⟩
  split <;> exact .answer s _ _

theorem event_rosterRead (station : Byte) : ∃ t, execRosterRead station s = .next t ∧ s.Event t := by
  refine ⟨_, rfl, ?_⟩
  split
  · exact .answer s _ _
  · exact .elsewhere rfl rfl rfl rfl rfl rfl rfl

theorem event_notifyRead : ∃ t, execNotifyRead s = .next t ∧ s.Event t := by
  refine ⟨_, rfl, ?_⟩
  split
  · exact .answer s _ _
  · exact .elsewhere rfl rfl rfl rfl rfl rfl rfl

theorem event_acknowledge (index : Byte) : ∃ t, execAcknowledge index s = .next t ∧ s.Event t := by
  refine ⟨_, rfl, ?_⟩
  split
  · exact .elsewhere rfl rfl rfl rfl rfl rfl rfl
  · exact .answer s _ _

theorem event_purge (origin : Byte) : ∃ t, execPurge origin s = .next t ∧ s.Event t := by
  refine ⟨_, rfl, ?_⟩
  split
  · exact .answer s _ _
  · dsimp only
    split
    · exact .elsewhere rfl rfl rfl rfl rfl rfl rfl
    · exact .answer s _ _

theorem event_silence : ∃ t, execSilence s = .next t ∧ s.Event t :=
  ⟨_, rfl, .ite (fun _ => .closed (.of_records rfl rfl)) fun _ => .answer s _ _⟩

theorem event_softPoint (point level : Byte) : ∃ t, execSoftPoint point level s = .next t ∧ s.Event t := by
  refine ⟨_, rfl, .ite (fun _ => .answer s _ _) fun _ => ?_⟩
  split
  · exact .ite (fun _ => .closed ((State.Silent.of_lp (by simp)).answer _ _)) fun _ => .answer s _ _
  · exact .answer s _ _

theorem event_profileLoad (image : Vector Byte 26) : ∃ t, execProfileLoad image s = .next t ∧ s.Event t := by
  refine ⟨_, rfl, .ite (fun _ => .answer s _ _) fun _ => ?_⟩
  split
  · exact .answer s _ _
  · exact .closed (.of_records rfl rfl)

theorem event_setupLoad (image : Vector Byte 130) : ∃ t, execSetupLoad image s = .next t ∧ s.Event t := by
  refine ⟨_, rfl, .ite (fun _ => .answer s _ _) fun _ => ?_⟩
  split
  · exact .answer s _ _
  · exact .closed (.of_records rfl rfl)

theorem event_start : ∃ t, execStart s = .next t ∧ s.Event t :=
  ⟨_, rfl, .ite
    (fun _ => .closed ((s.pushed_startStation.silent (s.removalOutcomes_noStation _)).answer _ _)) fun _ => .answer s _ _⟩

theorem event_leave : ∃ t, execLeave s = .next t ∧ s.Event t := by
  have leaving : ∀ c, s.Silent (s.startLeaving c) := fun c =>
    (s.pushed_startLeaving c).silent (s.removalOutcomes_noStation _)
  refine ⟨_, rfl, ?_⟩
  cases s.ru.state with
  | member | joining | syncing => exact .closed ((leaving .commanded).answer _ _)
  | muted => exact .closed ((leaving .vetoLimit).answer _ _)
  | listening => exact .closed ((s.silent_enterOut .offline none).answer _ _)
  | leaving | configuring | offline | refused => exact .answer s _ _

theorem event_inputSample (levels : BitVec 16) : ∃ t, execInputSample levels s = .next t ∧ s.Event t := by
  have qualified : ∀ p r, (s.samplePoint levels p r).qualified = r.qualified := fun p r =>
    s.samplePoint_cases (P := fun r' => r'.qualified = r.qualified) levels p r rfl fun u high => (r.sample_keeps u high).1
  exact ⟨_, rfl, .aside ⟨by simp, by simp, fun p => by rw [State.point_onPoints, qualified], by simp, by simp, by simp⟩
    (.of_lp (by simp))⟩

theorem event_reminderExpiry (point : PointId) : ∃ t, execReminderExpiry point s = .next t ∧ s.Event t :=
  ⟨_, rfl, .ite
    (fun _ => .aside ⟨by simp, by simp, s.remind_qualified point, by simp, by simp, by simp⟩ (.of_lp (by simp)))
    fun _ => .refl s⟩

theorem event_qualification (point : PointId) (c : Condition) : s.Event (State.close s (s.qualifyTo point c)) :=
  .closed (.of_lp (by simp))

theorem event_attemptStart : ∃ t, execAttemptStart s = .next t ∧ s.Event t := by
  refine ⟨_, rfl, .ite (fun _ => ?_) fun _ => .refl s⟩
  split
  · exact .elsewhere rfl rfl rfl rfl rfl rfl rfl
  · exact .refl s

theorem event_arbitrationLost : ∃ t, execArbitrationLost s = .next t ∧ s.Event t := by
  refine ⟨_, rfl, ?_⟩
  split
  · exact .refl s
  · exact .closed (s.silent_loseArbitration _)

theorem event_senderFault (n : Nat) : ∃ t, execSenderFault n s = .next t ∧ s.Event t := by
  refine ⟨_, rfl, ?_⟩
  split
  · exact .refl s
  · exact .closed (s.silent_faultAsSender _ n)

theorem event_frameVetoed (rx : RxFrame) : ∃ t, execFrameVetoed rx s = .next t ∧ s.Event t := by
  refine ⟨_, rfl, .ite (fun _ => ?_) fun _ => .refl s⟩
  split
  · exact .closed (s.silent_ownFrameVetoed _)
  · exact .ite (fun _ => .elsewhere rfl rfl rfl rfl rfl rfl rfl) fun _ =>
      .ite (fun _ => .elsewhere rfl rfl rfl rfl rfl rfl rfl) fun _ => .refl s

theorem event_frameDiscardedDamaged (rx : RxFrame) : ∃ t, execFrameDiscardedDamaged rx s = .next t ∧ s.Event t := by
  have pu : (s.discardDamaged rx).pu = s.pu := by simp
  obtain ⟨state, entry⟩ : (s.discardDamaged rx).ru.state = s.ru.state ∧
      (s.discardDamaged rx).ru.entryState = s.ru.entryState := by
    unfold State.discardDamaged
    dsimp only
    split <;> exact ⟨rfl, rfl⟩
  exact ⟨_, rfl, .ite
    (fun _ => .aside ⟨by simp, by simp, fun p => by rw [State.point_congr pu], state, entry, by simp⟩ (.of_lp (by simp)))
    fun _ => .refl s⟩

theorem event_presenceTimerExpiry : ∃ t, execPresenceTimerExpiry s = .next t ∧ s.Event t := by
  have pu : s.requestPresence.startPresenceTimer.pu = s.pu := by simp
  exact ⟨_, rfl, .ite
    (fun _ => .aside ⟨by simp, by simp, fun p => by rw [State.point_congr pu], by simp, by simp, by simp⟩ (.of_lp (by simp)))
    fun _ => .refl s⟩

theorem event_attnReleaseEnd : ∃ t, execAttnReleaseEnd s = .next t ∧ s.Event t := by
  have queue : ∀ (l : LocalPort) period, (l.endRelease period).records = l.records ∧ (l.endRelease period).marker = l.marker := by
    intro l period
    unfold LocalPort.endRelease
    split <;> exact ⟨rfl, rfl⟩
  obtain ⟨records, marker⟩ := queue s.lp s.promptPeriod
  exact ⟨_, rfl, .ite (fun _ => .elsewhere rfl rfl rfl rfl rfl records marker) fun _ => .refl s⟩

theorem event_accept (sender : StationId) (n : Notice) : s.Event (s.accept sender n) := by
  unfold State.accept
  split
  · exact .refl s
  · exact .closed (s.silent_dutiful sender none n)
  · exact .closed ((s.silent_dutiful sender _ _).trans (State.silent_takeDeferredExpiry _))

/-- Every command but the hardware reset and the completion of a NOTIFY READ is an event of one of the two forms. -/
theorem event_exec (c : Instr) (s : State) (reset : ∀ ids, c ≠ .hardwareReset ids) (read : c ≠ .notifyReadComplete) :
    ∃ t, exec c s = .next t ∧ s.Event t := by
  cases c with
  | hardwareReset ids => exact absurd rfl (reset ids)
  | notifyReadComplete => exact absurd rfl read
  | statusRead => exact ⟨_, rfl, .elsewhere rfl rfl rfl rfl rfl rfl rfl⟩
  | entryRead index => exact ⟨_, rfl, .answer s _ _⟩
  | entryScan start phases => exact event_entryScan start phases
  | rosterRead station => exact event_rosterRead station
  | notifyRead => exact event_notifyRead
  | countersRead => exact ⟨_, rfl, .answer s _ _⟩
  | countersClear => exact ⟨_, rfl, .elsewhere rfl rfl rfl rfl rfl rfl rfl⟩
  | acknowledge index => exact event_acknowledge index
  | purge origin => exact event_purge origin
  | silence => exact event_silence
  | softPoint point level => exact event_softPoint point level
  | profileLoad image => exact event_profileLoad image
  | setupLoad image => exact event_setupLoad image
  | start => exact event_start
  | leave => exact event_leave
  | unknownCommand code => exact ⟨_, rfl, .ite (fun _ => .refl s) fun _ => .answer s _ _⟩
  | commandDiscarded => exact ⟨_, rfl, .elsewhere rfl rfl rfl rfl rfl rfl rfl⟩
  | qualifyTimerExpiry point => exact ⟨_, rfl, .ite (fun _ => event_qualification point _) fun _ => .refl s⟩
  | releaseTimerExpiry point => exact ⟨_, rfl, .ite (fun _ => event_qualification point _) fun _ => .refl s⟩
  | reminderExpiry point => exact event_reminderExpiry point
  | lineIdle => exact ⟨_, rfl, .ite (fun _ => .elsewhere rfl rfl rfl rfl rfl rfl rfl) fun _ => .refl s⟩
  | attemptStart => exact event_attemptStart
  | arbitrationLost => exact event_arbitrationLost
  | senderFault n => exact event_senderFault n
  | frameAbandoned => exact ⟨_, rfl, .ite (fun _ => .elsewhere rfl rfl rfl rfl rfl rfl rfl) fun _ => .refl s⟩
  | presenceAccepted sender payload => exact ⟨_, rfl, event_accept sender _⟩
  | pointAccepted sender payload => exact ⟨_, rfl, event_accept sender _⟩
  | claimAccepted sender payload => exact ⟨_, rfl, event_accept sender _⟩
  | lostAccepted sender payload => exact ⟨_, rfl, event_accept sender _⟩
  | purgeAccepted sender origin => exact ⟨_, rfl, event_accept sender _⟩
  | leaveAccepted sender cause => exact ⟨_, rfl, event_accept sender _⟩
  | joinAccepted sender payload => exact ⟨_, rfl, event_accept sender _⟩
  | snapshotAccepted sender payload => exact ⟨_, rfl, event_accept sender _⟩
  | frameVetoed rx => exact event_frameVetoed rx
  | frameDiscardedDamaged rx => exact event_frameDiscardedDamaged rx
  | presenceTimerExpiry => exact event_presenceTimerExpiry
  | promotionTimerExpiry => exact ⟨_, rfl, .ite (fun _ => .elsewhere rfl rfl rfl rfl rfl rfl rfl) fun _ => .refl s⟩
  | silenceTimerExpiry station => exact ⟨_, rfl, .ite (fun _ => .closed (.of_lp (by simp))) fun _ => .refl s⟩
  | muteTimerExpiry => exact ⟨_, rfl, .ite (fun _ => .closed s.silent_leaveMuted) fun _ => .refl s⟩
  | windowTimerExpiry => exact ⟨_, rfl, .ite (fun _ => .closed (.of_lp (by simp))) fun _ => .refl s⟩
  | attemptTimerExpiry => exact ⟨_, rfl, .ite (fun _ => .closed s.silent_expireAttempt) fun _ => .refl s⟩
  | pulseTimerExpiry output => exact ⟨_, rfl, .ite (fun _ => .closed (.of_lp rfl)) fun _ => .refl s⟩
  | flasherPhaseChange flasher => exact ⟨_, rfl, .closed (.of_lp rfl)⟩
  | promptTimerExpiry => exact ⟨_, rfl, .ite (fun _ => .elsewhere rfl rfl rfl rfl rfl rfl rfl) fun _ => .refl s⟩
  | attnReleaseEnd => exact event_attnReleaseEnd
  | inputSample levels => exact event_inputSample levels
  | frameStart => exact ⟨_, rfl, .ite (fun _ => .elsewhere rfl rfl rfl rfl rfl rfl rfl) fun _ => .refl s⟩

theorem LocalPort.records_removeHead (l : LocalPort) (o : OpenRead) (period : Option Nat) :
    ((l.removeHead o).afterRemoval period).records = l.records ∨
      ((l.removeHead o).afterRemoval period).records = l.records.tail := by
  have kept : ∀ l : LocalPort, (l.afterRemoval period).records = l.records := by
    intro l
    unfold LocalPort.afterRemoval
    split <;> rfl
  rw [kept, LocalPort.removeHead]
  split
  · exact .inl rfl
  · exact .inr rfl

/-- The completion of a NOTIFY READ takes at most the head of the queue, and stands aside from the outputs (R171). -/
theorem aside_notifyReadComplete (s : State) : ∃ t, exec .notifyReadComplete s = .next t ∧ s.Aside t ∧
    (t.lp.records = s.lp.records ∨ t.lp.records = s.lp.records.tail) := by
  refine ⟨_, rfl, ?_⟩
  split
  · exact ⟨.of_blocks rfl rfl rfl rfl rfl, .inl rfl⟩
  · exact ⟨.of_blocks rfl rfl rfl rfl rfl, s.lp.records_removeHead _ _⟩

end Commands

/-! ## The Output Unit after every step -/

theorem State.OutputsOk.tick {s : State} (h : s.OutputsOk) : s.tick.OutputsOk :=
  h.congr s.tick_frame.1 (by simp) (fun p => by rw [State.tick_point]) s.tick_state (by rw [State.tick_ru])
    (by rw [State.tick_ou]) (by rw [State.tick_ou]) (by rw [State.tick_ou]) (by rw [State.tick_ou]) (by rw [State.tick_ou])
    fun o => by simp [State.tick_ou, countDown_isSome]

theorem State.OutputsOk.exec {s t : State} (h : s.OutputsOk) (c : Instr) (run : exec c s = .next t) : t.OutputsOk := by
  by_cases reset : ∃ ids, c = .hardwareReset ids
  · obtain ⟨ids, rfl⟩ := reset
    obtain rfl : State.resetAt (stationOfPins ids) s.pending s.freeCount = t := Host.Outcome.next.inj run
    exact State.outputsOk_resetAt _ _ _
  · by_cases read : c = .notifyReadComplete
    · obtain ⟨u, complete, aside, -⟩ := aside_notifyReadComplete s
      obtain rfl : u = t := Host.Outcome.next.inj (complete.symm.trans (read ▸ run))
      exact aside.outputsOk h
    · obtain ⟨u, run', event⟩ := event_exec c s (fun ids same => reset ⟨ids, same⟩) read
      obtain rfl : u = t := Host.Outcome.next.inj (run'.symm.trans run)
      exact event.outputsOk h

/-- Every step keeps trip set, pins and stopped pulse timers those of the state reached (R62, R74, R75, R87). -/
theorem State.OutputsOk.step {s t : State} (h : s.OutputsOk) (run : step s = .next t) : t.OutputsOk := by
  unfold Machine.step at run
  cases queue : s.pending with
  | nil =>
    obtain rfl : s.tick = t := by simpa [queue] using run
    exact h.tick
  | cons c rest =>
    have waiting : ({ s with pending := rest } : State).OutputsOk := h.congr_blocks rfl rfl rfl rfl rfl rfl
    exact waiting.exec c (by simpa [queue] using run)

/-! ## The obligations -/

/-- Settles O55: the three reasons of `State.tripReasons`, which the trip set is after every step. -/
theorem tripReasonsFollowTheState : Obligations.TripReasonsFollowTheState := by
  intro s t outputs run
  rw [(outputs.step run).1]
  exact ⟨t.tripTable_iff, t.tripOwnPoint_iff, t.tripUncertain_iff⟩

/-- Settles O56: the pin of `State.outputPin`, which stands after every step, by rule, output value and polarity. -/
theorem pinsFollowTheState : Obligations.PinsFollowTheState := by
  intro s t o before run
  have outputs := before.step run
  have rule : t.rule o = t.cs.setup.map fun u => u.rules[o] := rfl
  refine ⟨fun unloaded => ?_, fun off => ?_, fun u held => ?_⟩
  · rw [outputs.pin, State.outputPin, rule, unloaded]
    rfl
  · rw [outputs.2.2 off]
    simp
  · have pin : t.ou.pins[o] = pinOf u.rules[o] (t.outputValue o u.rules[o]) := by
      rw [outputs.pin, State.outputPin, rule, held]
      rfl
    have levels := pinOf_iff u.rules[o] (t.outputValue o u.rules[o])
    rw [← pin, State.outputValue_iff] at levels
    exact levels

/-- Settles O57: a closed event that changes own state or trip set pushes its STATION record last, and no part of an event
pushes one. -/
theorem stationRecordReportsEachChange : Obligations.StationRecordReportsEachChange := by
  intro c s reset
  by_cases read : c = .notifyReadComplete
  · subst read
    obtain ⟨t, run, aside, records⟩ := aside_notifyReadComplete s
    refine ⟨t, run, fun changed => absurd changed aside.unchanged, fun other => absurd rfl other, fun _ => ⟨aside.unchanged, ?_⟩⟩
    cases queue : s.lp.records with
    | nil => exact .inl (by simpa [queue] using records)
    | cons head rest => exact records.imp (·.trans queue) fun tail => ⟨head, by rw [tail, queue, List.tail_cons]⟩
  · obtain ⟨t, run, event⟩ := event_exec c s reset read
    refine ⟨t, run, fun changed => ?_, fun _ => ⟨fun changed room => ?_, fun unchanged room => ?_⟩, fun same => absurd same read⟩
    · by_cases room : t.lp.marker = none
      · obtain ⟨pushed, -, records⟩ := event.reports_of_changed changed room
        exact .inr (by rw [records, ← List.append_assoc, List.getLast?_concat]; rfl)
      · exact .inl room
    · obtain ⟨pushed, none, records⟩ := event.reports_of_changed changed room
      exact ⟨_, records, by rw [List.filter_append, none]; rfl⟩
    · exact (event.silent_of_unchanged unchanged room).2

end Sys2Proof.Machine
end

section
/-! PROOF. The close of an event that changes no trip reason (R62, R72, R75): SILENCE (R82, R167), the end of a pulse and the turn
of a flasher (R79, R85), for O12 and O53. -/

namespace Sys2Proof.Machine

/-! ## The close where the trip set stands -/

/-- What an event does to Output Unit and port is all it does, the pins apart, when it leaves what the trip reasons rest on and
starts no pulse timer where the modes do not count. -/
theorem State.close_eq_of_tripStands {s t : State} (outputs : s.OutputsOk) (cs : t.cs = s.cs) (et : t.et = s.et)
    (pu : t.pu = s.pu) (ru : t.ru = s.ru) (trip : t.ou.trip = s.ou.trip)
    (stopped : s.modesCount = false → t.ou.pulses = Vector.replicate 8 none) :
    State.close s t = { t with ou := { t.ou with pins := (State.close s t).ou.pins } } := by
  have state : t.ru.state = s.ru.state := congrArg RosterUnit.state ru
  have entryState : t.ru.entryState = s.ru.entryState := congrArg RosterUnit.entryState ru
  have reasons : t.tripReasons = s.ou.trip := (State.tripReasons_congr cs et pu state entryState).trans outputs.1.symm
  have pulses : (if t.modesCount then t.ou.pulses else Vector.replicate 8 none) = t.ou.pulses := by
    rw [State.modesCount_congr state entryState]
    split
    · rfl
    · rename_i off
      exact (stopped (by simpa using off)).symm
  have ou : (State.close s t).ou = { t.ou with pins := (State.close s t).ou.pins } := by
    have closed := State.close_ou s t
    rwa [pulses, reasons, ← trip] at closed
  have lp : (State.close s t).lp = t.lp := by
    rw [State.close_lp, if_neg (by simp [state, reasons])]
  exact congrArg₂ (fun ou lp => { t with ou, lp }) ou lp

/-- Settles O12: with a valid line count the mark moves and the close drives the pins; without one nothing but the reply does. -/
theorem silenceMovesTheMark : Obligations.SilenceMovesTheMark := by
  intro s outputs
  have run : exec .silence s = .next (if s.et.countValid then
      State.close s ((s.onOu fun o => { o with silenceMark := s.et.lineCount }).answer .ok [])
      else s.answer .wrongState []) := rfl
  rw [run]
  refine ⟨fun unknown => ?_, fun valid => ?_⟩
  · rw [unknown]
    rfl
  · rw [valid, if_pos rfl]
    exact ⟨_, congrArg Host.Outcome.next (State.close_eq_of_tripStands outputs rfl rfl rfl rfl rfl outputs.2.2)⟩

/-! ## Pulse timers and flashers (R79, R85) -/

theorem State.modesCount_of_pulse {s : State} (outputs : s.OutputsOk) {o : OutputId} (runs : s.ou.pulses[o] ≠ none) :
    s.modesCount = true := by
  by_contra off
  exact runs (by simp [outputs.2.2 (by simpa using off)])

/-- The end of a pulse (R85). -/
theorem exec_pulseTimerExpiry {s : State} (outputs : s.OutputsOk) {o : OutputId} (runs : s.ou.pulses[o] ≠ none) :
    ∃ pins, exec (.pulseTimerExpiry o) s =
      .next { s with ou := { s.ou with pulses := vset s.ou.pulses o none, pins := pins } } := by
  have run : exec (.pulseTimerExpiry o) s = .next (if s.ou.pulses[o].isSome then
      State.close s (s.onOu fun u => { u with pulses := vset u.pulses o none }) else s) := rfl
  have modes := State.modesCount_of_pulse outputs runs
  rw [run, if_pos (Option.isSome_iff_ne_none.2 runs)]
  exact ⟨_, congrArg Host.Outcome.next
    (State.close_eq_of_tripStands outputs rfl rfl rfl rfl rfl fun off => absurd (modes.symm.trans off) nofun)⟩

/-- The turn of a flasher (R79). -/
theorem exec_flasherPhaseChange {s : State} (outputs : s.OutputsOk) (flasher : FlasherId) :
    ∃ pins, exec (.flasherPhaseChange flasher) s = .next { s with ou := { s.ou.turn flasher with pins := pins } } := by
  have run : exec (.flasherPhaseChange flasher) s = .next (State.close s (s.onOu fun o => o.turn flasher)) := rfl
  have apart : (s.ou.turn flasher).trip = s.ou.trip ∧ (s.ou.turn flasher).pulses = s.ou.pulses := by
    cases flasher <;> exact ⟨rfl, rfl⟩
  rw [run]
  exact ⟨_, congrArg Host.Outcome.next
    (State.close_eq_of_tripStands outputs rfl rfl rfl rfl apart.1 fun off => apart.2.trans (outputs.2.2 off))⟩

end Sys2Proof.Machine
end

section
/-! PROOF. The flashers at an accepted PRESENCE (R80, R135, R184), and O53. -/

namespace Sys2Proof.Machine

/-! ## One flasher (R80) -/

/-- The interval is the smallest k with k × P at least the cycle (R80). -/
theorem alignmentInterval_le_iff {cycle period : Nat} (positive : 0 < period) (k : Nat) :
    alignmentInterval cycle period ≤ k ↔ cycle ≤ k * period := by
  rw [alignmentInterval, Nat.div_le_iff_le_mul_add_pred positive, Nat.mul_comm]
  omega

theorem Flasher.align_eq (f : Flasher) (phase : Nat) {period : Nat} (positive : 0 < period) : f.align phase period =
    if 2 * phase ≤ (f.alignment + 1) * period then { on := true, remaining := phase, alignment := 0 }
    else { f with alignment := f.alignment + 1 } := by
  simp only [Flasher.align, alignmentInterval_le_iff positive]
  rfl

/-! ## Both flashers through an acceptance -/

/-- The two flashers stand. -/
def OutputUnit.sameFlashers (o o' : OutputUnit) : Prop := o'.fast = o.fast ∧ o'.slow = o.slow

theorem OutputUnit.sameFlashers.trans {o o' o'' : OutputUnit} (h : o.sameFlashers o') (h' : o'.sameFlashers o'') :
    o.sameFlashers o'' := ⟨h'.1.trans h.1, h'.2.trans h.2⟩

theorem OutputUnit.sameFlashers.of_eq {o o' : OutputUnit} (same : o' = o) : o.sameFlashers o' := by
  rw [same]
  exact ⟨rfl, rfl⟩

/-- A completion moves the silence mark, and no flasher (R156). -/
theorem State.sameFlashers_complete (s : State) (p : PresencePayload) : s.ou.sameFlashers (s.complete p).ou := by
  simp [OutputUnit.sameFlashers, State.complete]

/-- A PRESENCE of the reference moves the flashers by their alignment alone, whatever it leads to (R80). -/
theorem State.sameFlashers_hearReference (old s : State) (p : PresencePayload) (st : StationState) :
    s.alignFlashers.ou.sameFlashers (State.hearReference old s p st).ou := by
  unfold State.hearReference
  dsimp only
  split
  · split
    · split
      · exact .of_eq (by simp)
      · exact ⟨rfl, rfl⟩
    · split
      · exact State.sameFlashers_complete _ p
      · exact ⟨rfl, rfl⟩
  · exact ⟨rfl, rfl⟩

/-- A PRESENCE that aligns no flasher: of a station other than the reference, at a station that applies no frame, or with a field
or a profile digest for which it has no effect (R80, R135, R184). -/
def State.alignsNothing (s : State) (sender : StationId) (p : PresencePayload) : Prop :=
  s.reference ≠ some sender ∨ s.applies = false ∨ presenceMeaning p = none ∨ p.profileDigest ≠ s.cs.profileDigest

theorem State.sameFlashers_settlePresence {old s : State} {sender : StationId} {p : PresencePayload} (cs : s.cs = old.cs)
    (free : old.alignsNothing sender p) : s.ou.sameFlashers (State.settlePresence old s sender p).ou := by
  unfold State.settlePresence
  split
  · exact .of_eq (s.decideWindow_frame p).2.1
  · split
    · rename_i st carries
      rw [State.presenceApplies_congr cs] at carries
      obtain ⟨means, digest⟩ := (old.presenceApplies_eq_some_iff p st).1 carries
      split
      · rename_i aligns
        rcases free with other | stands | unknown | foreign
        · exact absurd aligns.2 other
        · exact absurd (aligns.1.symm.trans stands) nofun
        · exact absurd (means.symm.trans unknown) nofun
        · exact absurd digest foreign
      · exact ⟨rfl, rfl⟩
    · exact ⟨rfl, rfl⟩

section
variable (s : State) (sender : StationId) (p : PresencePayload)

/-- What a frame does to the flashers, the changes of own state have done. -/
theorem State.sameFlashers_foreign : (s.moved sender none (.presence p)).ou.sameFlashers (s.foreign sender (.presence p)).ou := by
  have duties : (s.dutiful sender none (.presence p)).ou = (s.moved sender none (.presence p)).ou := by
    rw [State.dutiful_eq, (State.takeDuties_frame _ s).2.2.2.2.1]
  rw [State.foreign, State.close_ou, duties]
  exact ⟨rfl, rfl⟩

/-- Up to the changes of own state a PRESENCE leaves configuration and Output Unit. -/
theorem State.taken_presence_outputs : (s.taken sender none (.presence p)).cs = s.cs ∧
    (s.taken sender none (.presence p)).ou = s.ou := by
  by_cases applies : s.applies = true
  · exact ⟨State.taken_cs_of_applies applies sender _, (State.taken_presence_frame applies sender p).2.1⟩
  · obtain ⟨cs, -, -, -, -, ou, -⟩ :=
      State.taken_frame_of_not sender ((s.begun_none_applies (.presence p)).trans (by simpa using applies))
    exact ⟨cs, ou⟩

variable {s sender p}

theorem State.foreign_presence_free (free : s.alignsNothing sender p) :
    s.ou.sameFlashers (s.foreign sender (.presence p)).ou := by
  obtain ⟨cs, ou⟩ := s.taken_presence_outputs sender p
  have moved := State.sameFlashers_settlePresence cs free
  rw [ou] at moved
  exact moved.trans (s.sameFlashers_foreign sender p)

/-- The PRESENCE of the reference aligns both flashers (R80). -/
theorem State.foreign_presence_aligns (applies : s.applies = true) (reference : s.reference = some sender)
    (known : presenceMeaning p ≠ none) (digest : p.profileDigest = s.cs.profileDigest) :
    (s.foreign sender (.presence p)).ou.fast = s.ou.fast.align (FlasherId.phaseMs .fast) s.presenceMs ∧
      (s.foreign sender (.presence p)).ou.slow = s.ou.slow.align (FlasherId.phaseMs .slow) s.presenceMs := by
  obtain ⟨cs, ou⟩ := s.taken_presence_outputs sender p
  obtain ⟨st, means⟩ := Option.ne_none_iff_exists'.1 known
  have carries : (s.taken sender none (.presence p)).presenceApplies p = some st := by
    rw [State.presenceApplies_congr cs]
    exact (s.presenceApplies_eq_some_iff p st).2 ⟨means, digest⟩
  have moved : s.moved sender none (.presence p) = State.hearReference s (s.taken sender none (.presence p)) p st := by
    simp [State.moved, State.settleMembership, State.settlePresence, State.not_listening_of_applies applies, carries, applies,
      reference]
  have aligned := State.sameFlashers_hearReference s (s.taken sender none (.presence p)) p st
  rw [← moved, State.alignFlashers, State.onOu_ou, ou, State.presenceMs_congr cs] at aligned
  exact aligned.trans (s.sameFlashers_foreign sender p)

end

/-- Settles O53: pulse ends and turns through the close of their event, the alignments through the acceptance of the PRESENCE. -/
theorem pulsesEndAndFlashersTurnAndAlign : Obligations.PulsesEndAndFlashersTurnAndAlign := by
  intro s outputs
  refine ⟨fun o runs => ?_, ?_, ?_, fun sender p receives applies reference known digest positive => ?_,
    fun sender p receives free => ?_⟩
  · obtain ⟨pins, run⟩ := exec_pulseTimerExpiry outputs runs
    exact ⟨_, run, rfl, vset_self _ _ _, fun k other => vset_other _ _ _ _ other⟩
  · obtain ⟨pins, run⟩ := exec_flasherPhaseChange outputs .fast
    exact ⟨_, run, rfl⟩
  · obtain ⟨pins, run⟩ := exec_flasherPhaseChange outputs .slow
    exact ⟨_, run, rfl⟩
  · obtain ⟨fast, slow⟩ := State.foreign_presence_aligns applies reference known digest
    rw [Flasher.align_eq _ _ positive] at fast slow
    exact ⟨_, State.receives_run receives sender (.presence p), fast, slow⟩
  · exact ⟨_, State.receives_run receives sender (.presence p), State.foreign_presence_free free⟩

end Sys2Proof.Machine
end

section
/-! PROOF. The pulse timers that a POINT notice starts (R76, R84, R85), for O35. -/

namespace Sys2Proof.Machine

/-! ## Which outputs match the entry (R76) -/

/-- A POINT notice leaves its entry with the category it states, and not orphaned (R9 to R14). -/
theorem State.pointEntry_admission (s : State) (e : Entry) (n : PointStatement) :
    (s.pointEntry e n).category = some n.category ∧ (s.pointEntry e n).orphaned = false := by
  simp only [State.pointEntry, State.pointCase]
  split <;> exact ⟨rfl, rfl⟩

/-- The entry after a POINT notice is matched by its origin and the category stated. -/
theorem State.admits_pointEntry_iff (s : State) (r : OutputRule) (sender : StationId) (e : Entry) (n : PointStatement) :
    r.admits (entryIndex sender n.point) (s.pointEntry e n) = true ↔
      r.origins.getLsbD sender.1 = true ∧ r.categories.getLsbD n.category.1 = true := by
  obtain ⟨category, orphaned⟩ := s.pointEntry_admission e n
  have written : s.pointEntry e n ≠ Entry.pristine := fun pristine => by
    rw [pristine] at category
    exact nomatch category
  have origin := originOf_eq_iff.1 (originOf_entryIndex sender n.point)
  simp [OutputRule.admits_iff, written, origin, category, orphaned]

/-! ## The timers started (R84, R85) -/

theorem State.startPulses_pulses {s : State} {u : Setup} (held : s.cs.setup = some u) (i : EntryIndex) (o : OutputId) :
    (s.startPulses i).ou.pulses[o] =
      if (u.rules[o] : OutputRule).mode = .pulse ∧ u.rules[o].admits i (s.entry i) = true then
        some (10 * u.rules[o].pulseTens.toNat) else s.ou.pulses[o] := by
  simp [State.startPulses, State.rule, held]

/-- A POINT notice writes entry, counter and record, and then starts pulses for a newer occurrence where the modes count. -/
theorem State.applyPoint_writes_then_starts (s : State) (sender : StationId) (n : PointStatement) :
    let i := entryIndex sender n.point
    ∃ t : State, t.cs = s.cs ∧ t.ou = s.ou ∧ t.entry i = s.pointEntry (s.entry i) n ∧ s.applyPoint sender n =
      if compareOccurrence n.occurrence (s.entry i).occurrence = .newer ∧ s.modesCount = true then t.startPulses i else t := by
  intro i
  unfold State.applyPoint
  extract_lets e e' order written counted reported
  have standing : reported.cs = s.cs ∧ reported.ru = s.ru ∧ reported.ou = s.ou ∧ reported.et = written.et := by
    simp only [reported, counted]
    (repeat' split) <;> simp [written]
  obtain ⟨cs, ru, ou, et⟩ := standing
  refine ⟨reported, cs, ou, ?_, ?_⟩
  · rw [State.entry_congr (congrArg EventTable.table et)]
    exact State.entry_setEntry_self s i e'
  · rw [State.modesCount_congr (s := s) (by rw [ru]) (by rw [ru])]

theorem State.applyPoint_pulses {s : State} {u : Setup} (held : s.cs.setup = some u) (modes : s.modesCount = true)
    (sender : StationId) (n : PointStatement) (o : OutputId) : (s.applyPoint sender n).ou.pulses[o] =
      if compareOccurrence n.occurrence (s.entry (entryIndex sender n.point)).occurrence = .newer ∧
          (u.rules[o] : OutputRule).mode = .pulse ∧ u.rules[o].origins.getLsbD sender.1 = true ∧
          u.rules[o].categories.getLsbD n.category.1 = true then some (10 * u.rules[o].pulseTens.toNat)
      else s.ou.pulses[o] := by
  obtain ⟨t, cs, ou, entry, applied⟩ := s.applyPoint_writes_then_starts sender n
  rw [applied]
  by_cases newer : compareOccurrence n.occurrence (s.entry (entryIndex sender n.point)).occurrence = .newer
  · simp only [newer, modes, and_self, if_true, true_and, State.startPulses_pulses (cs ▸ held), entry,
      State.admits_pointEntry_iff, ou]
  · simp only [newer, false_and, if_false, ou]

/-! ## The acceptance of another station's frame -/

theorem RosterUnit.sameService.modesCount {s t : State} (h : s.ru.sameService t.ru) : t.modesCount = s.modesCount := by
  rw [RosterUnit.sameService] at h
  exact State.modesCount_congr (by rw [h]) (by rw [h])

theorem State.applies_of_modesCount {s : State} (modes : s.modesCount = true) : s.applies = true := by
  rcases s.modesCount_iff.1 modes with member | ⟨muted, from_⟩
  · simp [State.applies, member]
  · simp [State.applies, muted, from_]

/-- The pulse timers that the kind's effect leaves outlive the close, where the modes count (R87). -/
theorem State.foreign_pulses {s : State} (modes : s.modesCount = true) (sender : StationId) {n : Notice}
    (presence : ∀ p, n ≠ .presence p) :
    (s.foreign sender n).ou.pulses = (s.applied sender none n).ou.pulses := by
  have begun := (s.begun_none_applies n).trans (State.applies_of_modesCount modes)
  have service := State.foreign_service (s := s) sender presence
  rw [State.foreign, (State.close_frame _ s).2.2.1] at service
  have modes' : (s.dutiful sender none n).modesCount = true := service.modesCount.trans modes
  rw [State.foreign, State.close_ou, modes', if_pos rfl, State.dutiful_plain sender presence,
    (State.takeDuties_frame _ s).2.2.2.2.1, (State.taken_frame sender begun).2.2.2.2.1]

/-- Settles O35: the pulse timers of `State.applyPoint`, in the state that the notice is judged in. -/
theorem newOccurrenceStartsPulses : Obligations.NewOccurrenceStartsPulses := by
  intro s u sender q c n status o receives held counts
  have modes := s.modesCount_iff.2 counts
  refine ⟨_, State.receives_run receives sender (.point _), ?_⟩
  obtain ⟨cs, -, -, ou, -⟩ := s.judged_frame sender none (.point
    { point := BitVec.ofNat 8 q.1, category := BitVec.ofNat 8 c.1, occurrence := n, status := status })
  have control := s.judged_control sender none (.point
    { point := BitVec.ofNat 8 q.1, category := BitVec.ofNat 8 c.1, occurrence := n, status := status })
  rw [State.begun_none_ru] at control
  rw [State.foreign_pulses modes sender fun _ => Notice.noConfusion,
    State.applied_point sender (pointMeaning_ofNat q c n status),
    State.applyPoint_pulses (cs ▸ held) (control.service.modesCount.trans modes),
    State.judged_entry, ou]
  rfl

end Sys2Proof.Machine
end

section
/-! PROOF. The line's own events: idle and the start of a frame (R91, R93, R94), for O22; the attempt of the head item (R114, R116),
for O23; the frames of others that are dropped (R100 to R102, R105, R109), for O26. -/

namespace Sys2Proof.Machine

/-! ## Idle and the start of a frame (R91, R93, R94) -/

/-- Settles O22: each mark by the receiver, and nothing while it is stopped. -/
theorem idleAndFrameStart : Obligations.IdleAndFrameStart := by
  intro s
  refine ⟨fun on apart quiet => ?_, fun on idle => ?_, fun off => ⟨?_, ?_⟩⟩
  · have rests : s.lc.receiverOn ∧ ¬s.lc.assembling ∧ s.lc.inFlight = none := ⟨on, by simp [apart], quiet⟩
    exact congrArg Host.Outcome.next (if_pos rests)
  · exact congrArg Host.Outcome.next (if_pos (c := s.lc.receiverOn ∧ s.lc.lineIdle) ⟨on, idle⟩)
  · exact congrArg Host.Outcome.next (if_neg (by simp [off]))
  · exact congrArg Host.Outcome.next (if_neg (by simp [off]))

/-! ## The head item starts an attempt (R114, R116) -/

/-- What R114 lets a station offer is what the model finds eligible. -/
theorem State.mayOffer_iff (s : State) (x : Item) : s.mayOffer x ↔ s.eligible x.kind = true := by
  cases state : s.ru.state with
  | member => simp [State.mayOffer, state, State.eligible_member state]
  | joining => simp [State.mayOffer, state, State.eligible_attempting (.inl state), or_assoc]
  | syncing => simp [State.mayOffer, state, State.eligible_attempting (.inr state), or_assoc]
  | _ => simp [State.mayOffer, State.eligible, state]

/-- Only a station that sends offers an item (R101, R114). -/
theorem State.sends_of_mayOffer {s : State} {x : Item} (offers : s.mayOffer x) : s.ru.state.sends = true := by
  rcases offers with ⟨state, -⟩ | ⟨state | state, -⟩ | ⟨state, -⟩ <;> rw [state] <;> rfl

/-- The head item is the first that the station may offer (R114). -/
theorem State.headItem_of_first {s : State} {pre post : List Item} {x : Item} (list : s.sq.items = pre ++ x :: post)
    (passed : ∀ y ∈ pre, ¬s.mayOffer y) (offers : s.mayOffer x) : s.headItem = some x := by
  rw [State.headItem, list, List.find?_eq_some_iff_append]
  exact ⟨(s.mayOffer_iff x).1 offers, pre, post, rfl, fun y before => by simpa [State.mayOffer_iff] using passed y before⟩

theorem State.headItem_eq_none_iff (s : State) : s.headItem = none ↔ ∀ x ∈ s.sq.items, ¬s.mayOffer x := by
  simp only [State.headItem, List.find?_eq_none, State.mayOffer_iff]

theorem State.mayAttempt_iff (s : State) : s.mayAttempt = true ↔
    s.lc.receiverOn = true ∧ s.lc.lineIdle = true ∧ s.lc.inFlight = none ∧ s.ru.state.sends = true := by
  simp [State.mayAttempt, and_assoc]

/-- Settles O23: the head item where an attempt may start, and nothing where none may or no item is eligible. -/
theorem attemptStartsWithTheHeadItem : Obligations.AttemptStartsWithTheHeadItem := by
  intro s
  refine ⟨fun pre x post on idle quiet list passed offers => ?_, fun idles => congrArg Host.Outcome.next ?_⟩
  · have may : s.mayAttempt = true := s.mayAttempt_iff.2 ⟨on, idle, quiet, State.sends_of_mayOffer offers⟩
    exact congrArg Host.Outcome.next (by rw [if_pos may, State.headItem_of_first list passed offers]; rfl)
  · split
    · rename_i may
      obtain ⟨on, idle, quiet, -⟩ := s.mayAttempt_iff.1 may
      have none_offered : s.headItem = none := by
        rw [State.headItem_eq_none_iff]
        rcases idles with off | busy | flying | nothing
        · exact nomatch on.symm.trans off
        · exact nomatch idle.symm.trans busy
        · exact absurd quiet flying
        · exact nothing
      rw [none_offered]
    · rfl

/-! ## Frames of others, dropped (R100 to R102, R105, R109) -/

theorem State.receiving_iff (s : State) : s.receiving = true ↔ s.receives := by
  simp [State.receiving, and_assoc]

theorem StationState.vetoes_iff (st : StationState) : st.vetoes = true ↔
    st = .listening ∨ st = .joining ∨ st = .syncing ∨ st = .member ∨ st = .leaving := by
  cases st <;> simp [StationState.vetoes]

/-- The end of another station's frame, with no veto slot due (R93, R105). -/
theorem State.endFrame_of_released {s : State} (released : s.lc.ltx = .released) :
    s.endFrame = { s with lc := { s.lc with lineIdle := false, assembling := false } } := by
  rw [State.endFrame, State.onLc, ← released]

/-- The veto that a receiver issues is counted where it finds the frame damaged in a state that vetoes (R101, R110). -/
theorem State.issueVeto_eq (s : State) (rx : RxFrame) : s.issueVeto rx =
    { s with lc := { s.lc with counters := { s.lc.counters with
      vetoesIssued := if rxDamaged rx = true ∧ (s.ru.state = .listening ∨ s.ru.state = .joining ∨ s.ru.state = .syncing ∨
          s.ru.state = .member ∨ s.ru.state = .leaving) then bump s.lc.counters.vetoesIssued
        else s.lc.counters.vetoesIssued } } } := by
  simp only [State.issueVeto, Bool.and_eq_true, StationState.vetoes_iff]
  rfl

/-- A damaged frame that is not vetoed makes the table of a MUTED station doubtful (R126). -/
theorem State.discardDamaged_eq (s : State) (rx : RxFrame) : s.discardDamaged rx =
    (s.issueVeto rx).endFrame.onRu fun r => { r with doubtful := r.doubtful || decide (s.ru.state = .muted) } := by
  have inMuted : (s.issueVeto rx).endFrame.inState .muted = decide (s.ru.state = .muted) := by
    rw [Bool.eq_iff_iff, State.inState_iff, decide_eq_true_iff]
    simp
  rw [State.discardDamaged, inMuted]
  by_cases muted : s.ru.state = .muted
  · simp [muted]
  · simp only [muted, decide_false, Bool.false_eq_true, if_false, Bool.or_false]
    rfl

/-- Of a frame that it has not been assembling a station without a slot to drive takes no notice (R94, R99). -/
theorem State.ignores_unheard {s : State} (quiet : s.lc.inFlight = none) (noSlot : s.lc.ltx ≠ .faultSlot)
    (unheard : s.lc.assembling = false) (rx : RxFrame) : exec (.frameVetoed rx) s = .next s ∧
      exec .frameAbandoned s = .next s ∧ exec (.frameDiscardedDamaged rx) s = .next s := by
  have deaf : s.receiving = false := by simp [State.receiving, unheard]
  refine ⟨congrArg Host.Outcome.next ?_, congrArg Host.Outcome.next ?_, congrArg Host.Outcome.next ?_⟩
  · rw [quiet]
    simp [noSlot, deaf]
  · simp [deaf]
  · simp [deaf]

/-- The three ways in which a receiver drops a frame. -/
theorem State.drops_received {s : State} (receives : s.receives) (noSlot : s.lc.ltx ≠ .faultSlot) (rx : RxFrame) :
    exec (.frameVetoed rx) s = .next (s.receivedFrameVetoed rx) ∧ exec .frameAbandoned s = .next s.endFrame ∧
      (rxDamaged rx = true → exec (.frameDiscardedDamaged rx) s = .next (s.discardDamaged rx)) := by
  have receiving : s.receiving = true := s.receiving_iff.2 receives
  obtain ⟨on, quiet, -⟩ := receives
  refine ⟨congrArg Host.Outcome.next ?_, congrArg Host.Outcome.next (if_pos receiving),
    fun damaged => congrArg Host.Outcome.next (if_pos (by simp [receiving, damaged]))⟩
  rw [if_pos on, quiet]
  dsimp only
  rw [if_neg noSlot, if_pos receiving]

/-- Settles O26: the slot of a frame that the station faulted on, then a frame that it receives, then one that it does not. -/
theorem othersFramesAreDropped : Obligations.OthersFramesAreDropped := by
  refine ⟨fun s rx on quiet slot => ?_, fun s rx receives released => ?_⟩
  · exact congrArg Host.Outcome.next (by rw [if_pos on, quiet]; exact if_pos slot)
  · intro c ended issued
    have noSlot : s.lc.ltx ≠ .faultSlot := by rw [released]; exact nofun
    obtain ⟨vetoed, abandoned, discarded⟩ := State.drops_received receives noSlot rx
    refine ⟨vetoed.trans (congrArg Host.Outcome.next ?_),
      abandoned.trans (congrArg Host.Outcome.next (State.endFrame_of_released released)),
      fun damaged => (discarded damaged).trans (congrArg Host.Outcome.next ?_),
      State.ignores_unheard (s := { s with lc := { s.lc with assembling := false } }) receives.2.1 noSlot rfl rx⟩
    · rw [State.receivedFrameVetoed, State.issueVeto_eq, State.endFrame_of_released (by exact released)]
      rfl
    · rw [State.discardDamaged_eq, State.issueVeto_eq, State.endFrame_of_released (by exact released)]
      rfl

end Sys2Proof.Machine
end

section
/-! PROOF. The bytes of a frame and what a receiver makes of them (R94 to R96, R99, R182, R183), for O28. -/

namespace Sys2Proof.Machine

/-! ## The arbitration field (R95, R183) -/

theorem classKindByte_bits : ∀ (cls : Fin 4) (k : BitVec 3), (classKindByte cls k).toNat % 32 =
      2 * (cls.1 % 2) + cls.1 / 2 + 4 * (k.getLsbD 2).toNat + 8 * (k.getLsbD 1).toNat + 16 * (k.getLsbD 0).toNat ∧
    (classKindByte cls k).extractLsb' 5 3 = 0b111#3 := by decide

theorem senderByte_bits : ∀ u : StationId, (senderByte u).toNat % 16 =
      8 * (u.1 % 2) + 4 * (u.1 / 2 % 2) + 2 * (u.1 / 4 % 2) + u.1 / 8 ∧
    (senderByte u).extractLsb' 4 4 = 0b1111#4 := by decide

/-- A receiver reads back the kind that the first byte carries (R183). -/
theorem receivedKind_classKindByte : ∀ (cls : Fin 4) (k : BitVec 3), receivedKind (classKindByte cls k) = k := by decide

/-- The first of the three bits received is the most significant one of the kind (R183). -/
theorem receivedKind_eq (b : Byte) : receivedKind b =
    BitVec.ofNat 3 (4 * (b.getLsbD 2).toNat + 2 * (b.getLsbD 3).toNat + (b.getLsbD 4).toNat) := by
  rw [receivedKind]
  cases b.getLsbD 2 <;> cases b.getLsbD 3 <;> cases b.getLsbD 4 <;> rfl

/-! ## Words as bytes (R182) -/

theorem extractByte_eq {n : Nat} (w : BitVec n) (start : Nat) :
    w.extractLsb' start 8 = BitVec.ofNat 8 (w.toNat / 2 ^ start) := by
  rw [BitVec.extractLsb', Nat.shiftRight_eq_div_pow]

theorem word16Bytes_eq (w : Word16) :
    word16Bytes w = [BitVec.ofNat 8 w.toNat, BitVec.ofNat 8 (w.toNat / 2 ^ 8)] := by
  simp only [word16Bytes, extractByte_eq, Nat.pow_zero, Nat.div_one]

theorem word32Bytes_eq (w : Word32) : word32Bytes w =
    [BitVec.ofNat 8 w.toNat, BitVec.ofNat 8 (w.toNat / 2 ^ 8), BitVec.ofNat 8 (w.toNat / 2 ^ 16),
      BitVec.ofNat 8 (w.toNat / 2 ^ 24)] := by
  simp only [word32Bytes, extractByte_eq, Nat.pow_zero, Nat.div_one]

/-! ## The check (R96) -/

theorem crcBit_eq (r : Word16) (b : Bool) :
    crcBit r b = (r <<< 1) ^^^ (if b ≠ r.getLsbD 15 then 0x1021#16 else 0x0000#16) := by
  unfold crcBit
  generalize r.getLsbD 15 = high
  cases b <;> cases high <;> simp

/-- Each byte sent adds its eight bits to the register, least significant first. -/
theorem crc16_snoc (sent : List Byte) (b : Byte) : crc16 (sent ++ [b]) = [0, 1, 2, 3, 4, 5, 6, 7].foldl
    (fun r k => crcBit r (b.getLsbD k)) (crc16 sent) := by
  have bits : List.range 8 = [0, 1, 2, 3, 4, 5, 6, 7] := rfl
  rw [crc16, List.foldl_append, ← crc16, List.foldl_cons, List.foldl_nil, crcByte, bits]

theorem crc16_zero : crc16 [0x00#8] = 0xE1F0#16 := by decide

theorem crc16_one : word16Bytes (crc16 [0x01#8]) = [0x78#8, 0x70#8] := by decide

/-! ## Lengths (R95) -/

theorem payloadLengthOk_iff (k : BitVec 3) (n : Nat) : payloadLengthOk k n = true ↔
    (k = 0 ∧ n = 17) ∨ (k = 1 ∧ n = 4) ∨ (k = 2 ∧ n = 3) ∨ (k = 3 ∧ n = 5) ∨ (k = 4 ∧ n = 1) ∨ (k = 5 ∧ n = 1) ∨
      (k = 6 ∧ n = 3) ∨ (k = 7 ∧ ∃ j : Nat, j ≤ 5 ∧ n = 6 + 5 * j) := by
  have segments : (∃ j : Nat, j ≤ 5 ∧ n = 6 + 5 * j) ↔ n = 6 ∨ n = 11 ∨ n = 16 ∨ n = 21 ∨ n = 26 ∨ n = 31 := by
    constructor
    · rintro ⟨j, few, rfl⟩
      omega
    · intro lengths
      exact ⟨(n - 6) / 5, by omega, by omega⟩
  rw [segments]
  have kinds : k = 0 ∨ k = 1 ∨ k = 2 ∨ k = 3 ∨ k = 4 ∨ k = 5 ∨ k = 6 ∨ k = 7 := by
    revert k
    decide
  rcases kinds with rfl | rfl | rfl | rfl | rfl | rfl | rfl | rfl <;> simp [payloadLengthOk, or_assoc]

/-- The longest payload of a kind is the SNAPSHOT segment of five entries (R95). -/
theorem payloadLength_le {k : BitVec 3} {n : Nat} (ok : payloadLengthOk k n = true) : n ≤ 31 := by
  rw [payloadLengthOk_iff] at ok
  omega

/-! ## The receiver's tests (R99) -/

section Received
variable {f : RxFrame} {b0 b1 length c0 c1 : Byte} {payload : List Byte}
  (layout : f.bytes.map (·.data) = [b0, b1, length] ++ payload ++ [c0, c1])
include layout

theorem rxFormError_iff : rxFormError f = true ↔ (∃ b ∈ f.bytes, b.lead = .recessive ∨ b.tail = .dominant) ∨
    b0.extractLsb' 5 3 ≠ 0b111#3 ∨ b1.extractLsb' 4 4 ≠ 0b1111#4 ∨ 32 < length.toNat ∨
      payloadLengthOk (receivedKind b0) length.toNat = false := by
  have data : rxData f = [b0, b1, length] ++ payload ++ [c0, c1] := layout
  simp [rxFormError, rxLength, data, or_assoc]

theorem rxCheckError_iff (whole : payload.length = if length.toNat ≤ 32 then length.toNat else 32) :
    rxCheckError f = true ↔ word16Bytes (crc16 ([b0, b1, length] ++ payload)) ≠ [c0, c1] := by
  have data : rxData f = [b0, b1, length] ++ payload ++ [c0, c1] := layout
  have read : rxLength f = length.toNat := by simp [rxLength, data]
  have covered : rxByteCount f - 2 = ([b0, b1, length] ++ payload).length := by
    rw [rxByteCount, read, List.length_append, whole]
    split <;> simp +arith
  rw [rxCheckError, covered, data, List.drop_left, List.take_left, bne_iff_ne, ne_comm]

theorem rxDamaged_iff (whole : payload.length = if length.toNat ≤ 32 then length.toNat else 32) :
    rxDamaged f = true ↔ (∃ b ∈ f.bytes, b.lead = .recessive ∨ b.tail = .dominant) ∨
      b0.extractLsb' 5 3 ≠ 0b111#3 ∨ b1.extractLsb' 4 4 ≠ 0b1111#4 ∨ 32 < length.toNat ∨
      payloadLengthOk (receivedKind b0) length.toNat = false ∨
      word16Bytes (crc16 ([b0, b1, length] ++ payload)) ≠ [c0, c1] := by
  rw [rxDamaged, Bool.or_eq_true, rxFormError_iff layout, rxCheckError_iff layout whole]
  simp only [or_assoc]

end Received

/-- A frame received as built. -/
def Frame.received (f : Frame) : RxFrame :=
  { bytes := f.bytes.map fun b => { lead := .dominant, data := b, tail := .recessive } }

theorem Frame.received_data (f : Frame) : f.received.bytes.map (·.data) = f.bytes := by
  simp [Frame.received, Function.comp_def]

/-- A frame received as built is whole when its payload has a length of its kind (R95, R99). -/
theorem Frame.received_whole {f : Frame} (ok : payloadLengthOk (noticeKind f.notice) (noticePayload f.notice).length = true) :
    rxDamaged f.received = false := by
  have short := payloadLength_le ok
  have length : (BitVec.ofNat 8 (noticePayload f.notice).length).toNat = (noticePayload f.notice).length := by
    rw [BitVec.toNat_ofNat, Nat.mod_eq_of_lt (by omega)]
  have layout : f.received.bytes.map (·.data) =
      [classKindByte f.cls (noticeKind f.notice), senderByte f.sender, BitVec.ofNat 8 (noticePayload f.notice).length] ++
        noticePayload f.notice ++ word16Bytes (crc16 f.body) := f.received_data
  have framed : ∀ b ∈ f.received.bytes, b.lead = .dominant ∧ b.tail = .recessive := by
    intro b listed
    obtain ⟨x, -, rfl⟩ := List.mem_map.1 listed
    exact ⟨rfl, rfl⟩
  rw [Bool.eq_false_iff, ne_eq, rxDamaged_iff layout (by rw [length, if_pos (by omega)]), length, receivedKind_classKindByte, ok]
  rintro (⟨b, listed, lead | tail⟩ | spare | spare | long | other | check)
  · exact nomatch lead.symm.trans (framed b listed).1
  · exact nomatch tail.symm.trans (framed b listed).2
  · exact spare (classKindByte_bits _ _).2
  · exact spare (senderByte_bits _).2
  · omega
  · exact nomatch other
  · exact check rfl

/-- Settles O28: the arbitration field bit by bit, the check as a register, the kinds by their tables, the receiver by its tests. -/
theorem frameBytesFollowTheLayout : Obligations.FrameBytesFollowTheLayout := by
  refine ⟨fun f => ?_, ⟨rfl, fun sent b => by simp only [crc16_snoc, crcBit_eq]⟩, ⟨crc16_zero, crc16_one⟩,
    fun _ => ⟨rfl, rfl⟩, fun _ => ⟨rfl, rfl⟩,
    fun _ => ⟨rfl, rfl⟩, fun _ => ⟨rfl, rfl⟩, fun _ => ⟨rfl, rfl⟩, fun _ => ⟨rfl, rfl⟩, fun _ => ⟨rfl, rfl⟩, fun _ => ⟨rfl, rfl⟩,
    word16Bytes_eq, word32Bytes_eq, payloadLengthOk_iff, fun f b0 b1 length c0 c1 payload layout whole => ?_,
    fun f ok => Frame.received_whole ok⟩
  · obtain ⟨fields, ones⟩ := classKindByte_bits f.cls (noticeKind f.notice)
    obtain ⟨number, ones'⟩ := senderByte_bits f.sender
    exact ⟨_, _, noticePayload f.notice, rfl, rfl, fields, ones, number, ones'⟩
  · intro kind
    rw [rxDamaged_iff layout whole, receivedKind_eq]

end Sys2Proof.Machine
end

section
/-! PROOF. The PRESENCE that decides the window of a station in LISTENING (R107, R128, R142 to R145), for O41. -/

namespace Sys2Proof.Machine

section Window
variable {s : State} (listening : s.ru.state = .listening) (sender : StationId) (p : PresencePayload)
include listening

theorem State.applies_of_listening : s.applies = false := by simp [State.applies, listening]

/-- In LISTENING a frame is taken off the line, no more: the list is empty and stays so (R3, R121). -/
theorem State.taken_of_listening (sound : s.Sound) (n : Notice) :
    let u := s.taken sender none n
    u.cs = s.cs ∧ u.et = s.et ∧ u.ru = s.ru ∧ u.sq.items = [] ∧ u.sq.nextAge = s.sq.nextAge := by
  have stands : (s.begun none n).applies = false := (s.begun_none_applies n).trans (State.applies_of_listening listening)
  have begun : (s.begun none n).et = s.et ∧ (s.begun none n).sq = s.sq :=
    ⟨(s.begun_frame none n).2.1, (s.begun_frame none n).2.2.2.1⟩
  obtain ⟨cs, et, ru, -⟩ := State.taken_frame_of_not sender stands
  rw [State.moveCursor_none, State.begun_none_ru] at ru
  have empty : (s.begun none n).sq.items = [] := by
    rw [begun.2]
    exact sound.settled.list.empty (by rw [listening]; rfl)
  refine ⟨cs, et, ru, ?_, ?_⟩
  · have kept := State.settleQueue_of_unchanged (s := s) (u := s.begun none n) (by rw [begun.1]) sender n
    rw [State.taken_eq, State.applyFrame_of_not sender stands, kept, State.withdrawOvertaken]
    split <;> simp [empty]
  · rw [State.taken_eq, State.applyFrame_of_not sender stands, State.settleQueue_nextAge, begun.2]

/-- The PRESENCE decides the window, and no duty follows from it (R138, R142). -/
theorem State.foreign_of_listening (other : ((s.taken sender none (.presence p)).decideWindow p).ru.state ≠ .member) :
    s.foreign sender (.presence p) = State.close s ((s.taken sender none (.presence p)).decideWindow p) := by
  have notOwn : ∀ u : State, u.ru.state ≠ .member → u.isOwnReference = false := fun u stays => by
    rw [Bool.eq_false_iff]
    exact fun own => stays (State.member_of_isOwnReference own)
  have moved : s.moved sender none (.presence p) = (s.taken sender none (.presence p)).decideWindow p := by
    rw [State.moved, State.settleMembership, State.settlePresence, if_pos (State.inState_iff.2 listening)]
  rw [State.foreign, State.dutiful_eq, moved,
    State.takeDuties_of_neither (notOwn _ (by rw [listening]; exact nofun)) (notOwn _ other)]

end Window

theorem State.enterJoining_et (s : State) : s.enterJoining.et =
    { s.et with table := Vector.replicate 256 Entry.pristine, countValid := false } := by
  simp [State.enterJoining, State.startJoinAttempt_et]

/-- A station whose roster is cleared and that is no MEMBER names no reference (R138). -/
theorem State.reference_of_absent {s : State} (other : s.ru.state ≠ .member) (absent : ∀ u, s.record u = RosterRecord.absent) :
    s.reference = none := by
  have nobody : ∀ u, s.qualifies u = false := fun u => by
    simp [State.qualifies, State.inState, other, absent, RosterRecord.absent]
  simp [State.reference, nobody]

/-- What an entry to JOINING with an empty list leaves, through the close of its event (R2, R129, R133, R142, R145). -/
theorem State.enterJoining_fromEmpty {u : State} (empty : u.sq.items = []) (old : State) :
    let t := State.close old u.enterJoining
    t.ru.state = .joining ∧ t.ru.windowTimer = none ∧ t.ru.joinMode = some .join ∧ t.ru.attempt = 1 ∧
      t.ru.attemptTimer = some (8 * u.presenceMs) ∧ t.ru.presenceTimer = some u.presenceMs ∧ t.ru.ownJoin = false ∧
      t.et.countValid = false ∧ (∀ i : EntryIndex, t.entry i = Entry.pristine ∧ t.ru.coverage[i] = false) ∧
      (∀ v : StationId, t.record v = RosterRecord.absent) ∧ t.reference = none ∧
      t.sq.items = [{ kind := .join .join, cls := 3, age := u.sq.nextAge }] := by
  intro t
  have ru : t.ru = _ := (State.close_frame u.enterJoining old).2.2.1.trans u.enterJoining_ru
  have et : t.et = _ := (State.close_frame u.enterJoining old).2.1.trans u.enterJoining_et
  have absent : ∀ v : StationId, t.record v = RosterRecord.absent := fun v => by simp only [State.record, ru]; simp
  have joining : t.ru.state = .joining := by rw [ru]
  refine ⟨joining, by rw [ru], by rw [ru], by rw [ru], by rw [ru], by rw [ru], by rw [ru], by rw [et],
    fun i => ⟨by simp only [State.entry, et]; simp, by simp only [ru]; simp⟩, absent,
    State.reference_of_absent (by rw [joining]; exact nofun) absent, ?_⟩
  rw [(State.close_frame _ old).2.2.2.2.1, State.enterJoining_items, empty]
  rfl

/-- What an entry to REFUSED leaves, through the close of its event (R107, R121, R128). -/
theorem State.refused_closed (u old : State) (reason : RefusalReason) :
    let t := State.close old (u.enterOut .refused (some reason))
    t.ru.state = .refused ∧ t.ru.refusal = some reason ∧ t.ru.windowTimer = none ∧ t.et = u.et ∧ u.rosterFrozen t ∧
      t.lc.vetoCount = 0 ∧ t.sq.items = [] := by
  intro t
  have ru : t.ru = _ := (State.close_frame _ old).2.2.1.trans (u.enterOut_ru .refused (some reason))
  refine ⟨by rw [ru], by rw [ru], by rw [ru], by simp [t], fun v => ?_, by simp [t, State.enterOut_lc],
    by simp [t, State.enterOut_sq]⟩
  simp only [State.record, ru, Fin.getElem_fin, vmap_get]

/-- Settles O41, by what the PRESENCE carries. -/
theorem presenceDecidesTheWindow : Obligations.PresenceDecidesTheWindow := by
  intro s sender p sound listening receives
  have run : exec (.presenceAccepted sender p) s = .next (s.foreign sender (.presence p)) :=
    State.receives_run receives sender (.presence p)
  obtain ⟨cs, et, ru, items, nextAge⟩ := State.taken_of_listening listening sender sound (.presence p)
  have decided := State.foreign_of_listening listening sender p
  have period := State.presenceMs_congr cs
  generalize s.taken sender none (.presence p) = u at *
  refine ⟨fun member same => ?_, fun member differs => ?_, fun other => ?_⟩
  · have window : u.decideWindow p = u.enterJoining := by
      rw [State.decideWindow, if_pos member, if_pos (by rw [cs, same])]
    rw [decided (by rw [window, u.enterJoining_ru]; exact nofun), window] at run
    have joined := State.enterJoining_fromEmpty items s
    rw [period, nextAge] at joined
    exact ⟨_, run, joined⟩
  · have window : u.decideWindow p = u.enterOut .refused (some .profileMismatch) := by
      rw [State.decideWindow, if_pos member, if_neg (by rw [cs]; exact differs)]
    rw [decided (by rw [window, u.enterOut_ru]; exact nofun), window] at run
    obtain ⟨state, reason, timer, table, frozen, rest⟩ := State.refused_closed u s .profileMismatch
    exact ⟨_, run, state, reason, timer, table.trans et, fun v =>
      (frozen v).trans (by rw [State.record_congr (congrArg RosterUnit.roster ru)]), rest⟩
  · have window : u.decideWindow p = u := by rw [State.decideWindow, if_neg other]
    rw [decided (by rw [window, ru, listening]; exact nofun), window] at run
    exact ⟨_, run, (State.close_frame u s).2.2.1.trans ru, (State.close_frame u s).2.1.trans et⟩

end Sys2Proof.Machine
end

section
/-! PROOF. The end of a join or resync attempt that has failed (R106, R107, R128, R145 to R148), for O52. -/

namespace Sys2Proof.Machine

/-! ## The next attempt, or none -/

theorem StationState.attempts_iff (st : StationState) : st.attempts = true ↔ st = .joining ∨ st = .syncing := by
  cases st <;> simp [StationState.attempts]

/-- What starts with every attempt, through the close of its event (R145, R146). -/
theorem State.startAttempt_closed (u old : State) (m : JoinMode) (n : Nat) :
    let t := State.close old (u.startAttempt m n)
    t.ru = { u.ru with
      joinMode := some m, attempt := n, attemptTimer := some (8 * u.presenceMs), ownJoin := false
      coverage := Vector.replicate 256 false, deferredExpiry := false } ∧
      t.et = u.et ∧ t.hasItem ItemKind.isJoin = true := by
  intro t
  refine ⟨by simp [t, State.startAttempt], by simp [t], ?_⟩
  have sq : t.sq = (u.startAttempt m n).sq := by simp [t]
  simp [State.hasItem, sq, State.startAttempt, State.replaceJoin, ItemKind.isJoin]

theorem State.attemptFailed_joins {u : State} (joining : u.ru.state = .joining) (few : u.ru.attempt < 3) :
    u.attemptFailed = u.clearTable.clearRoster.startAttempt .join (u.ru.attempt + 1) := by
  rw [State.attemptFailed, joining]
  exact if_pos few

theorem State.attemptFailed_resyncs {u : State} (syncing : u.ru.state = .syncing) (few : u.ru.attempt < 3) :
    u.attemptFailed = u.startAttempt .resync (u.ru.attempt + 1) := by
  rw [State.attemptFailed, syncing]
  exact if_pos few

theorem State.attemptFailed_refused {u : State} (joining : u.ru.state = .joining) (third : 3 ≤ u.ru.attempt) :
    u.attemptFailed = u.enterOut .refused (some .noResponse) := by
  rw [State.attemptFailed, joining]
  exact if_neg (Nat.not_lt.2 third)

theorem State.attemptFailed_listens {u : State} (syncing : u.ru.state = .syncing) (third : 3 ≤ u.ru.attempt) :
    u.attemptFailed = u.fallToListening := by
  rw [State.attemptFailed, syncing]
  exact if_neg (Nat.not_lt.2 third)

/-- The four ends of a failed attempt (R148). -/
theorem State.attemptFailed_ends {P : State → Prop} {u : State} (attempts : u.ru.state.attempts = true)
    (joins : u.ru.state = .joining → u.ru.attempt < 3 →
      P (u.clearTable.clearRoster.startAttempt .join (u.ru.attempt + 1)))
    (resyncs : u.ru.state = .syncing → u.ru.attempt < 3 → P (u.startAttempt .resync (u.ru.attempt + 1)))
    (refused : u.ru.state = .joining → 3 ≤ u.ru.attempt → P (u.enterOut .refused (some .noResponse)))
    (listens : u.ru.state = .syncing → 3 ≤ u.ru.attempt → P u.fallToListening) : P u.attemptFailed := by
  rcases (StationState.attempts_iff _).1 attempts with joining | syncing <;>
    rcases Nat.lt_or_ge u.ru.attempt 3 with few | third
  · rw [State.attemptFailed_joins joining few]
    exact joins joining few
  · rw [State.attemptFailed_refused joining third]
    exact refused joining third
  · rw [State.attemptFailed_resyncs syncing few]
    exact resyncs syncing few
  · rw [State.attemptFailed_listens syncing third]
    exact listens syncing third

/-- The end of a failed attempt leaves the line but for the veto count, and the table unless a JOIN attempt starts; with
the last attempt it freezes the roster, and another resync attempt keeps it (R128, R146, R148). -/
structure State.KeptAtFailure (u t : State) : Prop where
  inFlight : t.lc.inFlight = u.lc.inFlight
  counters : t.lc.counters = u.lc.counters
  et : u.ru.state = .syncing ∨ 3 ≤ u.ru.attempt → t.et = u.et
  frozen : 3 ≤ u.ru.attempt → u.rosterFrozen t
  roster : u.ru.state = .syncing → u.ru.attempt < 3 → t.ru.roster = u.ru.roster

theorem State.attemptFailed_kept {u : State} (attempts : u.ru.state.attempts = true) (old : State) :
    u.KeptAtFailure (State.close old u.attemptFailed) := by
  refine State.attemptFailed_ends (P := fun v => u.KeptAtFailure (State.close old v)) attempts (fun joining few => ?_)
    (fun syncing few => ?_) (fun joining third => ?_) (fun syncing third => ?_)
  · refine ⟨by simp, by simp, fun other => ?_, fun third => absurd third (by omega), fun syncing => ?_⟩
    · rcases other with syncing | third
      · exact nomatch joining.symm.trans syncing
      · omega
    · exact nomatch joining.symm.trans syncing
  · obtain ⟨ru, et, -⟩ := u.startAttempt_closed old .resync (u.ru.attempt + 1)
    exact ⟨by simp, by simp, fun _ => et, fun third => absurd third (by omega), fun _ _ => by rw [ru]⟩
  · refine ⟨by simp [State.enterOut_lc], by simp [State.enterOut_lc], fun _ => by simp, fun _ v => ?_,
      fun _ few => absurd few (by omega)⟩
    simp [State.record, State.enterOut_ru]
  · refine ⟨by simp, by simp, fun _ => by simp, fun _ v => ?_, fun _ few => absurd few (by omega)⟩
    simp [State.record, State.fallToListening_ru]

/-- The next attempt of the same mode, or the end of the third (R148). -/
theorem State.attemptFailed_retriesOrGivesUp {u : State} (attempts : u.ru.state.attempts = true) (old : State) :
    u.retriesOrGivesUp (State.close old u.attemptFailed) := by
  refine State.attemptFailed_ends (P := fun v => (State.close old v).cs = u.cs → (State.close old v).pending = u.pending →
    (State.close old v).ou.silenceMark = u.ou.silenceMark → (3 ≤ u.ru.attempt → u.rosterFrozen (State.close old v)) →
    u.retriesOrGivesUp (State.close old v)) attempts (fun joining few cs pending mark _ => ⟨cs, pending, mark, ?_⟩)
    (fun syncing few cs pending mark _ => ⟨cs, pending, mark, ?_⟩)
    (fun joining third cs pending mark frozen => ⟨cs, pending, mark, ?_⟩)
    (fun syncing third cs pending mark frozen => ⟨cs, pending, mark, ?_⟩) (by simp) (by simp)
    (by simp [State.close_silenceMark]) (State.attemptFailed_kept attempts old).frozen
  · obtain ⟨ru, et, join⟩ := u.clearTable.clearRoster.startAttempt_closed old .join (u.ru.attempt + 1)
    refine ⟨by rw [ru], fun _ => ⟨by rw [ru]; simp, by rw [ru], by rw [ru]; simp [State.presenceMs],
      by rw [ru, if_pos joining], by rw [ru], fun i => by simp only [ru]; simp, join,
      fun _ => ⟨by rw [et]; simp [State.clearTable], fun i => ?_, fun v => ?_⟩⟩,
      fun third => absurd third (by omega), fun third => absurd third (by omega)⟩
    · simp only [State.entry, et]
      simp [State.clearTable]
    · simp only [State.record, ru]
      simp [State.clearRoster]
  · obtain ⟨ru, -, join⟩ := u.startAttempt_closed old .resync (u.ru.attempt + 1)
    have other : u.ru.state ≠ .joining := by rw [syncing]; exact nofun
    exact ⟨by rw [ru], fun _ => ⟨by rw [ru], by rw [ru], by rw [ru], by rw [ru, if_neg other], by rw [ru],
      fun i => by simp only [ru]; simp, join, fun joining => absurd joining other⟩,
      fun third => absurd third (by omega), fun third => absurd third (by omega)⟩
  · have ru : (State.close old (u.enterOut .refused (some .noResponse))).ru = _ :=
      (State.close_frame _ old).2.2.1.trans (u.enterOut_ru .refused (some .noResponse))
    exact ⟨by rw [ru], fun few => absurd few (by omega),
      fun _ _ => ⟨by rw [ru], by rw [ru], by simp [State.enterOut_sq], by rw [ru], by simp [State.enterOut_lc],
        fun v => by rw [frozen third v]⟩,
      fun _ syncing => nomatch joining.symm.trans syncing⟩
  · have ru : (State.close old u.fallToListening).ru = _ :=
      (State.close_frame _ old).2.2.1.trans u.fallToListening_ru
    exact ⟨by rw [ru], fun few => absurd few (by omega), fun _ joining => (nomatch joining.symm.trans syncing),
      fun _ _ => ⟨by rw [ru], by rw [ru], by simp [State.fallToListening_sq], fun v => by rw [frozen third v]⟩⟩

/-- `u` stands where `s` did when its attempt fails: what the end of the attempt goes by, and what it leaves, are the same. -/
structure State.FailsAs (s u : State) : Prop where
  cs : u.cs = s.cs
  pending : u.pending = s.pending
  mark : u.ou.silenceMark = s.ou.silenceMark
  state : u.ru.state = s.ru.state
  attempt : u.ru.attempt = s.ru.attempt

theorem State.FailsAs.ends {s u : State} (h : s.FailsAs u) (attempts : s.ru.state.attempts = true) (old : State) :
    s.retriesOrGivesUp (State.close old u.attemptFailed) ∧ u.KeptAtFailure (State.close old u.attemptFailed) := by
  rw [← h.state] at attempts
  refine ⟨?_, State.attemptFailed_kept attempts old⟩
  have ends := State.attemptFailed_retriesOrGivesUp attempts old
  unfold State.retriesOrGivesUp at ends ⊢
  rwa [h.cs, h.pending, h.mark, h.state, h.attempt, State.presenceMs_congr h.cs] at ends

/-! ## An expiry that waits for the end of an own attempt (R106, R148) -/

theorem State.takeDeferredExpiry_due {s : State} (due : s.ru.deferredExpiry = true) :
    s.takeDeferredExpiry = (s.onRu fun r => { r with deferredExpiry := false }).attemptFailed := by
  rw [State.takeDeferredExpiry, if_pos due]

/-- While the attempt timer runs, or its expiry waits, a join or resync attempt is under way (R144). -/
theorem State.Sound.attempting {s : State} (sound : s.Sound) (runs : s.ru.attemptTimer ≠ none ∨ s.ru.deferredExpiry = true) :
    s.ru.state.attempts = true := by
  obtain ⟨-, -, -, -, -, attempts, -⟩ := sound.station
  rw [← attempts, Bool.or_eq_true, Option.isSome_iff_ne_none]
  exact runs

/-- The expiry of the attempt timer with no own frame in flight (R148). -/
theorem State.expireAttempt_quiet {s : State} (quiet : s.lc.inFlight = none) :
    s.expireAttempt = (s.onRu fun r => { r with attemptTimer := none }).attemptFailed := by
  have still : (s.onRu fun r => { r with attemptTimer := none }).lc.inFlight.isSome = false := by simp [quiet]
  simp only [State.expireAttempt, still]
  rfl

/-- With a frame in flight the expiry is put off, no more (R106). -/
theorem State.close_expireAttempt_flying {s : State} (outputs : s.OutputsOk) (flying : s.lc.inFlight ≠ none) :
    State.close s s.expireAttempt = { s with ru := { s.ru with attemptTimer := none, deferredExpiry := true } } := by
  have busy : (s.onRu fun r => { r with attemptTimer := none }).lc.inFlight.isSome = true := Option.isSome_iff_ne_none.2 flying
  have deferred : s.expireAttempt = { s with ru := { s.ru with attemptTimer := none, deferredExpiry := true } } := by
    simp only [State.expireAttempt, busy]
    rfl
  rw [deferred]
  exact State.close_idle outputs rfl rfl rfl rfl rfl rfl

/-- An expiry that waited takes effect where the attempt has left line and port alone changed. -/
theorem State.deferred_takesEffect {s : State} (attempts : s.ru.state.attempts = true) (due : s.ru.deferredExpiry = true)
    (lc : LineControl) (lp : LocalPort) :
    let t := State.close s (State.takeDeferredExpiry { s with lc := lc, lp := lp })
    s.retriesOrGivesUp t ∧ State.KeptAtFailure { s with lc := lc, lp := lp } t := by
  rw [State.takeDeferredExpiry_due (by exact due)]
  have same : s.FailsAs (State.onRu { s with lc := lc, lp := lp } fun r => { r with deferredExpiry := false }) :=
    ⟨rfl, rfl, rfl, rfl, rfl⟩
  obtain ⟨ends, kept⟩ := same.ends attempts s
  exact ⟨ends, kept.inFlight, kept.counters, kept.et, kept.frozen, kept.roster⟩

/-- A failed own attempt below exhaustion is reported and counted before the expiry that waited takes effect (R106, R107). -/
theorem State.failAttempt_below {s : State} (f : InFlight) {lc : LineControl} (few : lc.vetoCount + 1 < 8) :
    State.failAttempt { s with lc := lc } f = State.takeDeferredExpiry
      { s with lc := { lc with vetoCount := lc.vetoCount + 1 }, lp := s.portAfter (s.removedOutcome f) } := by
  have counted : (State.reportFailed { s with lc := lc } f.item).countFailure =
      { s with lc := { lc with vetoCount := lc.vetoCount + 1 }, lp := s.portAfter (s.removedOutcome f) } := by
    rw [State.reportFailed_eq]
    exact if_pos few
  rw [State.failAttempt, counted]

/-- How each of the three commands fails the attempt in flight: what it leaves of the line, before the expiry that waited. -/
theorem State.failing_run {s : State} {f : InFlight} {c : Instr} (flight : s.lc.inFlight = some f)
    (receiver : s.lc.receiverOn = true) (cause : c = .arbitrationLost ∨
      (s.lc.vetoCount + 1 < 8 ∧ ((∃ n, c = .senderFault n) ∨ ∃ rx, c = .frameVetoed rx))) :
    ∃ lc lp, exec c s = .next (State.close s (State.takeDeferredExpiry { s with lc := lc, lp := lp })) ∧ lc.inFlight = none ∧
      (let k := s.lc.counters
       (c = .arbitrationLost → lc.counters = { k with arbitrationLosses := bump k.arbitrationLosses }) ∧
       (∀ n, c = .senderFault n → lc.counters = { k with ownAbandoned := bump k.ownAbandoned }) ∧
       ∀ rx, c = .frameVetoed rx →
        lc.counters = { k with framesVetoed := bump k.framesVetoed, ownVetoed := bump k.ownVetoed }) := by
  rcases cause with rfl | ⟨few, ⟨n, rfl⟩ | ⟨rx, rfl⟩⟩
  · have run : exec .arbitrationLost s = .next (State.close s (s.loseArbitration f)) :=
      congrArg Host.Outcome.next (by rw [flight])
    rw [State.loseArbitration, State.reportFailed_eq] at run
    exact ⟨_, _, run, rfl, fun _ => rfl, nofun, nofun⟩
  · have run : exec (.senderFault n) s = .next (State.close s (s.faultAsSender f n)) :=
      congrArg Host.Outcome.next (by rw [flight])
    exact ⟨_, _, run.trans (congrArg (Host.Outcome.next ∘ State.close s) (State.failAttempt_below f few)), rfl,
      nofun, fun _ _ => rfl, nofun⟩
  · have run : exec (.frameVetoed rx) s = .next (State.close s (s.ownFrameVetoed f)) :=
      congrArg Host.Outcome.next (by rw [if_pos receiver, flight])
    exact ⟨_, _, run.trans (congrArg (Host.Outcome.next ∘ State.close s) (State.failAttempt_below f few)), rfl,
      nofun, nofun, fun _ _ => rfl⟩

end Sys2Proof.Machine
end

section
/-! PROOF. The own frame accepted while an expiry of the attempt timer waits, and O52 (R102, R106, R107, R148). -/

namespace Sys2Proof.Machine

/-! ## The own frame accepted while an expiry waits (R102, R106, R107) -/

theorem State.taken_outside (s : State) (sender : StationId) (own : Option Item) (n : Notice) :
    (s.taken sender own n).cs = s.cs ∧ (s.taken sender own n).pending = s.pending ∧
      (s.taken sender own n).ou.silenceMark = s.ou.silenceMark := by
  refine ⟨by simp [State.taken], by simp [State.taken], ?_⟩
  cases applies : (s.begun own n).applies with
  | true =>
    rw [(State.taken_frame sender applies).2.2.2.2.1, State.applied, State.applyKind_ou, (s.judged_frame sender own n).2.2.2.1]
  | false => rw [(State.taken_frame_of_not sender applies).2.2.2.2.2.1]

/-- In an attempt the own frame, but a LEAVE, changes no own state: a station that joins or rebuilds is nobody's reference, so its
own PRESENCE is not its reference's (R125, R135, R138). -/
theorem State.moved_own_of_attempts {s : State} (attempts : s.ru.state.attempts = true) (x : Item) {n : Notice}
    (stays : ∀ c, n ≠ .leave c) : s.moved s.own (some x) n = s.taken s.own (some x) n := by
  have other : s.ru.state ≠ .member := fun member => by rw [member] at attempts; exact nomatch attempts
  have elsewhere : s.inState .listening = false := by
    rcases (StationState.attempts_iff _).1 attempts with state | state <;> simp [State.inState, state]
  have stranger : s.reference ≠ some s.own := fun own => State.reference_peer own other rfl
  cases n with
  | presence p =>
    simp only [State.moved, State.settleMembership, State.settlePresence, elsewhere, stranger, and_false, if_false,
      Bool.false_eq_true]
    split <;> rfl
  | leave c => exact absurd rfl (stays c)
  | _ => rfl

/-- An own frame applied, with the duties done, leaves what the end of an attempt goes by (R106). -/
theorem State.failsAs_taken (s : State) (x : Item) (n : Notice) : s.FailsAs
    ((State.takeDuties s (s.taken s.own (some x) n)).onRu fun r => { r with deferredExpiry := false }) := by
  obtain ⟨cs, pending, mark⟩ := s.taken_outside s.own (some x) n
  have control := State.takeDuties_sameControl s (s.taken s.own (some x) n)
  refine ⟨by simp [cs], by simp [pending], by simp [mark], ?_, ?_⟩
  · exact control.state.trans (s.taken_standing s.own (some x) n).1
  · rw [RosterUnit.sameControl] at control
    rw [State.onRu_ru, control]
    exact s.taken_attempt s.own (some x) n

section
variable {s : State} (attempts : s.ru.state.attempts = true) (due : s.ru.deferredExpiry = true) (x : Item) {n : Notice}
  (stays : ∀ c, n ≠ .leave c)
include attempts due stays

/-- The frame has been applied; then the expiry that waited takes effect (R106, R148). -/
theorem State.landed_of_due : s.landed s.own x n = State.close s (State.attemptFailed
    ((State.takeDuties s (s.taken s.own (some x) n)).onRu fun r => { r with deferredExpiry := false })) := by
  have waits : (State.takeDuties s (s.taken s.own (some x) n)).ru.deferredExpiry = true := by
    rw [State.takeDuties_deferred, (s.taken_standing s.own (some x) n).2.2, due]
  rw [State.landed, State.dutiful_eq, State.moved_own_of_attempts attempts x stays, State.takeDeferredExpiry_due waits]

/-- The own frame accepted in a resync attempt is counted before the attempt ends (R23, R106). -/
theorem State.landed_count (syncing : s.ru.state = .syncing) (plain : ∀ p, n ≠ .snapshot p) :
    (s.landed s.own x n).et.lineCount = s.countAtAcceptance := by
  have fails := s.failsAs_taken x n
  have kept := (fails.ends attempts s).2
  have applies : (s.begun (some x) n).applies = true :=
    State.begun_applies_of ((State.applies_iff s).2 (.inr (.inr (.inl syncing)))) x n
  rw [State.landed_of_due attempts due x stays, kept.et (.inl (fails.state.trans syncing)), State.onRu_et,
    (State.takeDuties_frame _ s).2.1, (State.taken_frame s.own applies).2.1, State.applied, (State.applyKind_count _ _ _ n).1]
  exact (State.judged_count (.inl plain)).1

end

/-! ## The obligation -/

/-- Settles O52: the expiry put off, the expiry taken, and the two ends of the attempt that it waits for. -/
theorem attemptExpiryRetriesOrGivesUp : Obligations.AttemptExpiryRetriesOrGivesUp := by
  intro s sound
  have run : s.ru.attemptTimer ≠ none → exec .attemptTimerExpiry s = .next (State.close s s.expireAttempt) := fun runs =>
    congrArg Host.Outcome.next (if_pos (Option.isSome_iff_ne_none.2 runs))
  refine ⟨fun runs flying => ?_, fun runs quiet => ?_,
    fun f c flight due => ⟨fun cause => ?_, fun n same kind own stays => ?_⟩⟩
  · rw [run runs, State.close_expireAttempt_flying sound.outputs flying]
  · have same : s.FailsAs (s.onRu fun r => { r with attemptTimer := none }) := ⟨rfl, rfl, rfl, rfl, rfl⟩
    obtain ⟨ends, kept⟩ := same.ends (sound.attempting (.inl runs)) s
    rw [← State.expireAttempt_quiet quiet] at ends kept
    exact ⟨_, run runs, ends, kept.counters, kept.et, kept.frozen, kept.roster⟩
  · obtain ⟨receiver, -, -⟩ := sound.settled.sending flight
    obtain ⟨lc, lp, run, still, counters⟩ := State.failing_run flight receiver cause
    obtain ⟨ends, kept⟩ := State.deferred_takesEffect (sound.attempting (.inr due)) due lc lp
    rw [← kept.counters] at counters
    exact ⟨_, run, ends, kept.inFlight.trans still, counters, kept.et, kept.frozen, kept.roster⟩
  · obtain ⟨receiver, -, -⟩ := sound.settled.sending flight
    have attempts := sound.attempting (.inr due)
    have landed := State.landed_run receiver flight kind
    have sender : f.frame.sender = s.own := own
    rw [← same, sender] at landed
    obtain ⟨quiet, -, vetoes, accepted⟩ := State.landed_line (sound.window flight) s.own f.item f.frame.notice
    refine ⟨_, landed, ?_, quiet, vetoes, accepted,
      fun syncing plain => State.landed_count attempts due f.item stays syncing plain⟩
    rw [State.landed_of_due attempts due f.item stays]
    exact ((s.failsAs_taken f.item f.frame.notice).ends attempts s).1

end Sys2Proof.Machine
end
